-- ==== Sys2Proof/Word.lean ====
section
/-! DEFINITION. The words of the OZ4212 and their plainest arithmetic: bytes, 16-bit counters, time base values,
serials, diameters, station numbers, and the two heads with one value for each. -/
namespace Sys2Proof

/-- A byte on the cell line, the tag port, the service port or in the life store. -/
abbrev Byte := BitVec 8
/-- A 16-bit counter, generation, digest or check. -/
abbrev Word16 := BitVec 16
/-- A time base value: microseconds, modulo 2^32 (00_scope 4.1). -/
abbrev Time := BitVec 32
/-- A wheel serial (00_scope 4.2). -/
abbrev Serial := BitVec 32
/-- A diameter in whole micrometres, 0..16,777,215 (00_scope 4.1). -/
abbrev Diameter := BitVec 24
/-- A station number as H1 carries it: 5 bits (R17). -/
abbrev Station := BitVec 5

/-- The two wheelheads of a grinder-role station (00_scope 4.2). -/
inductive Head where
  | h0 | h1
  deriving DecidableEq, Repr

/-- The head number 0 or 1. -/
def Head.toBit : Head → Bool
  | .h0 => false
  | .h1 => true

def Head.ofBit : Bool → Head
  | false => .h0
  | true => .h1

/-- One value for each head. -/
structure PerHead (α : Type) where
  h0 : α
  h1 : α
  deriving DecidableEq, Repr

namespace PerHead
variable {α : Type}

def get (p : PerHead α) : Head → α
  | .h0 => p.h0
  | .h1 => p.h1

def set (p : PerHead α) : Head → α → PerHead α
  | .h0, a => ⟨a, p.h1⟩
  | .h1, a => ⟨p.h0, a⟩

@[simp] theorem get_set_self (p : PerHead α) (h : Head) (a : α) : (p.set h a).get h = a := by
  cases h <;> rfl

theorem get_set_other (p : PerHead α) {h k : Head} (a : α) (hk : k ≠ h) : (p.set h a).get k = p.get k := by
  cases h <;> cases k <;> first | rfl | exact absurd rfl hk

end PerHead

/-- A running timer: the time base value it was started at and its length in microseconds. -/
structure Timer where
  start : Time
  length : Nat
  deriving DecidableEq, Repr

end Sys2Proof
end

