-- ==== Sys2Proof/Syntax.lean ====
section
/-! DEFINITION. The commands of the block: one constructor of `Instr` for each row of spec/opcode_table.json, with the
operands the row's rule needs from outside the part (samples, measured lengths, pin levels, service bytes, read-back
page contents). -/
namespace Sys2Proof

/-- The levels sampled at slots 8, 9 and 10 of one bit (R5); true is recessive. -/
structure Slot3 where
  s8 : Bool
  s9 : Bool
  s10 : Bool
  deriving DecidableEq, Repr

/-- The levels sampled in a start bit (R4, R5); true is recessive. -/
structure StartSamples where
  s3 : Bool
  s5 : Bool
  s7 : Bool
  s8 : Bool
  s9 : Bool
  s10 : Bool
  deriving DecidableEq, Repr

/-- One character as the sampler saw it (R4 to R6): the recessive samples just before its start edge, the start bit's
samples, the eight data bits most significant first, the mark bit and the stop bit. -/
structure CharSamples where
  recessiveBefore : Nat
  start : StartSamples
  d7 : Slot3
  d6 : Slot3
  d5 : Slot3
  d4 : Slot3
  d3 : Slot3
  d2 : Slot3
  d1 : Slot3
  d0 : Slot3
  mark : Slot3
  stop : Slot3
  deriving DecidableEq, Repr

/-- The start of a sync character (R10): the start edge as R4 sees it, and the time base value at its sample. -/
structure SyncStart where
  recessiveBefore : Nat
  start : StartSamples
  stamp : Time
  deriving DecidableEq, Repr

/-- The measurement of a sync character (R10): the span in nominal slots from the start edge to the fifth falling
edge, and the samples of positions 8, 9 and 10 on the measured grid. -/
structure SyncMeasure where
  span : Nat
  pos8 : Slot3
  pos9 : Slot3
  pos10 : Slot3
  deriving DecidableEq, Repr

/-- Where a dominant run lay as the sampler saw it (R7): wholly inside a character under assembly, begun inside an open veto
slot, or anywhere else. `State.runContext` holds it against the receivers and the slot. -/
inductive RunContext where
  | content
  | veto
  | line
  deriving DecidableEq, Repr

/-- A dominant run that has ended (R7): its length in nominal sample slots (16 to a bit-time), where it lay, whether it
covered a stop-bit decision, and the time base value at its first dominant sample (R43). -/
structure Run where
  slots : Nat
  context : RunContext
  coveredStop : Bool
  stamp : Time
  deriving DecidableEq, Repr

/-- The parts of a frame's transmission (R14). -/
inductive FramePart where
  | breakPart
  | delimiter
  | sync
  | arbitrationData
  | arbitrationFraming
  | body
  | vetoSlot
  deriving DecidableEq, Repr

/-- The parts of a stop call's sending (R39, R42). -/
inductive StopPart where
  | longBreak
  | delimiter
  | sync
  | cellCode
  | sender
  | complement
  deriving DecidableEq, Repr

/-- Where the readback comparator found a mismatch (R14). -/
inductive ReadbackPlace where
  | frame (part : FramePart)
  | stopCall (part : StopPart)
  deriving DecidableEq, Repr

/-- The strap pins (R194). -/
structure Straps where
  stn : BitVec 5
  storeRole : Bool
  rate : BitVec 2
  commission : Bool
  deriving DecidableEq, Repr

/-- The filtered input levels of one head (R120, R124, R135, R158); true is high. -/
structure HeadLevels where
  grind : Bool
  changePos : Bool
  contact : Bool
  load : Bool
  dress : Bool
  deriving DecidableEq, Repr

/-- The filtered input levels of the machine lines (R198). The role decides which of them are read. -/
structure InputLevels where
  ack : Bool
  heads : PerHead HeadLevels
  gantryReady : Bool
  gantryDone : Bool
  gantryFault : Bool
  deriving DecidableEq, Repr

/-- The commands: one constructor for each row of the opcode table, in the table's order. -/
inductive Instr where
  /-- RESET (R195). -/
  | reset
  /-- START_UP (R196): the strap levels, and the input levels the first samples of step 8 give (R198). -/
  | startUp (straps : Straps) (levels : InputLevels)
  /-- LOOPBACK_SELF_TEST_END (R15, R196): the nominal bit-times from the first dominant drive to the second check
  character, and the input levels the first samples of step 8 give (R198). -/
  | loopbackSelfTestEnd (bitTimes : Nat) (levels : InputLevels)
  /-- SYNC_CHARACTER (R10): its start edge, its measurement, or both. -/
  | syncCharacter (start : Option SyncStart) (measure : Option SyncMeasure)
  /-- SYNC_TIMEOUT (R10). -/
  | syncTimeout
  /-- FRAME_PATH_CHARACTER (R11). -/
  | framePathCharacter (c : CharSamples)
  /-- DOMINANT_RUN_END (R7). -/
  | dominantRunEnd (run : Run)
  /-- LINE_FREE (R12). -/
  | lineFree
  /-- VETO_SLOT_END (R25): the slot's 11 bit-times, and whether a run begun in the slot is still going (R26). -/
  | vetoSlotEnd (bits : List Slot3) (runGoing : Bool)
  /-- WATCH_EXPECTED_END (R28). -/
  | watchExpectedEnd
  /-- TRANSMIT_START (R13): whether a dominant sample has been seen since line free. -/
  | transmitStart (dominantSeen : Bool)
  /-- TRANSMIT_OVERTAKEN (R13). -/
  | transmitOvertaken
  /-- READBACK_MISMATCH (R14): where, and whether the sent level was recessive. -/
  | readbackMismatch (place : ReadbackPlace) (sentRecessive : Bool)
  /-- HELD_REQUEST_ADMIT (R32). -/
  | heldRequestAdmit
  /-- STOP_CALL_SEND_COMPLETE (R41). -/
  | stopCallSendComplete
  /-- STOP_CHARACTER (R44). -/
  | stopCharacter (c : CharSamples)
  /-- ROLL_TIMER_EXPIRE (R49). -/
  | rollTimerExpire
  /-- ROLL (R53). -/
  | roll
  /-- PEER_ITEM (R52). -/
  | peerItem
  /-- PEER_SILENCE_TIMEOUT (R54): the station whose silence timer expires. -/
  | peerSilenceTimeout (station : Station)
  /-- DISAGREEMENT_RECORD_EXPIRE (R57). -/
  | disagreementRecordExpire
  /-- ENTER (R72). -/
  | enter
  /-- CLAIM (R74). -/
  | claim
  /-- DISPATCH (R76). -/
  | dispatch
  /-- DELIVER (R77). -/
  | deliver
  /-- MOUNT (R79). -/
  | mount
  /-- DECLARE (R81). -/
  | declare
  /-- RELEASE (R82). -/
  | release
  /-- QUARANTINE (R83). -/
  | quarantine
  /-- RACK (R84). -/
  | rack
  /-- REMOVE (R85). -/
  | remove
  /-- IMAGE_ASK (R96). -/
  | imageAsk
  /-- IMAGE_PART (R101). -/
  | imagePart
  /-- ASK_TIMER_EXPIRE (R95). -/
  | askTimerExpire
  /-- IMAGE_WATCH_EXPIRE (R97). -/
  | imageWatchExpire
  /-- DRESS_STROKE (R121): whether DRESS fell since the head's last stroke, or since the head became live (R120); it has,
  unless the command says otherwise. -/
  | dressStroke (h : Head) (fell : Bool := true)
  /-- GRIND_RISE (R124). -/
  | grindRise (h : Head)
  /-- GRIND_FALL (R125). -/
  | grindFall (h : Head)
  /-- ACK_EVENT (R128): whether ACK fell since the last ACK event, or since start-up completed; it has, unless the
  command says otherwise. -/
  | ackEvent (fell : Bool := true)
  /-- CONTACT_RISE (R139). -/
  | contactRise (h : Head)
  /-- CONTACT_FALL (R140). -/
  | contactFall (h : Head)
  /-- MAXIMUM_CONTACT_TIMER_EXPIRE (R140). -/
  | maximumContactTimerExpire (h : Head)
  /-- CONTACT_TIMEOUT_EXPIRE (R141). -/
  | contactTimeoutExpire (h : Head)
  /-- LOAD_PULSE (R142). -/
  | loadPulse (h : Head)
  /-- LOAD_GATE_END (R142). -/
  | loadGateEnd (h : Head)
  /-- BREAKAGE_REPORT_RETRY (R148). -/
  | breakageReportRetry (h : Head)
  /-- RECONCILIATION_DECLARE_RETRY (R108). -/
  | reconciliationDeclareRetry (h : Head)
  /-- CLAIM_LIFETIME_EXPIRE (R156). -/
  | claimLifetimeExpire (h : Head)
  /-- BACKOFF_EXPIRE (R155). -/
  | backoffExpire (h : Head)
  /-- CHANGE_POS_RISE (R158). -/
  | changePosRise (h : Head)
  /-- CONFIRM_WINDOW_EXPIRE (R161). -/
  | confirmWindowExpire (h : Head)
  /-- SWAP_FRAME_RETRY (R152). -/
  | swapFrameRetry (h : Head)
  /-- SWAP_TAG_RECORD (R159): the CHANGE_POS level of the head the record names. -/
  | swapTagRecord (changePos : Bool)
  /-- TAG_BYTE (R200): the byte and whether its stop bit sampled low. -/
  | tagByte (b : Byte) (framingError : Bool)
  /-- TAG_GAP_TIMEOUT (R200). -/
  | tagGapTimeout
  /-- STORE_TAG_RECORD (R169). -/
  | storeTagRecord
  /-- JOB_START (R172): the GANTRY_READY level. -/
  | jobStart (ready : Bool)
  /-- JOB_STROBE_END (R174): the GANTRY_READY level. -/
  | jobStrobeEnd (ready : Bool)
  /-- GANTRY_READY_RISE (R177). -/
  | gantryReadyRise
  /-- GANTRY_DONE (R175): the GANTRY_READY level. -/
  | gantryDone (ready : Bool)
  /-- GANTRY_FAULT (R177): the GANTRY_READY level. -/
  | gantryFault (ready : Bool)
  /-- CLAIM_WATCH_EXPIRE (R178): the serial of the watched claim. -/
  | claimWatchExpire (serial : Serial)
  /-- STORE_FRAME_RETRY (R168). -/
  | storeFrameRetry
  /-- COMMIT_START (R186). -/
  | commitStart
  /-- PAGE_ERASE_DONE (R188): the page as read after the erase. -/
  | pageEraseDone (content : List Byte)
  /-- PAGE_PROGRAM_DONE (R188): the page as read after programming. -/
  | pageProgramDone (content : List Byte)
  /-- COMMIT_MARK_DONE (R188): the commit mark as read back. -/
  | commitMarkDone (mark : Byte)
  /-- LOAD (R192): the count byte and the bytes. -/
  | load (count : Byte) (bytes : List Byte)
  /-- CLEAR (R192). -/
  | clear
  /-- COMMIT_CONFIG (R193): the page byte, and the page as read back after the erase and after each programming. -/
  | commitConfig (page : Byte) (reads : List (List Byte))
  /-- ERASE_DATA (R193): pages 4, 5, ... as read back after their erases. -/
  | eraseData (reads : List (List Byte))
  /-- READ_PAGE (R193). -/
  | readPage (page : Byte)
  /-- READ_HEAD (R202): the head byte, and the filtered LOAD and DRESS levels when the read is taken, which is
  at the end of a commit where the read waits for one (R201). -/
  | readHead (head : Byte) (load dress : Bool)
  /-- READ_POOL (R202). -/
  | readPool (position : Byte)
  /-- READ_PEER (R202). -/
  | readPeer (position : Byte)
  /-- READ_COUNTERS (R202). -/
  | readCounters
  /-- UNDEFINED_COMMAND (R201): the command byte. -/
  | undefinedCommand (command : Byte)
  /-- TRANSACTION_END (R201). -/
  | transactionEnd
  deriving DecidableEq, Repr

end Sys2Proof
end

