-- ==== Sys2Proof/Decode.lean ====
section
/-! DEFINITION. The command that a word of the opcode table spells: spec/opcode_table.json gives no row any bits, so no
word spells a command. -/
namespace Sys2Proof

/-- The command that the `nbits` bits of `w` spell: none, since no row of the table gives bits. -/
def decodeTableWord (_nbits _w : Nat) : Option Instr := none

end Sys2Proof
end

