-- ==== Sys2Proof/Machine/Crc.lean ====
section
/-! DEFINITION. The one CRC-16 of the cell line and the life store (R203), and the order of bytes in multi-byte fields
(Formats: most significant byte first). -/
namespace Sys2Proof.Machine

/-- One shift of the CRC register with generator 0x1021 (R203). -/
def crcShift (c : Nat) : Nat :=
  if 32768 ≤ c then (2 * c - 65536) ^^^ 0x1021 else 2 * c

/-- One byte taken into the register, most significant bit first (R203). -/
def crcByte (c : Nat) (b : Byte) : Nat :=
  crcShift (crcShift (crcShift (crcShift (crcShift (crcShift (crcShift (crcShift (c ^^^ (256 * b.toNat)))))))))

/-- The register after a list of bytes, from the given value. -/
def crcFrom : Nat → List Byte → Nat
  | c, [] => c
  | c, b :: bs => crcFrom (crcByte c b) bs

/-- The CRC-16 of a list of bytes: initial value all ones, no final inversion (R203). -/
def crc16 (bs : List Byte) : Word16 := BitVec.ofNat 16 (crcFrom 0xFFFF bs)

def hi8 (w : Word16) : Byte := w.extractLsb' 8 8
def lo8 (w : Word16) : Byte := w.extractLsb' 0 8

/-- The bytes of a field, most significant first (Formats). -/
def be16 (w : Word16) : List Byte := [hi8 w, lo8 w]
def be24 (w : BitVec 24) : List Byte := [w.extractLsb' 16 8, w.extractLsb' 8 8, w.extractLsb' 0 8]
def be32 (w : BitVec 32) : List Byte :=
  [w.extractLsb' 24 8, w.extractLsb' 16 8, w.extractLsb' 8 8, w.extractLsb' 0 8]

def of16 (a b : Byte) : Word16 := a ++ b
def of24 (a b c : Byte) : BitVec 24 := a ++ b ++ c
def of32 (a b c d : Byte) : BitVec 32 := a ++ b ++ c ++ d

/-- A byte that says yes or no. -/
def boolByte (b : Bool) : Byte := if b then 1 else 0

end Sys2Proof.Machine
end

