-- ==== Sys2Proof/Config.lean ====
section
/-! DEFINITION. What the part fixes and what the manual leaves free. -/
namespace Sys2Proof.Config

/-- FREE VALUE (R191, notes/assumptions/5.md): a byte that a cut-off erase, program or mark step leaves in the cut page.
No body: nothing can be proved of its value. The state's `freeCounter` indexes it. -/
opaque freeByte : Nat → BitVec 8

/-- The bytes of one life store page (R181). -/
def pageSize : Nat := 128
/-- The pages of the life store (R181). -/
def pageCount : Nat := 64
/-- Places in the transmit queue (R31). -/
def txCapacity : Nat := 6
/-- Places in the receive queue (R34). -/
def rxCapacity : Nat := 4
/-- Peer records (R51). -/
def peerCapacity : Nat := 16
/-- Pool entries (R64). -/
def poolCapacity : Nat := 64
/-- Rack slots 0..47 (00_scope 4.2). -/
def slotCount : Nat := 48
/-- Waiting jobs of the dispatch queue (R170) and requests of the send list (R168). -/
def queueCapacity : Nat := 16
/-- What a byte of the life store that nothing has written reads as: erased (notes/assumptions/4.md). -/
def blankByte : Byte := 0xFF#8

end Sys2Proof.Config
end

