-- ==== Sys2Proof/Machine/State.lean ====
section
/-! DEFINITION. The state of one OZ4212: every register, queue, table, timer, latch, counter and page the manual gives
it, block by block in the order of 00_scope 2.1, and its value after reset. INVENTORY.md, heading State, lists each
field with its rule and its reset value. -/
namespace Sys2Proof.Machine

/-! ## Roles, modes and configuration -/

/-- The role of a station (00_scope 1.2), and of a frame's sender (R17). -/
inductive Role where
  | grinder
  | store
  deriving DecidableEq, Repr

/-- Where the part stands between reset and operation (R195 to R197). -/
inductive Phase where
  /-- Held in reset: start-up has not run (R195). -/
  | held
  /-- Step 6 of start-up: the loopback self-test is running (R15, R196). -/
  | selfTest
  /-- Start-up is complete (R196 step 8). -/
  | live
  /-- Commissioning mode for the whole power cycle (R197). -/
  | commissioning
  /-- CONFIG_FAULT in run mode (R196 step 3). -/
  | configFault
  deriving DecidableEq, Repr

/-- The station constants of configuration page 0 (R182, Formats 13.5). -/
structure StationConstants where
  cellCode : Byte
  obeyPeerStop : Bool
  rollIntervalMs : Nat
  claimLifetimeS : Nat
  confirmWindowS : Nat
  gateMs : Nat
  headFamily : PerHead (BitVec 4)
  deriving DecidableEq, Repr

/-- One entry of the family table (R113, R137), its times decoded by R205. -/
structure Family where
  newDiameter : Diameter
  minDiameter : Diameter
  depth : Nat
  lastParts : Byte
  loadFloor : Word16
  loadCeiling : Word16
  reserve : Nat
  missLimit : Nat
  settleMs : Nat
  maxContactMs : Nat
  timeoutMs : Nat
  deriving DecidableEq, Repr

/-! ## Line interface (chapter 1) -/

/-- The states of the frame-path receiver (1.5). -/
inductive RxPath where
  | off
  | loopback
  | settling
  | idle
  | awaitSync
  | sync
  | frame
  | slot
  | ignore
  | faultListen
  deriving DecidableEq, Repr

/-- How far the receiver in LOOPBACK has taken the looped test frame (R10, R11, R15). -/
inductive LoopStage where
  /-- Waiting for the start edge of the sync character. -/
  | awaitSync
  /-- The sync character is being measured. -/
  | sync
  /-- The frame engine takes its characters. -/
  | frame
  /-- A bad sync character, a framing mark, or a header that the frame engine does not follow. -/
  | failed
  /-- The second check character has come; the check fits, or does not. -/
  | checked (fits : Bool)
  deriving DecidableEq, Repr

/-- The line interface (1.1.1). The measured bit-time is kept as the span of R10, in eighths of a nominal slot. -/
structure LineInterface where
  rx : RxPath
  /-- Measured bit-time in eighths of a nominal slot; 128 is the nominal bit-time (R10, R16). -/
  bitTime : Nat
  /-- The frame stamp of the sync character being measured (R10). -/
  syncStamp : Time
  /-- The line is free (R12). -/
  free : Bool
  /-- The line-free timer: 12 once it has raised line free, 0 since a dominant sample (R12, notes/assumptions/8.md). -/
  freeTimer : Nat
  /-- The offer made at the last line free has not been taken up (R13). -/
  offer : Bool
  /-- The loop switch stands to the internal loop (R15). -/
  loopInternal : Bool
  /-- A veto is being driven in the open slot (R24). -/
  vetoDriving : Bool
  /-- A dominant run that began inside the veto slot goes on behind its end: veto activity (R7, R26). -/
  slotRun : Bool
  /-- The looped test frame, while the receiver is in LOOPBACK (R15). -/
  loop : LoopStage
  deriving DecidableEq, Repr

/-- One character as the transmitter sends it (R3). -/
structure WireChar where
  data : Byte
  mark : Bool
  deriving DecidableEq, Repr

/-- The transmitter (R13, R41): idle, sending a frame's characters, or sending a stop call's. -/
inductive Transmitter where
  | idle
  /-- A frame: its characters after the delimiter, and whether the break is still on the wire (R13 steps 1 and 2). -/
  | frame (chars : List WireChar) (breaking : Bool)
  /-- A stop call: its characters after the delimiter, and whether a mismatch fell in the sender or complement (R42). -/
  | stopCall (chars : List WireChar) (late : Bool)
  deriving DecidableEq, Repr

/-! ## Frames and queues (chapter 2) -/

/-- The thirteen frame kinds (R19). -/
inductive Kind where
  | enter
  | claim
  | dispatch
  | deliver
  | mount
  | declare
  | release
  | quarantine
  | rack
  | remove
  | imageAsk
  | imagePart
  | roll
  deriving DecidableEq, Repr

/-- The blocks that submit frames (R32). -/
inductive Origin where
  | peerTable
  | imageUnit
  | headUnit (h : Head)
  | swapUnit (h : Head)
  | storeUnit
  deriving DecidableEq, Repr

/-- The data of a pool frame (Formats 13.2), each field as it stands on the wire. -/
inductive PoolFrame where
  | enter (serial : Serial) (family : Byte) (diameter : Diameter) (slot : Byte)
  | claim (head : Byte) (family : Byte)
  | dispatch (serial : Serial)
  | deliver (serial : Serial)
  | mount (head : Byte) (newSerial oldSerial : Serial) (oldDiameter : Diameter) (spent : Byte)
  | declare (head : Byte) (serial : Serial) (family : Byte) (diameter : Diameter)
  | release (serial : Serial) (reason : Byte)
  | quarantine (serial : Serial) (reason : Byte) (keep : Byte)
  | rack (serial : Serial) (slot : Byte)
  | remove (serial : Serial) (reason : Byte)
  deriving DecidableEq, Repr

/-- What a submitted frame will carry: a ROLL and an image part take their data when they are sent (R50, R98). -/
inductive Payload where
  | roll
  | imageAsk
  | imagePart (index : Nat)
  | pool (f : PoolFrame)
  deriving DecidableEq, Repr

/-- A frame in the transmit queue (R30, R31): its originator, its attempt count, whether it is on the line, and whether
it has been withdrawn or purged while on the line (R33). -/
structure TxEntry where
  origin : Origin
  payload : Payload
  attempts : Nat
  onLine : Bool
  withdrawn : Bool
  deriving DecidableEq, Repr

/-- An accepted frame in the receive queue (R34). -/
structure RxItem where
  kind : Kind
  role : Role
  synced : Bool
  doubtful : Bool
  sender : Station
  data : List Byte
  stamp : Time
  /-- The own-frame mark: the block of this station that originated the frame (R30, R87). -/
  own : Option Origin
  /-- The consumers that have still to take the item (R34). -/
  forPeers : Bool
  forPool : Bool
  forImage : Bool
  deriving DecidableEq, Repr

/-- The states of the receive side (R20). -/
inductive RxState where
  | none
  | header
  | body
  | check
  /-- The slot is open: the frame is bad, and this station vetoes it (R23). -/
  | slot (bad vetoed : Bool)
  | sleep
  | watch
  deriving DecidableEq, Repr

/-- The frame under reception (2.3). -/
structure RxFrame where
  stamp : Time
  h0 : Option Byte
  h1 : Option Byte
  h2 : Option Byte
  data : List Byte
  check : List Byte
  /-- The running check over H0, H1, H2 and the data (R18). -/
  crc : Word16
  badMark : Bool
  noisy : Bool
  deriving DecidableEq, Repr

/-- The watch record of an abandoned frame (R28): its stamp, and its length to the expected end in microseconds. -/
structure Watch where
  stamp : Time
  lengthUs : Nat
  deriving DecidableEq, Repr

/-- An outcome held until the dominant run that caused it is classed (R26, R47). -/
inductive HeldOutcome where
  | bitError
  | vetoed
  deriving DecidableEq, Repr

/-- The frame engine (chapter 2). -/
structure FrameEngine where
  rxState : RxState
  rxFrame : RxFrame
  watch : Option Watch
  vetoRun : Nat
  deaf : Bool
  doubtful : Bool
  txQueue : List TxEntry
  /-- Held requests, the one held longest first (R32). -/
  held : List (Origin × Payload)
  /-- Removals whose admission of a held request has not been made yet (R32, notes/assumptions/10.md). -/
  admissionsDue : Nat
  heldOutcome : Option HeldOutcome
  rxQueue : List RxItem
  deriving DecidableEq, Repr

/-! ## Stop call unit (chapter 3) -/

/-- An own stop call request (R40, R42): how often it has been sent, and whether it awaits resolution. -/
structure StopRequest where
  sends : Nat
  awaiting : Bool
  deriving DecidableEq, Repr

/-- The stop call matcher (R43). -/
inductive Matcher where
  | idle
  | sync (stamp : Time) (taken : Nat)
  | code (stamp : Time) (taken matched missed : Nat)
  | sender (stamp : Time)
  /-- The sender character taken: its data, and whether its mark was 1 with no framing mark (R45). -/
  | complement (stamp : Time) (data : Byte) (good : Bool)
  deriving DecidableEq, Repr

/-- The stop event record (R45); an absent sender is UNKNOWN. -/
structure StopEvent where
  stamp : Time
  sender : Option Station
  deriving DecidableEq, Repr

structure StopUnit where
  requests : List StopRequest
  /-- The peer-stop latch (R46). -/
  latch : Bool
  matcher : Matcher
  event : Option StopEvent
  /-- The matcher has failed on a character with a framing mark while a request awaits resolution; what follows waits for
  the class of the run (R6, R42, R48, notes/assumptions/55.md). -/
  failHeld : Bool
  deriving DecidableEq, Repr

/-! ## Peer table (chapter 4) -/

/-- The roll values of a peer record (R51). -/
structure RollValues where
  synced : Bool
  doubtful : Bool
  generation : Word16
  digest : Word16
  familyDigest : Word16
  condition0 : Byte
  condition1 : Byte
  latched : Bool
  deriving DecidableEq, Repr

/-- A peer record at its position 0..15 (R51). -/
structure PeerRecord where
  pos : Nat
  station : Station
  role : Role
  lastHeard : Time
  silent : Bool
  roll : Option RollValues
  deriving DecidableEq, Repr

structure Disagreement where
  station : Station
  stamp : Time
  deriving DecidableEq, Repr

structure PeerTable where
  /-- Peer records in ascending position (R51). -/
  records : List PeerRecord
  /-- Stations with a SILENT record, in the order they went silent (R54). -/
  silentOrder : List Station
  disagreement : Option Disagreement
  familyMismatch : Bool
  roleClash : Bool
  rollTimer : Option Timer
  deriving DecidableEq, Repr

/-! ## Pool engine (chapter 5) -/

inductive PoolState where
  | free
  | claimed
  | transit
  | delivered
  | mounted
  | returning
  | quarantined
  deriving DecidableEq, Repr

structure Holder where
  station : Station
  head : Head
  atChange : Bool
  deriving DecidableEq, Repr

/-- A pool entry at its local position 0..63 (R61, R64). -/
structure Entry where
  pos : Nat
  serial : Serial
  family : BitVec 4
  state : PoolState
  spent : Bool
  diameter : Diameter
  holder : Option Holder
  slot : Option (BitVec 6)
  deriving DecidableEq, Repr

/-- The pool table: the entries in ascending position (R64). -/
abbrev Table := List Entry

inductive SyncState where
  | unsynced
  | joining
  | synced
  deriving DecidableEq, Repr

/-- Refusal reasons (5.3.1). -/
inductive PoolRefusal where
  | role
  | badField
  | unknownWheel
  | wrongState
  | notHolder
  | tableFull
  | duplicate
  | slotTaken
  | headBusy
  | noSister
  deriving DecidableEq, Repr

/-- A last-refusal record (R71): for CLAIM the serial field holds the family. -/
structure LastRefusal where
  kind : Kind
  serial : Serial
  reason : PoolRefusal
  stamp : Time
  deriving DecidableEq, Repr

structure PoolEngine where
  table : Table
  generation : Word16
  digest : Word16
  sync : SyncState
  headRefusal : PerHead (Option LastRefusal)
  storeRefusal : Option LastRefusal
  deriving DecidableEq, Repr

/-! ## Image unit (chapter 6) -/

/-- The collection of a joiner (R93, R101). -/
structure Collection where
  responder : Station
  generation : Word16
  partCount : Nat
  entryCount : Nat
  nextIndex : Nat
  entries : List Entry
  deriving DecidableEq, Repr

inductive Responder where
  | idle
  | queued
  | running
  deriving DecidableEq, Repr

/-- The image buffer (R98): the entries in canonical order with the generation and the digest. -/
structure ImageBuffer where
  entries : List Entry
  generation : Word16
  digest : Word16
  deriving DecidableEq, Repr

/-- The watch on another responder (R97). -/
structure ImageWatch where
  station : Station
  generation : Word16
  timer : Timer
  deriving DecidableEq, Repr

structure ImageUnit where
  askTimer : Option Timer
  askCount : Nat
  partSinceAsk : Bool
  askingStopped : Bool
  collection : Option Collection
  responder : Responder
  /-- The running transfer's part 0 has been reported sent (R97). -/
  part0Sent : Bool
  buffer : Option ImageBuffer
  restarts : Nat
  repeatPending : Bool
  watch : Option ImageWatch
  /-- A frame the unit submits once its one held request has been admitted (R32, notes/assumptions/11.md). -/
  deferred : Option Payload
  deriving DecidableEq, Repr

/-! ## Head units (chapters 7 and 8) -/

inductive HoldReason where
  | missing
  | overlong
  | conflict
  deriving DecidableEq, Repr

/-- The condition of a head with a recorded wheel (R112, R115); the hold reason is present in HOLD alone. -/
inductive Condition where
  | serving
  | wornSoon
  | lastParts
  | spent
  | hold (reason : HoldReason)
  | broken
  deriving DecidableEq, Repr

/-- The head record of a wheel (R112). -/
structure HeadRecord where
  serial : Serial
  family : BitVec 4
  diameter : Diameter
  dressCount : Word16
  partsCount : BitVec 32
  partsLeft : Option Byte
  condition : Condition
  deriving DecidableEq, Repr

/-- The check set latched when a cycle opens (R137). -/
structure CheckSet where
  gateMs : Nat
  loadFloor : Word16
  loadCeiling : Word16
  missLimit : Nat
  settleMs : Nat
  timeoutMs : Nat
  maxContactMs : Nat
  deriving DecidableEq, Repr

/-- The contact timeout (R138). -/
inductive ContactTimeout where
  | running (t : Timer)
  | stopped
  | expired
  deriving DecidableEq, Repr

/-- A load gate: its start and its pulse count (R138). -/
structure Gate where
  start : Time
  pulses : Word16
  deriving DecidableEq, Repr

/-- An open grind cycle with its check state (R124, R138). -/
structure Cycle where
  contactFlag : Bool
  verdictFlag : Bool
  evaluationPending : Bool
  checks : CheckSet
  /-- The contact stamp of the contact in progress (R139). -/
  contact : Option Time
  timeout : ContactTimeout
  maxTimer : Option Timer
  gate : Option Gate
  misses : Nat
  deriving DecidableEq, Repr

/-- The state of the breakage report (R148). -/
inductive ReportState where
  | none
  | due
  | outstanding
  deriving DecidableEq, Repr

/-- A reconciliation DECLARE that is outstanding (R108): its frame, and the timer of its next submission after a
*not sent*. -/
structure ReconDeclare where
  frame : PoolFrame
  retry : Option Timer
  deriving DecidableEq, Repr

structure HeadUnit where
  record : Option HeadRecord
  cycle : Option Cycle
  report : ReportState
  /-- The QUARANTINE reason of the report: 1 CRASH, 2 LOST (R148). -/
  reportReason : Byte
  reportRetry : Option Timer
  declare : Option ReconDeclare
  /-- The DRESS level has risen since reset: a stroke was taken, or the level was high as the head became live; the next
  stroke needs a fall and a new rise (R120). -/
  dressRisen : Bool
  deriving DecidableEq, Repr

/-! ## Swap units (chapter 9) -/

inductive SwapState where
  | idle
  | claiming
  | backoff
  | await
  | delivered
  | confirming
  | mounting
  | failed
  deriving DecidableEq, Repr

/-- The confirm window timer (R151). -/
inductive Window where
  | stopped
  | running (t : Timer)
  | expired
  deriving DecidableEq, Repr

/-- The outstanding frame of a swap unit (R151): `sent` once the transmit side has reported it sent (R87), and the state
of the unit that sent it (R152). -/
structure Outstanding where
  frame : PoolFrame
  sent : Bool
  sentIn : SwapState
  deriving DecidableEq, Repr

/-- A frame a rule has called for and the unit has not submitted yet (R152). -/
inductive Want where
  /-- A new CLAIM if the head still needs a sister (R157). -/
  | claim
  /-- The new CLAIM that follows an own RELEASE (R156, R161). -/
  | claimAgain
  | releaseExpired
  | releaseWindow
  | releaseNotNeeded
  | mismatch (serial : Serial)
  /-- The MOUNT as it was prepared on entering MOUNTING (R162). -/
  | mount (f : PoolFrame)
  /-- A frame whose wait after *not sent* is over, with the state of the unit that sent it (R152). -/
  | again (f : PoolFrame) (sentIn : SwapState)
  deriving DecidableEq, Repr

/-- A frame answered *not sent*, with the timer of its next submission and the state of the unit that sent it (R152). -/
structure SwapRetry where
  frame : PoolFrame
  timer : Timer
  sentIn : SwapState
  deriving DecidableEq, Repr

structure SwapUnit where
  state : SwapState
  held : Option Serial
  heldFamily : BitVec 4
  /-- Present while the held entry is CLAIMED (R151), and for one adopted in TRANSIT (R109, notes/assumptions/46.md). -/
  claimStamp : Option Time
  attempts : Nat
  lifetime : Option Timer
  backoff : Option Timer
  backoffFamily : BitVec 4
  /-- The backoff has ended while a tag DECLARE was outstanding (R155, R164). -/
  backoffEnded : Bool
  window : Window
  outstanding : Option Outstanding
  /-- The frames called for and not submitted yet, in the order of their rules (R152). -/
  wants : List Want
  /-- The frames answered *not sent* that wait for their next submission (R152). -/
  retries : List SwapRetry
  notNeeded : Bool
  tagDeclare : Bool
  deriving DecidableEq, Repr

/-! ## Store unit (chapter 10) -/

/-- A place of a gantry job (R174). -/
inductive Place where
  | slot (n : BitVec 6)
  | chute
  | inspection
  | change (station : Station) (head : Head)
  deriving DecidableEq, Repr

inductive JobKind where
  | fetch
  | ret
  deriving DecidableEq, Repr

/-- A job (R167); the destination of a RETURN is absent until it starts. -/
structure Job where
  kind : JobKind
  serial : Serial
  source : Place
  dest : Option Place
  key : Time
  deriving DecidableEq, Repr

inductive JobPhase where
  | starting
  | armed
  | moving
  | closing
  deriving DecidableEq, Repr

structure JobInProgress where
  job : Job
  phase : JobPhase
  deriving DecidableEq, Repr

/-- Where a job frame or track scan frame stands (R168): still to be submitted, submitted, or waiting for its next
submission after a *not sent*. -/
inductive SubmitStatus where
  | due
  | submitted
  | waiting (t : Timer)
  deriving DecidableEq, Repr

structure StoreFrame where
  frame : PoolFrame
  status : SubmitStatus
  deriving DecidableEq, Repr

/-- A record of the claim list (R178). -/
structure ClaimRecord where
  serial : Serial
  station : Station
  stamp : Time
  expired : Bool
  releasePending : Bool
  deriving DecidableEq, Repr

inductive HeldCompletion where
  | done
  | fault
  deriving DecidableEq, Repr

structure StoreUnit where
  queue : List Job
  job : Option JobInProgress
  reservation : Option (BitVec 6)
  /-- The JOB_STROBE pulse, while it is high (R174). -/
  strobe : Option Timer
  faultLatch : Bool
  claims : List ClaimRecord
  sendList : List PoolFrame
  /-- The one job frame (R168). -/
  jobFrame : Option StoreFrame
  /-- A RACK refused SLOT_TAKEN waits for a slot to become free (R176). -/
  rackWaiting : Bool
  /-- The track scan: its QUARANTINE for the TRANSIT serial it stands at (R180). -/
  track : Option StoreFrame
  heldCompletion : Option HeldCompletion
  deriving DecidableEq, Repr

/-! ## Tag port (R200) -/

/-- A tag record (Formats 13.4). -/
structure TagRecord where
  kind : Byte
  serial : Serial
  family : Byte
  diameter : Diameter
  place : Byte
  deriving DecidableEq, Repr

inductive TagAssembly where
  | idle
  /-- The bytes so far, from 0x7E on, and the gap timer. -/
  | assembling (bytes : List Byte) (gap : Timer)
  | waiting (r : TagRecord)
  deriving DecidableEq, Repr

/-- The tag port (R200): the receive shift register, with the byte that has come in whole and its framing error, the
holding byte, and the record under assembly. -/
structure TagPort where
  shift : Option (Byte × Bool)
  holding : Option (Byte × Bool)
  assembly : TagAssembly
  deriving DecidableEq, Repr

/-! ## Life store (chapter 11) -/

/-- The nonvolatile pages: the bytes that differ from a blank byte, by ascending address 128 * page + offset. -/
abbrev Memory := List Host.Cell

/-- What the commit engine has under way (R186 to R188, R193). -/
inductive Engine where
  | idle
  /-- A commit of a logical id is erasing its page. -/
  | erasing (id page : Nat)
  /-- A commit is programming its page, for the given time (1..3). -/
  | programming (id page try' : Nat)
  /-- A commit is programming its commit mark. -/
  | marking (id page : Nat)
  /-- COMMIT_CONFIG is erasing a configuration page. -/
  | configErase (page : Nat)
  | configProgram (page try' : Nat)
  /-- ERASE_DATA is erasing a page, with the pages that have failed so far. -/
  | dataErase (page failed : Nat)
  deriving DecidableEq, Repr

structure LifeStore where
  pages : Memory
  /-- The current-copy map: logical id and page, by ascending id (R184). -/
  map : List (Nat × Nat)
  sequence : BitVec 32
  lastWritten : Nat
  badPages : List Nat
  /-- Pending logical ids in ascending order (R185). -/
  pending : List Nat
  /-- The id of the last commit (R186); 0 before the first. -/
  lastId : Nat
  buffer : List Byte
  pointer : Nat
  engine : Engine
  /-- STORE_FAULT (R190). -/
  fault : Bool
  deriving DecidableEq, Repr

/-! ## Service port (R201) -/

/-- A read command that waits for a commit to end (R201). -/
inductive ServiceRead where
  | page (p : Nat)
  /-- READ_HEAD, with the filtered LOAD and DRESS levels that the read will find (R135). -/
  | head (h : Head) (load dress : Bool)
  | pool (p : Nat)
  | peer (p : Nat)
  | counters
  deriving DecidableEq, Repr

/-- The service port: SP_SEL low, the answer bytes the host can clock out after the wait bytes, the command being
carried out beyond its own event, and whether its answer is lost. -/
structure ServicePort where
  selected : Bool
  answer : List Byte
  waiting : Option ServiceRead
  answerLost : Bool
  deriving DecidableEq, Repr

/-! ## Counters (12.7) -/

structure Counters where
  noise : Word16
  framing : Word16
  disturbance : Word16
  syncFault : Word16
  unknownKind : Word16
  checkErrors : Word16
  vetoesSent : Word16
  vetoesSeen : Word16
  arbLosses : Word16
  txFail : Word16
  unlearned : Word16
  familyDiff : Word16
  refusals : Word16
  tagErrors : Word16
  tagsIgnored : Word16
  cyclesRefused : Word16
  strokesIgnored : Word16
  overdress : Word16
  verdictsAfterFirst : Word16
  badPages : Word16
  deriving DecidableEq, Repr

/-! ## The whole state -/

structure State where
  /-- The commands that wait, first in, first out. -/
  pending : List Instr
  timeBase : Time
  phase : Phase
  straps : Straps
  /-- The configuration check of this power cycle has failed (R196, R197). -/
  configBad : Bool
  constants : StationConstants
  families : List Family
  familyDigest : Word16
  lineFault : Bool
  line : LineInterface
  transmitter : Transmitter
  fe : FrameEngine
  stop : StopUnit
  peers : PeerTable
  pool : PoolEngine
  image : ImageUnit
  heads : PerHead HeadUnit
  swaps : PerHead SwapUnit
  store : StoreUnit
  tag : TagPort
  life : LifeStore
  service : ServicePort
  levels : InputLevels
  counters : Counters
  /-- The model's own: how many free bytes have been used (notes/assumptions/5.md). -/
  freeCounter : Nat
  deriving DecidableEq, Repr

/-! ## Reset values -/

def Counters.zero : Counters :=
  ⟨0, 0, 0, 0, 0, 0, 0, 0, 0, 0, 0, 0, 0, 0, 0, 0, 0, 0, 0, 0⟩

def HeadLevels.low : HeadLevels := ⟨false, false, false, false, false⟩

/-- Every filtered input level is low after reset (R198). -/
def InputLevels.low : InputLevels := ⟨false, ⟨HeadLevels.low, HeadLevels.low⟩, false, false, false⟩

/-- Before start-up has read them (notes/assumptions/2.md). -/
def Straps.unread : Straps := ⟨0, false, 0, false⟩

/-- Before start-up has read them (notes/assumptions/2.md). -/
def StationConstants.unread : StationConstants := ⟨0, false, 0, 0, 0, 0, ⟨0, 0⟩⟩

/-- R16. -/
def LineInterface.afterReset : LineInterface := ⟨.off, 128, 0, false, 0, false, false, false, false, .awaitSync⟩

/-- No frame under reception (R20); the running check starts at all ones (R18). -/
def RxFrame.empty : RxFrame := ⟨0, none, none, none, [], [], 0xFFFF, false, false⟩

/-- R20, R28, R31, R34. -/
def FrameEngine.afterReset : FrameEngine :=
  ⟨.none, RxFrame.empty, none, 0, false, false, [], [], 0, none, []⟩

/-- R40, R43, R45, R46. -/
def StopUnit.afterReset : StopUnit := ⟨[], false, .idle, none, false⟩

/-- R49, R51. -/
def PeerTable.afterReset : PeerTable := ⟨[], [], none, false, false, none⟩

/-- R64 to R67, R71. -/
def PoolEngine.afterReset : PoolEngine := ⟨[], 0, 0xFFFF, .unsynced, ⟨none, none⟩, none⟩

/-- R93. -/
def ImageUnit.afterReset : ImageUnit :=
  ⟨none, 0, false, false, none, .idle, false, none, 0, false, none, none⟩

/-- R112, R124, R138, R148. -/
def HeadUnit.afterReset : HeadUnit := ⟨none, none, .none, 1, none, none, false⟩

/-- R151. -/
def SwapUnit.afterReset : SwapUnit :=
  ⟨.idle, none, 0, none, 0, none, none, 0, false, .stopped, none, [], [], false, false⟩

/-- R167. -/
def StoreUnit.afterReset : StoreUnit :=
  ⟨[], none, none, none, false, [], [], none, false, none, none⟩

/-- R200. -/
def TagPort.afterReset : TagPort := ⟨none, none, .idle⟩

/-- The volatile state of the life store after reset, over its pages (R184, R191, R192); the sequence and the last written
page before the scan are those of a scan that finds no valid page (notes/assumptions/2.md). -/
def LifeStore.afterReset (pages : Memory) : LifeStore :=
  ⟨pages, [], 0, 63, [], [], 0, List.replicate 128 0xFF#8, 0, .idle, false⟩

/-- SP_DO is released (R195). -/
def ServicePort.afterReset : ServicePort := ⟨false, [], none, false⟩

/-- The machine right after reset (R195), with blank pages (notes/assumptions/4.md). -/
def State.reset : State where
  pending := []
  timeBase := 0
  phase := .held
  straps := Straps.unread
  configBad := false
  constants := StationConstants.unread
  families := []
  familyDigest := 0
  lineFault := false
  line := LineInterface.afterReset
  transmitter := .idle
  fe := FrameEngine.afterReset
  stop := StopUnit.afterReset
  peers := PeerTable.afterReset
  pool := PoolEngine.afterReset
  image := ImageUnit.afterReset
  heads := ⟨HeadUnit.afterReset, HeadUnit.afterReset⟩
  swaps := ⟨SwapUnit.afterReset, SwapUnit.afterReset⟩
  store := StoreUnit.afterReset
  tag := TagPort.afterReset
  life := LifeStore.afterReset []
  service := ServicePort.afterReset
  levels := InputLevels.low
  counters := Counters.zero
  freeCounter := 0

/-! ## Stops -/

/-- The faults a step can end in. The manual lets no command stop the part: LINE_FAULT, STORE_FAULT and CONFIG_FAULT
are states it goes on in. -/
inductive Fault where
  /-- Raised by no command: every address a command can form lies in the 64 pages of R181, and a page number outside
  them is answered REFUSED by the service port (R201). Kept so that a later meaning that reached outside the pages
  would stop by name; safe. -/
  | outsidePages (address : Nat)
  deriving DecidableEq, Repr

/-- The refusals a step can end in. -/
inductive Refusal where
  /-- Raised by `exec` for a command without a meaning yet; safe. No command is left so. -/
  | notModelled (mnemonic : String)
  deriving DecidableEq, Repr

end Sys2Proof.Machine
end

