-- ==== Sys2Proof/Machine/Ops.lean ====
section
/-! DEFINITION. The named operations over the state: saturating counters and timers, one-field updates, the life
store's memory, and orders of lists. -/
namespace Sys2Proof

/-- A counter that stays at its largest value (00_scope 4.1: counters saturate). -/
def satInc {w : Nat} (c : BitVec w) : BitVec w :=
  if c = BitVec.allOnes w then c else c + 1

/-- The microseconds from `start` to `now`, modulo 2^32 (00_scope 4.1). -/
def elapsed (start now : Time) : Nat := (now - start).toNat

/-- The timer's length has passed at `now`. -/
def Timer.due (t : Timer) (now : Time) : Bool := t.length ≤ elapsed t.start now

end Sys2Proof

namespace Sys2Proof.Machine
open Sys2Proof.Config

/-! ## Updates of one block -/

namespace State

def now (s : State) : Time := s.timeBase

def mapLine (f : LineInterface → LineInterface) (s : State) : State := { s with line := f s.line }
def mapFe (f : FrameEngine → FrameEngine) (s : State) : State := { s with fe := f s.fe }
def mapStop (f : StopUnit → StopUnit) (s : State) : State := { s with stop := f s.stop }
def mapPeers (f : PeerTable → PeerTable) (s : State) : State := { s with peers := f s.peers }
def mapPool (f : PoolEngine → PoolEngine) (s : State) : State := { s with pool := f s.pool }
def mapImage (f : ImageUnit → ImageUnit) (s : State) : State := { s with image := f s.image }
def mapStore (f : StoreUnit → StoreUnit) (s : State) : State := { s with store := f s.store }
def mapLife (f : LifeStore → LifeStore) (s : State) : State := { s with life := f s.life }
def mapService (f : ServicePort → ServicePort) (s : State) : State := { s with service := f s.service }
def mapTag (f : TagPort → TagPort) (s : State) : State := { s with tag := f s.tag }
def count (f : Counters → Counters) (s : State) : State := { s with counters := f s.counters }

def head (s : State) (h : Head) : HeadUnit := s.heads.get h
def mapHead (h : Head) (f : HeadUnit → HeadUnit) (s : State) : State :=
  { s with heads := s.heads.set h (f (s.heads.get h)) }

def swap (s : State) (h : Head) : SwapUnit := s.swaps.get h
def mapSwap (h : Head) (f : SwapUnit → SwapUnit) (s : State) : State :=
  { s with swaps := s.swaps.set h (f (s.swaps.get h)) }

/-- The cycle of a head, when one is open (R124). -/
def mapCycle (h : Head) (f : Cycle → Cycle) (s : State) : State :=
  s.mapHead h fun u => { u with cycle := u.cycle.map f }

/-- The record of a head, when it names a wheel (R112). -/
def mapRecord (h : Head) (f : HeadRecord → HeadRecord) (s : State) : State :=
  s.mapHead h fun u => { u with record := u.record.map f }

def headLevels (s : State) (h : Head) : HeadLevels := s.levels.heads.get h
def mapLevels (h : Head) (f : HeadLevels → HeadLevels) (s : State) : State :=
  { s with levels := { s.levels with heads := s.levels.heads.set h (f (s.levels.heads.get h)) } }

def setReady (ready : Bool) (s : State) : State := { s with levels := { s.levels with gantryReady := ready } }

/-! ## What the straps and constants say -/

def isStore (s : State) : Bool := s.straps.storeRole
def role (s : State) : Role := if s.straps.storeRole then .store else .grinder
def station (s : State) : Station := s.straps.stn

/-- The roll interval in microseconds (R49). -/
def rollInterval (s : State) : Nat := s.constants.rollIntervalMs * 1000
/-- The claim lifetime in microseconds (R151). -/
def claimLifetime (s : State) : Nat := s.constants.claimLifetimeS * 1000000
/-- The confirm window in microseconds (R151). -/
def confirmWindow (s : State) : Nat := s.constants.confirmWindowS * 1000000

/-- A timer of the given length in microseconds, started now. -/
def timer (s : State) (us : Nat) : Timer := ⟨s.timeBase, us⟩

def synced (s : State) : Bool := s.pool.sync == .synced

/-- The part runs in run mode with start-up complete (R196 step 8). -/
def isLive (s : State) : Bool := s.phase == .live
/-- The head units and swap units run (R134, R151). -/
def headsLive (s : State) : Bool := s.phase == .live && !s.straps.storeRole
/-- The store unit runs (R167). -/
def storeLive (s : State) : Bool := s.phase == .live && s.straps.storeRole

end State

/-! ## Families (R113, R114) -/

/-- Stands for a family of a table that start-up has not read (notes/assumptions/2.md). -/
def Family.unread : Family := ⟨0, 0, 0, 0, 0, 0, 0, 0, 0, 0, 0⟩

def familyAt (fams : List Family) (f : BitVec 4) : Family := (fams[f.toNat]?).getD Family.unread

/-- R114: minimum + reserve × depth. -/
def Family.wornLine (f : Family) : Nat := f.minDiameter.toNat + f.reserve * f.depth
/-- R114: minimum + depth. -/
def Family.lastLine (f : Family) : Nat := f.minDiameter.toNat + f.depth
/-- R73, R114: minimum + (reserve + 1) × depth. -/
def Family.claimThreshold (f : Family) : Nat := f.minDiameter.toNat + (f.reserve + 1) * f.depth

/-- A diameter of 0 in a tag record stands for the family's new diameter; a family above 15 keeps the diameter as read
(R164, R169). -/
def tagDiameter (fams : List Family) (family : Byte) (d : Diameter) : Diameter :=
  if d = 0 ∧ family.toNat ≤ 15 then (familyAt fams (family.setWidth 4)).newDiameter else d

/-! ## The life store's memory (R181)

Addresses are 128 * page + offset. The list holds the bytes that differ from a blank byte, by strictly rising
address. -/

namespace Memory

/-- The addresses rise strictly from above `low`, stay below the 8192 bytes of the 64 pages, and no byte is blank. -/
def wfAbove : Nat → Memory → Bool
  | _, [] => true
  | low, (a, b) :: rest => low ≤ a && a < 8192 && b != blankByte && wfAbove (a + 1) rest

/-- The canonical form of the pages. -/
def wf (m : Memory) : Bool := wfAbove 0 m

/-- The byte at an address; an unlisted byte reads as blank. -/
def read : Memory → Nat → Byte
  | [], _ => blankByte
  | (k, b) :: rest, a => if k = a then b else read rest a

/-- A byte written at an address: writing a blank byte removes the entry. -/
def write : Memory → Nat → Byte → Memory
  | [], a, b => if b = blankByte then [] else [(a, b)]
  | (k, c) :: rest, a, b =>
    if k < a then (k, c) :: write rest a b
    else if k = a then (if b = blankByte then rest else (a, b) :: rest)
    else if b = blankByte then (k, c) :: rest
    else (a, b) :: (k, c) :: rest

/-- The cells of a list of bytes laid from an address on. -/
def cellsFrom : Nat → List Byte → Memory
  | _, [] => []
  | a, b :: bs => if b = blankByte then cellsFrom (a + 1) bs else (a, b) :: cellsFrom (a + 1) bs

/-- The bytes from an address on, read from a list of cells. -/
def bytesFrom (m : Memory) : Nat → Nat → List Byte
  | _, 0 => []
  | a, n + 1 => read m a :: bytesFrom m (a + 1) n

/-- The cells of one page. -/
def pageCells (m : Memory) (p : Nat) : Memory :=
  m.filter fun c => 128 * p ≤ c.1 && c.1 < 128 * p + 128

/-- The 128 bytes of a page. -/
def readPage (m : Memory) (p : Nat) : List Byte := bytesFrom (pageCells m p) (128 * p) 128

/-- A page content brought to 128 bytes: what a shorter list does not give is blank. -/
def fitPage (bytes : List Byte) : List Byte :=
  bytes.take 128 ++ List.replicate (128 - bytes.length) blankByte

/-- All 128 bytes of a page written at once. -/
def writePage (m : Memory) (p : Nat) (bytes : List Byte) : Memory :=
  m.filter (fun c => c.1 < 128 * p) ++ cellsFrom (128 * p) (fitPage bytes)
    ++ m.filter (fun c => 128 * p + 128 ≤ c.1)

end Memory

/-- Every byte is blank (R183, R188). -/
def isBlank (bytes : List Byte) : Bool := bytes.all (· == blankByte)

/-! ## Orders of lists -/

/-- Insert by a key, behind the elements whose key is not greater. -/
def insertBy {α : Type} (key : α → Nat) (x : α) : List α → List α
  | [] => [x]
  | y :: ys => if key y ≤ key x then y :: insertBy key x ys else x :: y :: ys

/-- The list in ascending order of a key. -/
def sortBy {α : Type} (key : α → Nat) : List α → List α
  | [] => []
  | x :: xs => insertBy key x (sortBy key xs)

/-- The lowest number below `n` that the list does not use. -/
def lowestFree (used : List Nat) (n : Nat) : Option Nat :=
  (List.range n).find? fun k => !used.contains k

/-- Insert into an ascending list of numbers without repeats. -/
def insertAsc (n : Nat) : List Nat → List Nat
  | [] => [n]
  | k :: ks => if n < k then n :: k :: ks else if n = k then k :: ks else k :: insertAsc n ks

/-! ## Checkpoint requests (R132, R179, R185) -/

/-- A checkpoint request makes the id's slot pending; in STORE_FAULT it is dropped. -/
def requestCheckpoint (id : Nat) (s : State) : State :=
  s.mapLife fun l => if l.fault then l else { l with pending := insertAsc id l.pending }

/-- The logical id of a head record (R181). -/
def headId : Head → Nat
  | .h0 => 1
  | .h1 => 2

/-- The logical id of the store image page that holds a position (R179, R181). -/
def imagePageId (pos : Nat) : Nat := 16 + pos / 11

end Sys2Proof.Machine
end

