-- ==== Sys2Proof/Machine/Formats.lean ====
section
/-! DEFINITION. The layouts of chapter 13: header characters and lengths of frames, frame data, the pool entry record,
the tag record, life store pages and configuration pages. -/
namespace Sys2Proof.Machine

/-! ## Frame kinds and headers (R17, R19, Formats 13.1) -/

/-- The kind number (R19). -/
def Kind.number : Kind → BitVec 5
  | .roll => 1
  | .imageAsk => 2
  | .imagePart => 3
  | .enter => 8
  | .claim => 9
  | .dispatch => 10
  | .deliver => 11
  | .mount => 12
  | .declare => 13
  | .release => 14
  | .quarantine => 15
  | .rack => 16
  | .remove => 17

/-- The priority class (R19). -/
def Kind.cls : Kind → BitVec 3
  | .roll => 5
  | .imageAsk => 3
  | .imagePart => 3
  | _ => 2

/-- The kinds of class 2 are the pool frames (R19). -/
def Kind.isPool (k : Kind) : Bool := k.cls == 2

/-- H0: class and kind number (R17). -/
def Kind.h0 (k : Kind) : Byte := k.cls ++ k.number

/-- Every station's accept set: the thirteen kinds (R19). -/
def allKinds : List Kind :=
  [.enter, .claim, .dispatch, .deliver, .mount, .declare, .release, .quarantine, .rack, .remove, .imageAsk,
    .imagePart, .roll]

/-- The kind an H0 value defines, if it is in the accept set (R21). -/
def kindOfH0 (h0 : Byte) : Option Kind := allKinds.find? fun k => k.h0 == h0

/-- H1: role, synced and doubtful flags and the sender's station number (R17). -/
def h1Byte (role : Role) (synced doubtful : Bool) (station : Station) : Byte :=
  BitVec.ofBool (role == .store) ++ BitVec.ofBool synced ++ BitVec.ofBool doubtful ++ station

def h1Role (h1 : Byte) : Role := if h1.getLsbD 7 then .store else .grinder
def h1Synced (h1 : Byte) : Bool := h1.getLsbD 6
def h1Doubtful (h1 : Byte) : Bool := h1.getLsbD 5
def h1Station (h1 : Byte) : Station := h1.extractLsb' 0 5

/-- The allowed data lengths of a kind (Formats 13.2). -/
def allowedLength (k : Kind) (l : Nat) : Bool :=
  match k with
  | .roll => l == 9
  | .imageAsk => l == 0
  | .imagePart => l == 45 || l == 7 || l == 17 || l == 27 || l == 37 || l == 47
  | .enter => l == 9
  | .claim => l == 2
  | .dispatch => l == 4
  | .deliver => l == 4
  | .mount => l == 13
  | .declare => l == 9
  | .release => l == 5
  | .quarantine => l == 6
  | .rack => l == 5
  | .remove => l == 5

/-! ## Frame data (Formats 13.2) -/

def PoolFrame.kind : PoolFrame → Kind
  | .enter .. => .enter
  | .claim .. => .claim
  | .dispatch .. => .dispatch
  | .deliver .. => .deliver
  | .mount .. => .mount
  | .declare .. => .declare
  | .release .. => .release
  | .quarantine .. => .quarantine
  | .rack .. => .rack
  | .remove .. => .remove

def Payload.kind : Payload → Kind
  | .roll => .roll
  | .imageAsk => .imageAsk
  | .imagePart _ => .imagePart
  | .pool f => f.kind

def Payload.isPool : Payload → Bool
  | .pool _ => true
  | _ => false

/-- The data bytes of a pool frame (Formats 13.2). -/
def PoolFrame.data : PoolFrame → List Byte
  | .enter serial family diameter slot => be32 serial ++ [family] ++ be24 diameter ++ [slot]
  | .claim head family => [head, family]
  | .dispatch serial => be32 serial
  | .deliver serial => be32 serial
  | .mount head new old diameter spent => [head] ++ be32 new ++ be32 old ++ be24 diameter ++ [spent]
  | .declare head serial family diameter => [head] ++ be32 serial ++ [family] ++ be24 diameter
  | .release serial reason => be32 serial ++ [reason]
  | .quarantine serial reason keep => be32 serial ++ [reason, keep]
  | .rack serial slot => be32 serial ++ [slot]
  | .remove serial reason => be32 serial ++ [reason]

/-- The pool frame that a kind and its data spell; data of another length spells none. -/
def parsePool (k : Kind) (d : List Byte) : Option PoolFrame :=
  match k, d with
  | .enter, [a, b, c, e, f, x, y, z, sl] => some (.enter (of32 a b c e) f (of24 x y z) sl)
  | .claim, [h, f] => some (.claim h f)
  | .dispatch, [a, b, c, e] => some (.dispatch (of32 a b c e))
  | .deliver, [a, b, c, e] => some (.deliver (of32 a b c e))
  | .mount, [h, a, b, c, e, a', b', c', e', x, y, z, sp] =>
    some (.mount h (of32 a b c e) (of32 a' b' c' e') (of24 x y z) sp)
  | .declare, [h, a, b, c, e, f, x, y, z] => some (.declare h (of32 a b c e) f (of24 x y z))
  | .release, [a, b, c, e, r] => some (.release (of32 a b c e) r)
  | .quarantine, [a, b, c, e, r, k] => some (.quarantine (of32 a b c e) r k)
  | .rack, [a, b, c, e, sl] => some (.rack (of32 a b c e) sl)
  | .remove, [a, b, c, e, r] => some (.remove (of32 a b c e) r)
  | _, _ => none

/-- The serial a pool frame names: for CLAIM the family stands in its place (R71). A MOUNT names two serials, and R71 does
not say which: the one of its new wheel is taken, the model's choice, DESIGN CHOICE (notes/assumptions/66.md). -/
def PoolFrame.named : PoolFrame → Serial
  | .enter serial .. => serial
  | .claim _ family => family.setWidth 32
  | .dispatch serial => serial
  | .deliver serial => serial
  | .mount _ new .. => new
  | .declare _ serial .. => serial
  | .release serial _ => serial
  | .quarantine serial .. => serial
  | .rack serial _ => serial
  | .remove serial _ => serial

/-- The head number on the wire. -/
def headByte : Head → Byte
  | .h0 => 0
  | .h1 => 1

/-- The head a byte names, 0 or 1. -/
def headOfByte (b : Byte) : Option Head :=
  if b = 0 then some .h0 else if b = 1 then some .h1 else none

/-- A family number on the wire. -/
def familyByte (f : BitVec 4) : Byte := f.setWidth 8

/-! Reason codes (Formats 13.2). -/
def releaseExpired : Byte := 1
def releaseStoreBusy : Byte := 2
def releaseDestSilent : Byte := 3
def releaseWindow : Byte := 4
def releaseNotNeeded : Byte := 5
def quarantineCrash : Byte := 1
def quarantineLost : Byte := 2
def quarantineTagMismatch : Byte := 3
def quarantineGantryFault : Byte := 4
def quarantineLostTrack : Byte := 5
def removeSpentOut : Byte := 1
def removeInspected : Byte := 2
def removeWithdrawn : Byte := 3

/-- Condition codes (Formats 13.2); an absent record is NO_WHEEL. -/
def conditionCode : Option Condition → Byte
  | none => 0
  | some .serving => 1
  | some .wornSoon => 2
  | some .lastParts => 3
  | some .spent => 4
  | some (.hold _) => 5
  | some .broken => 6

/-- The ROLL's data after its generation is taken (Formats 13.2). -/
def rollData (role : Role) (synced : Bool) (generation digest familyDigest : Word16)
    (condition0 condition1 : Byte) (latched : Bool) : List Byte :=
  [BitVec.ofBool (role == .store) ++ BitVec.ofBool synced ++ (0 : BitVec 5) ++ BitVec.ofBool latched]
    ++ be16 generation ++ be16 digest ++ be16 familyDigest ++ [condition0, condition1]

/-! ## The pool entry record (Formats 13.3, R204) -/

def PoolState.code : PoolState → BitVec 3
  | .free => 0
  | .claimed => 1
  | .transit => 2
  | .delivered => 3
  | .mounted => 4
  | .returning => 5
  | .quarantined => 6

def poolStateOfCode (c : BitVec 3) : Option PoolState :=
  if c = 0 then some .free else if c = 1 then some .claimed else if c = 2 then some .transit
  else if c = 3 then some .delivered else if c = 4 then some .mounted else if c = 5 then some .returning
  else if c = 6 then some .quarantined else none

def holderByte : Option Holder → Byte
  | none => 0
  | some h => BitVec.ofBool true ++ BitVec.ofBool h.atChange ++ BitVec.ofBool h.head.toBit ++ h.station

def slotByte : Option (BitVec 6) → Byte
  | none => 255
  | some n => n.setWidth 8

/-- The 10-byte record of an entry (Formats 13.3). -/
def Entry.bytes (e : Entry) : List Byte :=
  be32 e.serial ++ [e.family ++ e.state.code ++ BitVec.ofBool e.spent] ++ [holderByte e.holder]
    ++ be24 e.diameter ++ [slotByte e.slot]

/-- The optional fields agree with the state as R62's table gives them. -/
def Entry.agrees (e : Entry) : Bool :=
  match e.state with
  | .free => e.holder.isNone && e.slot.isSome && !e.spent
  | .claimed => (e.holder.any fun h => !h.atChange) && e.slot.isSome && !e.spent
  | .transit => (e.holder.any fun h => !h.atChange) && e.slot.isNone && !e.spent
  | .delivered => (e.holder.any fun h => h.atChange) && e.slot.isNone && !e.spent
  | .mounted => (e.holder.any fun h => !h.atChange) && e.slot.isNone && !e.spent
  | .returning => (e.holder.any fun h => h.atChange) && e.slot.isNone
  | .quarantined => e.slot.isNone && !e.spent

/-- The holder that byte 5 spells: absent, present with station 1..30, or not valid (R204). -/
def holderOfByte (b : Byte) : Option (Option Holder) :=
  if b.getLsbD 7 then
    let st := h1Station b
    if 1 ≤ st.toNat ∧ st.toNat ≤ 30 then some (some ⟨st, Head.ofBit (b.getLsbD 5), b.getLsbD 6⟩) else none
  else if b = 0 then some none else none

/-- The slot that byte 9 spells. -/
def slotOfByte (b : Byte) : Option (Option (BitVec 6)) :=
  if b = 255 then some none else if b.toNat < 48 then some (some (b.setWidth 6)) else none

/-- A record that decodes to a valid entry, put at a position (R204). -/
def decodeEntry (pos : Nat) (d : List Byte) : Option Entry :=
  match d with
  | [a, b, c, e, fs, h, x, y, z, sl] =>
    match poolStateOfCode (fs.extractLsb' 1 3), holderOfByte h, slotOfByte sl with
    | some st, some holder, some slot =>
      let entry : Entry :=
        ⟨pos, of32 a b c e, fs.extractLsb' 4 4, st, fs.getLsbD 0, of24 x y z, holder, slot⟩
      if entry.serial ≠ 0 ∧ entry.agrees then some entry else none
    | _, _, _ => none
  | _ => none

/-- The entries in canonical order: ascending by serial (R64). -/
def canonical (t : List Entry) : List Entry := sortBy (fun e => e.serial.toNat) t

/-- The digest of a table (R66, R203, R204). -/
def tableDigest (t : List Entry) : Word16 := crc16 ((canonical t).flatMap Entry.bytes)

/-! ## Image parts (R98, Formats 13.2) -/

/-- The part count of a table of `n` entries (R98). -/
def partCount (n : Nat) : Nat := max 1 ((n + 3) / 4)

/-- The entries that part `k` carries (R98). -/
def entriesInPart (n k : Nat) : Nat := if k + 1 < partCount n then 4 else n - 4 * (partCount n - 1)

/-- The data of part `k` taken from an image buffer (R98). -/
def imagePartData (b : ImageBuffer) (k : Nat) : List Byte :=
  let n := b.entries.length
  be16 b.generation ++ [BitVec.ofNat 8 k, BitVec.ofNat 8 (partCount n), BitVec.ofNat 8 n]
    ++ ((b.entries.drop (4 * k)).take (entriesInPart n k)).flatMap Entry.bytes
    ++ (if k + 1 = partCount n then be16 b.digest else [])

/-- An image part as its fixed fields give it: the rest of the data is records and, on the last part, the digest. -/
structure ImagePartHead where
  generation : Word16
  index : Nat
  count : Nat
  entryCount : Nat
  rest : List Byte
  deriving DecidableEq, Repr

def imagePartHead (d : List Byte) : Option ImagePartHead :=
  match d with
  | g1 :: g2 :: k :: n :: m :: rest => some ⟨of16 g1 g2, k.toNat, n.toNat, m.toNat, rest⟩
  | _ => none

/-- `n` entry records from the front of a list of bytes, each at the position counted on from `pos`. -/
def decodeEntries : Nat → Nat → List Byte → Option (List Entry)
  | _, 0, _ => some []
  | pos, n + 1, d =>
    match decodeEntry pos (d.take 10), decodeEntries (pos + 1) n (d.drop 10) with
    | some e, some es => some (e :: es)
    | _, _ => none

/-- Serials rise strictly from above `low` (R101). -/
def risingSerials : Nat → List Entry → Bool
  | _, [] => true
  | low, e :: es => low < e.serial.toNat && risingSerials e.serial.toNat es

/-- A well-formed part (R101): its entries and, on the last part, its digest. -/
def wellFormedPart (p : ImagePartHead) : Option (List Entry × Option Word16) :=
  let k := entriesInPart p.entryCount p.index
  let last : Bool := p.index + 1 == p.count
  if p.entryCount ≤ 64 ∧ p.count = partCount p.entryCount ∧ p.index < p.count
      ∧ p.rest.length = 10 * k + (if last then 2 else 0) then
    match decodeEntries (4 * p.index) k p.rest with
    | some es =>
      match last, p.rest.drop (10 * k) with
      | true, [x, y] => some (es, some (of16 x y))
      | false, [] => some (es, none)
      | _, _ => none
    | none => none
  else none

/-! ## Places (R174) -/

/-- The code of a place on JOB_FROM and JOB_TO (R174). -/
def Place.code : Place → BitVec 6
  | .slot n => n
  | .chute => 48
  | .inspection => 49
  | .change st h => BitVec.ofNat 6 (2 * (st.toNat - 1) + h.toBit.toNat)

/-! ## Head record body (Formats 13.5) -/

def holdCode : Condition → Byte
  | .hold .missing => 1
  | .hold .overlong => 2
  | .hold .conflict => 3
  | _ => 0

/-- The 18-byte body of a head record; a record that names no wheel is all 0x00, and parts left that are absent read 0x00
(notes/assumptions/26.md). -/
def recordBody : Option HeadRecord → List Byte
  | none => List.replicate 18 0
  | some r =>
    be32 r.serial ++ [familyByte r.family] ++ be24 r.diameter ++ be16 r.dressCount ++ be32 r.partsCount
      ++ [conditionCode (some r.condition), holdCode r.condition, boolByte r.partsLeft.isSome, r.partsLeft.getD 0]

/-- The condition that a code and a hold reason spell (R133): none where the code is not defined, a reason is present
outside HOLD, or HOLD has none. -/
def conditionOf (code hold : Byte) : Option Condition :=
  if code = 5 then
    if hold = 1 then some (.hold .missing) else if hold = 2 then some (.hold .overlong)
    else if hold = 3 then some (.hold .conflict) else none
  else if hold ≠ 0 then none
  else if code = 1 then some .serving else if code = 2 then some .wornSoon else if code = 3 then some .lastParts
  else if code = 4 then some .spent else if code = 6 then some .broken else none

/-- What a stored head record body gives (R133). -/
inductive StoredRecord where
  | noWheel
  | wheel (r : HeadRecord)
  | invalid
  deriving DecidableEq, Repr

/-- A stored head record body as it is restored (R112, R133); one whose parts-left presence byte is neither 0 nor 1 is
invalid (notes/assumptions/53.md). -/
def parseRecord (d : List Byte) : StoredRecord :=
  match d with
  | [a, b, c, e, f, x, y, z, d1, d2, p1, p2, p3, p4, cc, hr, pl, pn] =>
    let serial := of32 a b c e
    if serial = 0 then .noWheel
    else
      match conditionOf cc hr with
      | some cond =>
        if f.toNat ≤ 15 ∧ pl.toNat ≤ 1 then
          .wheel ⟨serial, f.setWidth 4, of24 x y z, of16 d1 d2, of32 p1 p2 p3 p4,
            if pl = 1 then some pn else none, cond⟩
        else .invalid
      | none => .invalid
  | _ => .invalid

/-! ## Data pages (R183, Formats 13.5) -/

/-- The logical ids (R181). -/
def logicalIds : List Nat := [1, 2, 16, 17, 18, 19, 20, 21]

/-- The body length of a logical id (Formats 13.5). -/
def bodyLength (id : Nat) : Nat := if id ≤ 2 then 18 else 110

/-- Header bytes 0 to 5: logical id, sequence and body length (Formats 13.5). -/
def pageHeader (id : Nat) (seq : BitVec 32) : List Byte :=
  [BitVec.ofNat 8 id] ++ be32 seq ++ [BitVec.ofNat 8 (bodyLength id)]

/-- A whole data page with its commit mark unprogrammed (R186, R188 step 3). -/
def pageImage (id : Nat) (seq : BitVec 32) (body : List Byte) : List Byte :=
  let header := pageHeader id seq
  Memory.fitPage (header ++ be16 (crc16 (header ++ body)) ++ body)

/-- The logical id and sequence of a valid page (R183); none for a blank or stale one. -/
def validPage (p : List Byte) : Option (Nat × BitVec 32) :=
  match p with
  | i :: s1 :: s2 :: s3 :: s4 :: len :: c1 :: c2 :: rest =>
    let id := i.toNat
    let seq := of32 s1 s2 s3 s4
    if (p.drop 127).head? = some 0 ∧ logicalIds.contains id ∧ 1 ≤ seq.toNat ∧ seq.toNat ≤ 0xFFFFFFFE
        ∧ len.toNat = bodyLength id
        ∧ crc16 ([i, s1, s2, s3, s4, len] ++ rest.take (bodyLength id)) = of16 c1 c2 then some (id, seq)
    else none
  | _ => none

/-- The body of a data page. -/
def pageBody (id : Nat) (p : List Byte) : List Byte := (p.drop 8).take (bodyLength id)

/-! ## Configuration pages (R182, R205, Formats 13.5) -/

def byteAt (p : List Byte) (k : Nat) : Byte := (p[k]?).getD Config.blankByte
def wordAt (p : List Byte) (k : Nat) : Word16 := of16 (byteAt p k) (byteAt p (k + 1))

/-- The station constants of page 0, when every one lies in its range (R182). -/
def parseConstants (p : List Byte) : Option StationConstants :=
  let roll := (wordAt p 2).toNat
  let life := (wordAt p 4).toNat
  let win := (byteAt p 6).toNat
  let gate := (byteAt p 7).toNat
  if 1 ≤ (byteAt p 0).toNat ∧ (byteAt p 0).toNat ≤ 254 ∧ (byteAt p 1).toNat ≤ 1
      ∧ 50 ≤ roll ∧ roll ≤ 1000 ∧ 10 ≤ life ∧ life ≤ 600 ∧ 5 ≤ win ∧ win ≤ 120 ∧ 1 ≤ gate ∧ gate ≤ 50
      ∧ (byteAt p 8).toNat ≤ 15 ∧ (byteAt p 9).toNat ≤ 15 then
    some ⟨byteAt p 0, byteAt p 1 == 1, roll, life, win, gate,
      ⟨(byteAt p 8).setWidth 4, (byteAt p 9).setWidth 4⟩⟩
  else none

/-- The contact-limit unit in milliseconds (R205); unit 3 is invalid. -/
def contactUnit : Nat → Option Nat
  | 0 => some 10
  | 1 => some 100
  | 2 => some 1000
  | _ => none

/-- One family entry of 16 bytes, when it is valid (R113, R137, R205). -/
def parseFamily (d : List Byte) : Option Family :=
  let new := of24 (byteAt d 0) (byteAt d 1) (byteAt d 2)
  let minimum := of24 (byteAt d 3) (byteAt d 4) (byteAt d 5)
  let depth := (byteAt d 6).toNat
  let floor := wordAt d 8
  let ceiling := wordAt d 10
  let w1 := (wordAt d 12).toNat
  let w2 := (wordAt d 14).toNat
  let reserve := w1 / 1024
  let miss := w1 / 64 % 16
  let settle := w1 % 64
  let limitCount := w2 / 256 % 64
  let timeoutCount := w2 / 2 % 64
  let timeout := timeoutCount * (if w2 / 128 % 2 = 1 then 1000 else 100)
  match contactUnit (w2 / 16384) with
  | some unit =>
    let limit := limitCount * unit
    if 1 ≤ new.toNat ∧ minimum.toNat < new.toNat ∧ 1 ≤ depth ∧ 1 ≤ reserve ∧ floor.toNat < ceiling.toNat
        ∧ 1 ≤ miss ∧ settle ≤ 50 ∧ 1 ≤ limitCount ∧ 1 ≤ timeoutCount ∧ w2 % 2 = 0
        ∧ 10 ≤ limit ∧ limit ≤ 60000 ∧ 100 ≤ timeout ∧ timeout ≤ 60000 then
      some ⟨new, minimum, depth, byteAt d 7, floor, ceiling, reserve, miss, settle * 40, limit, timeout⟩
    else none
  | none => none

/-- The family entries that consecutive blocks of 16 bytes give. -/
def parseFamilies : Nat → List Byte → Option (List Family)
  | 0, _ => some []
  | n + 1, d =>
    match parseFamily (d.take 16), parseFamilies n (d.drop 16) with
    | some f, some fs => some (f :: fs)
    | _, _ => none

/-- What a valid configuration gives (R182): the constants, the family table and the family digest (R58). -/
structure Configuration where
  constants : StationConstants
  families : List Family
  familyDigest : Word16
  deriving DecidableEq, Repr

/-- The configuration check (R182) over the pages as they stand. -/
def checkConfiguration (m : Memory) : Option Configuration :=
  let p0 := Memory.readPage m 0
  let p12 := Memory.readPage m 1 ++ Memory.readPage m 2
  let p3 := Memory.readPage m 3
  if crc16 (p0 ++ p12) = wordAt p3 0 then
    match parseConstants p0, parseFamilies 16 p12 with
    | some c, some fs => some ⟨c, fs, crc16 p12⟩
    | _, _ => none
  else none

end Sys2Proof.Machine
end

