-- ==== Sys2Proof/Machine/PoolRules.lean ====
section
/-! DEFINITION. The application rules of the pool frames (chapter 5): a function of the table, the family table, the
sender and the frame, as R68 lists its inputs. -/
namespace Sys2Proof.Machine
open Sys2Proof.Config

/-- The outcome of a pool frame at a synced station (R68): applied, with the table it leaves and for CLAIM the selected
entry as it stands afterwards, or refused with one reason. -/
inductive PoolOutcome where
  | applied (table : Table) (selected : Option Entry)
  | refused (reason : PoolRefusal)
  deriving DecidableEq, Repr

/-- The roles that may send a kind (R69). -/
def roleAllowed : Kind → Role → Bool
  | .enter, r | .dispatch, r | .deliver, r | .rack, r | .remove, r => r == .store
  | .claim, r | .mount, r | .declare, r => r == .grinder
  | .release, _ | .quarantine, _ => true
  | .roll, _ | .imageAsk, _ | .imagePart, _ => true

/-- A data field outside its range (R70). -/
def badField : PoolFrame → Bool
  | .enter serial family diameter slot => serial == 0 || 15 < family.toNat || diameter == 0 || 47 < slot.toNat
  | .claim head family => 1 < head.toNat || 15 < family.toNat
  | .dispatch serial => serial == 0
  | .deliver serial => serial == 0
  | .mount head new old _ spent => 1 < head.toNat || new == 0 || old == new || 1 < spent.toNat
  | .declare head serial family _ => 1 < head.toNat || serial == 0 || 15 < family.toNat
  | .release serial reason => serial == 0 || reason == 0 || 5 < reason.toNat
  | .quarantine serial reason keep => serial == 0 || reason == 0 || 5 < reason.toNat || 1 < keep.toNat
  | .rack serial slot => serial == 0 || 47 < slot.toNat
  | .remove serial reason => serial == 0 || reason == 0 || 3 < reason.toNat

/-! ## Looking at the table -/

def findSerial (t : Table) (serial : Serial) : Option Entry := t.find? fun e => e.serial == serial

/-- An entry names this rack slot. -/
def slotNamed (t : Table) (slot : BitVec 6) : Bool := t.any fun e => e.slot == some slot

/-- The entry is held by this station and head (5.4.1). -/
def Entry.heldAt (e : Entry) (st : Station) (h : Head) : Bool :=
  e.holder.any fun x => x.station == st && x.head == h

/-- The entry is held by this station (5.4.1). -/
def Entry.heldByStation (e : Entry) (st : Station) : Bool := e.holder.any fun x => x.station == st

/-- CLAIMED, TRANSIT or DELIVERED. -/
def Entry.onTheWay (e : Entry) : Bool := e.state == .claimed || e.state == .transit || e.state == .delivered

/-- The lowest position that holds no entry (R64). -/
def freePosition (t : Table) : Nat := (lowestFree (t.map Entry.pos) poolCapacity).getD 0

/-- An entry put at its position: the table stays in ascending position (R64). -/
def addEntry (t : Table) (e : Entry) : Table := insertBy Entry.pos e t

/-- The entry with a serial, changed in its position (R64). -/
def changeEntry (t : Table) (serial : Serial) (f : Entry → Entry) : Table :=
  t.map fun e => if e.serial = serial then f e else e

/-! ## Changing one entry (R62) -/

def Entry.setAtChange (flag : Bool) (e : Entry) : Entry :=
  { e with holder := e.holder.map fun x => { x with atChange := flag } }

def Entry.toFree (slot : Option (BitVec 6)) (e : Entry) : Entry :=
  { e with state := .free, spent := false, holder := none, slot := slot }

def Entry.toClaimed (st : Station) (h : Head) (e : Entry) : Entry :=
  { e with state := .claimed, spent := false, holder := some ⟨st, h, false⟩ }

def Entry.toTransit (e : Entry) : Entry :=
  { e.setAtChange false with state := .transit, spent := false, slot := none }

def Entry.toDelivered (e : Entry) : Entry :=
  { e.setAtChange true with state := .delivered, spent := false, slot := none }

def Entry.toMounted (st : Station) (h : Head) (e : Entry) : Entry :=
  { e with state := .mounted, spent := false, holder := some ⟨st, h, false⟩, slot := none }

def Entry.toReturning (spent : Bool) (e : Entry) : Entry :=
  { e.setAtChange true with state := .returning, spent := spent, slot := none }

def Entry.toQuarantined (keep : Bool) (e : Entry) : Entry :=
  { e with state := .quarantined, spent := false, slot := none, holder := if keep then e.holder else none }

/-- The stale mounts of a head, apart from one serial, become QUARANTINED without a holder (R79 step 2, R81 step 1). -/
def quarantineStale (t : Table) (st : Station) (h : Head) (except : Serial) : Table :=
  t.map fun e =>
    if e.serial ≠ except ∧ e.state = .mounted ∧ e.heldAt st h then e.toQuarantined false else e

/-! ## The kinds -/

/-- ENTER (R72). -/
def applyEnter (t : Table) (serial : Serial) (family : Byte) (diameter : Diameter) (slot : Byte) : PoolOutcome :=
  if (findSerial t serial).isSome then .refused .duplicate
  else if slotNamed t (slot.setWidth 6) then .refused .slotTaken
  else if poolCapacity ≤ t.length then .refused .tableFull
  else
    .applied (addEntry t
      ⟨freePosition t, serial, family.setWidth 4, .free, false, diameter, none, some (slot.setWidth 6)⟩) none

/-- An entry eligible for a claim of a family (R73). -/
def eligible (fams : List Family) (family : BitVec 4) (e : Entry) : Bool :=
  e.state == .free && e.family == family && (familyAt fams family).claimThreshold < e.diameter.toNat

/-- The smaller diameter, and of equal diameters the lower serial (R74). -/
def claimBefore (a b : Entry) : Bool :=
  a.diameter.toNat < b.diameter.toNat || (a.diameter == b.diameter && a.serial.toNat < b.serial.toNat)

/-- The first of a list of entries in the order of `claimBefore` (R74). -/
def selectEntry : List Entry → Option Entry
  | [] => none
  | e :: es =>
    match selectEntry es with
    | none => some e
    | some b => if claimBefore b e then some b else some e

/-- CLAIM (R74, R75). -/
def applyClaim (fams : List Family) (t : Table) (st : Station) (h : Head) (family : BitVec 4) : PoolOutcome :=
  if t.any fun e => e.onTheWay && e.heldAt st h then .refused .headBusy
  else
    match selectEntry (t.filter (eligible fams family)) with
    | none => .refused .noSister
    | some e => .applied (changeEntry t e.serial (Entry.toClaimed st h)) (some (e.toClaimed st h))

/-- DISPATCH (R76). -/
def applyDispatch (t : Table) (serial : Serial) : PoolOutcome :=
  match findSerial t serial with
  | none => .refused .unknownWheel
  | some e => if e.state ≠ .claimed then .refused .wrongState else .applied (changeEntry t serial Entry.toTransit) none

/-- DELIVER (R77). -/
def applyDeliver (t : Table) (serial : Serial) : PoolOutcome :=
  match findSerial t serial with
  | none => .refused .unknownWheel
  | some e =>
    if e.state ≠ .transit then .refused .wrongState else .applied (changeEntry t serial Entry.toDelivered) none

/-- The old wheel of a MOUNT (R79 step 1). -/
def mountOld (t : Table) (st : Station) (h : Head) (old : Serial) (diameter : Diameter) (spent : Bool) : Table :=
  if old = 0 then t
  else
    changeEntry t old fun e =>
      if e.state = .mounted ∧ e.heldAt st h then { e.toReturning spent with diameter := diameter }
      else if e.state = .quarantined ∧ e.heldAt st h then e.setAtChange true
      else e

/-- MOUNT (R78, R79). -/
def applyMount (t : Table) (st : Station) (h : Head) (new old : Serial) (diameter : Diameter) (spent : Bool) :
    PoolOutcome :=
  match findSerial t new with
  | none => .refused .unknownWheel
  | some e =>
    if !e.onTheWay then .refused .wrongState
    else if !e.heldAt st h then .refused .notHolder
    else
      .applied (changeEntry (quarantineStale (mountOld t st h old diameter spent) st h new) new
        (Entry.toMounted st h)) none

/-- DECLARE (R80, R81). -/
def applyDeclare (t : Table) (st : Station) (h : Head) (serial : Serial) (family : BitVec 4) (diameter : Diameter) :
    PoolOutcome :=
  match findSerial t serial with
  | some e =>
    if e.state = .mounted ∧ !e.heldAt st h then .refused .wrongState
    else if e.state = .quarantined then .refused .wrongState
    else
      .applied (changeEntry (quarantineStale t st h serial) serial fun x =>
        { x.toMounted st h with family := family, diameter := diameter }) none
  | none =>
    if poolCapacity ≤ t.length then .refused .tableFull
    else
      .applied (addEntry (quarantineStale t st h serial)
        ⟨freePosition t, serial, family, .mounted, false, diameter, some ⟨st, h, false⟩, none⟩) none

/-- RELEASE (R82). -/
def applyRelease (t : Table) (st : Station) (role : Role) (serial : Serial) (reason : Byte) : PoolOutcome :=
  match findSerial t serial with
  | none => .refused .unknownWheel
  | some e =>
    if e.state = .claimed then
      if role = .grinder ∧ !e.heldByStation st then .refused .notHolder
      else .applied (changeEntry t serial fun x => x.toFree x.slot) none
    else if e.state = .delivered then
      if role = .store ∨ !e.heldByStation st then .refused .notHolder
      else if reason ≠ releaseWindow ∧ reason ≠ releaseNotNeeded then .refused .wrongState
      else .applied (changeEntry t serial (Entry.toReturning false)) none
    else .refused .wrongState

/-- QUARANTINE (R83). -/
def applyQuarantine (t : Table) (st : Station) (role : Role) (serial : Serial) (keep : Bool) : PoolOutcome :=
  match findSerial t serial with
  | none => .refused .unknownWheel
  | some e =>
    if role = .grinder ∧ !e.heldByStation st then .refused .notHolder
    else .applied (changeEntry t serial (Entry.toQuarantined keep)) none

/-- RACK (R84). -/
def applyRack (t : Table) (serial : Serial) (slot : Byte) : PoolOutcome :=
  match findSerial t serial with
  | none => .refused .unknownWheel
  | some e =>
    if e.state ≠ .returning ∨ e.spent then .refused .wrongState
    else if slotNamed t (slot.setWidth 6) then .refused .slotTaken
    else .applied (changeEntry t serial (Entry.toFree (some (slot.setWidth 6)))) none

/-- REMOVE (R85). -/
def applyRemove (t : Table) (serial : Serial) : PoolOutcome :=
  match findSerial t serial with
  | none => .refused .unknownWheel
  | some e =>
    if e.onTheWay || e.state == .mounted then .refused .wrongState
    else .applied (t.filter fun x => x.serial ≠ serial) none

/-- The kind's own checks and changes (5.4), after the role check and the field check. -/
def applyKind (fams : List Family) (t : Table) (st : Station) (role : Role) (f : PoolFrame) : PoolOutcome :=
  match f with
  | .enter serial family diameter slot => applyEnter t serial family diameter slot
  | .claim head family => applyClaim fams t st (Head.ofBit (head == 1)) (family.setWidth 4)
  | .dispatch serial => applyDispatch t serial
  | .deliver serial => applyDeliver t serial
  | .mount head new old diameter spent => applyMount t st (Head.ofBit (head == 1)) new old diameter (spent == 1)
  | .declare head serial family diameter =>
    applyDeclare t st (Head.ofBit (head == 1)) serial (family.setWidth 4) diameter
  | .release serial reason => applyRelease t st role serial reason
  | .quarantine serial _ keep => applyQuarantine t st role serial (keep == 1)
  | .rack serial slot => applyRack t serial slot
  | .remove serial _ => applyRemove t serial

/-- The outcome of a pool frame (R68): the role check, the field check, then the kind's own checks. -/
def applyFrame (fams : List Family) (t : Table) (st : Station) (role : Role) (f : PoolFrame) : PoolOutcome :=
  if !roleAllowed f.kind role then .refused .role
  else if badField f then .refused .badField
  else applyKind fams t st role f

/-- The entries a frame changed, each before and after it (R90): an added entry has none before, a deleted one none
after. -/
def changedEntries (before after : Table) : List (Option Entry × Option Entry) :=
  (before.filterMap fun e =>
      let e' := findSerial after e.serial
      if e' = some e then none else some (some e, e'))
    ++ (after.filterMap fun e => if (findSerial before e.serial).isNone then some (none, some e) else none)

end Sys2Proof.Machine
end

