-- ==== Sys2Proof/Machine/Flags.lean ====
section
/-! DEFINITION. The flags and outputs that follow from the state: conditions and their zones (R115, R116), TOOL_OK
(R118), the need for a sister (R119), SWAP_REQ (R158), FEED_HOLD and CODE (R198, R199), the job lines (R174) and the
role pins (R198). Each output has one home, the state it follows. -/
namespace Sys2Proof.Machine
open State

/-! ## Conditions -/

/-- The condition of a head; none is NO_WHEEL (R112, R115). -/
def State.condition (s : State) (h : Head) : Option Condition := (s.head h).record.map (·.condition)

/-- SERVING, WORN_SOON or LAST_PARTS. -/
def Condition.working : Condition → Bool
  | .serving | .wornSoon | .lastParts => true
  | .spent | .hold _ | .broken => false

/-- "Needs a sister" of R115 and R119. -/
def needsSister : Option Condition → Bool
  | none => true
  | some .serving => false
  | some (.hold _) => false
  | some .wornSoon | some .lastParts | some .spent | some .broken => true

/-- The claim family (R119): the recorded wheel's, or the head family in NO_WHEEL. -/
def State.claimFamily (s : State) (h : Head) : BitVec 4 :=
  match (s.head h).record with
  | some r => r.family
  | none => s.constants.headFamily.get h

/-- A threshold evaluation (R116) of a record by its family's lines: the condition and parts left it gives. -/
def evaluate (f : Family) (diameter : Diameter) (partsLeft : Option Byte) : Condition × Option Byte :=
  if f.wornLine < diameter.toNat then (.serving, partsLeft)
  else if f.lastLine ≤ diameter.toNat then (.wornSoon, partsLeft)
  else
    let left := partsLeft.getD f.lastParts
    (if left = 0 then .spent else .lastParts, some left)

/-- The record with the condition and parts left of its evaluation (R116). -/
def HeadRecord.evaluated (fams : List Family) (r : HeadRecord) : HeadRecord :=
  let e := evaluate (familyAt fams r.family) r.diameter r.partsLeft
  { r with condition := e.1, partsLeft := e.2 }

/-! ## Outputs -/

/-- TOOL_OK of a head (R118). -/
def State.toolOk (s : State) (h : Head) : Bool :=
  s.headsLive && ((s.condition h).any Condition.working)

/-- SPENT, BROKEN or NO_WHEEL: the exchange is due (R158). -/
def exchangeDue : Option Condition → Bool
  | none => true
  | some .spent => true
  | some .broken => true
  | some .serving | some .wornSoon | some .lastParts | some (.hold _) => false

/-- DELIVERED, CONFIRMING or MOUNTING: a sister counts as delivered (R151). -/
def SwapState.sisterDelivered : SwapState → Bool
  | .delivered | .confirming | .mounting => true
  | .idle | .claiming | .backoff | .await | .failed => false

/-- SWAP_REQ of a head (R158). -/
def State.swapReq (s : State) (h : Head) : Bool :=
  s.headsLive && (s.swap h).state.sisterDelivered && exchangeDue (s.condition h)

/-- A condition holds of either head of a live grinder. -/
def State.eitherHead (s : State) (p : Head → Bool) : Bool := s.headsLive && (p .h0 || p .h1)

/-- FEED_HOLD (R46, R198). -/
def State.feedHold (s : State) : Bool :=
  s.isLive && (s.stop.latch || s.eitherHead fun h => s.condition h == some .broken)

/-- READY (R196, R198). -/
def State.ready (s : State) : Bool := s.isLive

def Condition.isHold : Condition → Bool
  | .hold _ => true
  | _ => false

/-- A store job is ARMED or MOVING (R174). -/
def StoreUnit.gantryBusy (u : StoreUnit) : Bool :=
  u.job.any fun j => j.phase == .armed || j.phase == .moving

/-- CODE[3:0] (R196, R197, R199): the highest value whose condition holds. -/
def State.code (s : State) : BitVec 4 :=
  match s.phase with
  | .held | .selfTest => 0
  | .commissioning => if s.configBad then 15 else 0
  | .configFault => 15
  | .live =>
    if s.lineFault then 14
    else if s.life.fault then 13
    else if s.eitherHead fun h => s.condition h == some .broken then 12
    else if s.stop.latch then 11
    else if s.eitherHead fun h => (s.condition h).any Condition.isHold then 10
    else if s.eitherHead fun h => (s.swap h).state == .failed then 9
    else if s.eitherHead fun h => s.condition h == some .spent && !(s.swap h).state.sisterDelivered then 8
    else if s.eitherHead fun h => s.condition h == none && !(s.swap h).state.sisterDelivered then 7
    else if s.peers.roleClash || s.peers.familyMismatch then 6
    else if !s.synced then 5
    else if s.eitherHead fun h => s.swapReq h then 4
    else if s.eitherHead fun h => s.condition h == some .lastParts then 3
    else if s.eitherHead fun h => s.condition h == some .wornSoon then 2
    else if s.store.gantryBusy then 1
    else 0

/-- The job whose codes stand on the job lines: from its strobe until it leaves MOVING (R174). -/
def StoreUnit.movingJob (u : StoreUnit) : Option Job :=
  match u.job with
  | some j => if j.phase = .moving then some j.job else none
  | none => none

/-- JOB_FROM[5:0] (R174). -/
def State.jobFrom (s : State) : BitVec 6 :=
  match s.store.movingJob with
  | some j => j.source.code
  | none => 0

/-- JOB_TO[5:0] (R174). -/
def State.jobTo (s : State) : BitVec 6 :=
  match s.store.movingJob with
  | some j => (j.dest.map Place.code).getD 0
  | none => 0

/-- JOB_STROBE (R174). -/
def State.jobStrobe (s : State) : Bool := s.store.strobe.isSome

/-- The cell line pin is used by this station's transmitter or by its veto (R1); over the internal loop of the self-test
the pin stays released (R15). A bit that is sent recessive, and a bit-time of the slot that a veto does not drive (R24),
release the pin for its length: the times within a command are not the model's (notes/assumptions/7.md). -/
def State.pinInUse (s : State) : Bool := (s.transmitter != .idle && !s.line.loopInternal) || s.line.vetoDriving

/-- A role pin (R198): an input with its filtered level, an input whose level is disregarded, or an output with the level
it is driven to. -/
inductive RolePin where
  | input (level : Bool)
  | unusedInput
  | output (level : Bool)
  deriving DecidableEq, Repr

/-- The seven role pins of one head (R198): GRIND, CHANGE_POS, CONTACT, LOAD, DRESS, TOOL_OK and SWAP_REQ. -/
def State.headPins (s : State) (h : Head) : List RolePin :=
  let l := s.headLevels h
  [.input l.grind, .input l.changePos, .input l.contact, .input l.load, .input l.dress, .output (s.toolOk h),
    .output (s.swapReq h)]

/-- Six outputs that carry a place code, bit 0 first (R198). -/
def codePins (c : BitVec 6) : List RolePin := (List.range 6).map fun k => .output (c.getLsbD k)

/-- The role pins ML0 to ML15 with their directions (R198): all inputs, whose level no block takes, until the ROLE strap
has been read (R195, R196 step 1). -/
def State.rolePins (s : State) : List RolePin :=
  if s.phase = .held then List.replicate 16 .unusedInput
  else if s.isStore then
    [.input s.levels.gantryReady, .input s.levels.gantryDone, .input s.levels.gantryFault, .output s.jobStrobe]
      ++ codePins s.jobFrom ++ codePins s.jobTo
  else s.headPins .h0 ++ s.headPins .h1 ++ [.unusedInput, .unusedInput]

end Sys2Proof.Machine
end

