-- ==== Sys2Proof/Machine/Transmit.lean ====
section
/-! DEFINITION. The transmit queue (R30 to R33): submission, the head, attempts, removals, withdrawal, purge, and the
admission of held requests. Each operation tells its caller what the originating block is to be told. -/
namespace Sys2Proof.Machine
open State Sys2Proof.Config

/-- The line is busy: a dominant sample has been seen, or is driven (R12). -/
def LineInterface.busy (l : LineInterface) : LineInterface := { l with free := false, freeTimer := 0, offer := false }

def lineBusy (s : State) : State := s.mapLine LineInterface.busy

/-- What a submission is answered (R32). -/
inductive SubmitResult where
  | admitted
  | held
  | notSent
  deriving DecidableEq, Repr

def Payload.cls (p : Payload) : Nat := p.kind.cls.toNat

/-- The station sends no pool frame (R32): not SYNCED, DEAF, FAMILY_MISMATCH or ROLE_CLASH. -/
def State.poolBarred (s : State) : Bool :=
  !s.synced || s.fe.deaf || s.peers.familyMismatch || s.peers.roleClash

/-- A CLAIM for this head stands in the transmit queue (R32). -/
def State.claimQueued (s : State) (head : Byte) : Bool :=
  s.fe.txQueue.any fun e =>
    match e.payload with
    | .pool (.claim h _) => h == head
    | _ => false

/-- The first three rows of R32: the submission is answered *not sent* at once. -/
def State.refusedAtOnce (s : State) (p : Payload) : Bool :=
  s.lineFault || (p.isPool && s.poolBarred)
    || (match p with
        | .pool (.claim h _) => s.claimQueued h
        | _ => false)

/-- The queue has room for a new submission: fewer than 6 frames, the admissions still owed counted in
(R32, notes/assumptions/10.md). -/
def State.txRoom (s : State) : Bool := s.fe.txQueue.length + s.fe.admissionsDue < txCapacity

/-- A new frame at its place by order: class, then time of admission (R31). -/
def queueFrame (o : Origin) (p : Payload) (s : State) : State :=
  s.mapFe fun f => { f with txQueue := insertBy (fun e => e.payload.cls) ⟨o, p, 0, false, false⟩ f.txQueue }

/-- FRAME_SUBMIT (R32). -/
def submit (o : Origin) (p : Payload) (s : State) : State × SubmitResult :=
  if s.refusedAtOnce p then (s, .notSent)
  else if s.txRoom then (queueFrame o p s, .admitted)
  else (s.mapFe fun f => { f with held := f.held ++ [(o, p)] }, .held)

/-- The block holds a request (R32). -/
def State.holdsRequest (s : State) (o : Origin) : Bool := s.fe.held.any fun r => r.1 == o

/-- The removals admit at most the held requests there are (R32, R33). -/
def FrameEngine.removed (n : Nat) (f : FrameEngine) : FrameEngine :=
  { f with admissionsDue := min (f.admissionsDue + n) f.held.length }

/-- The first frame in order that is eligible (R31): a pool frame is not while the station is doubtful. -/
def FrameEngine.eligible (f : FrameEngine) (e : TxEntry) : Bool :=
  !e.withdrawn && !(e.payload.isPool && f.doubtful)

def State.txHead (s : State) : Option TxEntry := s.fe.txQueue.find? s.fe.eligible

/-- The first element that satisfies `p`, changed by `f`. -/
def changeFirst {α : Type} (p : α → Bool) (f : α → α) : List α → List α
  | [] => []
  | x :: xs => if p x then f x :: xs else x :: changeFirst p f xs

/-- The frame on the line. -/
def State.lineEntry (s : State) : Option TxEntry := s.fe.txQueue.find? (·.onLine)

/-- The frames that satisfy `p` leave the queue (R33). -/
def removeFrames (p : TxEntry → Bool) (s : State) : State :=
  s.mapFe fun f =>
    ({ f with txQueue := f.txQueue.filter fun e => !p e }).removed (f.txQueue.countP p)

/-- The transmission ends and its frame stays in place; one withdrawn or purged meanwhile leaves now (R30, R33). -/
def leaveLine (s : State) : State :=
  let s := removeFrames (fun e => e.onLine && e.withdrawn) s
  s.mapFe fun f => { f with txQueue := f.txQueue.map fun e => { e with onLine := false } }

/-- An attempt of the frame on the line is counted (R30): at the fourth it is removed, TX_FAIL rises and its originator
is told *not sent*. The outcome of a frame withdrawn or purged while on the line is not reported (R33), and it raises no
TX_FAIL and counts no attempt either, which R30 and R33 leave open: the model's choice, DESIGN CHOICE
(notes/assumptions/64.md). -/
def countAttempt (s : State) : State × Option (Origin × Payload) :=
  match s.lineEntry with
  | none => (s, none)
  | some e =>
    if e.withdrawn then (leaveLine s, none)
    else if 4 ≤ e.attempts + 1 then
      ((removeFrames (·.onLine) s).count fun c => { c with txFail := satInc c.txFail }, some (e.origin, e.payload))
    else
      (s.mapFe fun f =>
        { f with txQueue := changeFirst (·.onLine) (fun x => { x with attempts := x.attempts + 1, onLine := false })
                  f.txQueue }, none)

/-- The frame on the line has been accepted: it is removed, and its originator is told *sent* unless it was withdrawn
(R30, R33). -/
def frameSent (s : State) : State × Option (Origin × Payload) :=
  match s.lineEntry with
  | none => (s, none)
  | some e => (removeFrames (·.onLine) s, if e.withdrawn then none else some (e.origin, e.payload))

/-- The frames and held requests that satisfy `p` are withdrawn or purged, with no notice (R33): one on the line leaves
when its transmission ends. -/
def withdrawFrames (p : Origin → Payload → Bool) (s : State) : State :=
  s.mapFe fun f =>
    let gone : TxEntry → Bool := fun e => p e.origin e.payload && !e.onLine
    ({ f with
        txQueue := (f.txQueue.filter fun e => !gone e).map fun (e : TxEntry) =>
          if p e.origin e.payload then { e with withdrawn := true } else e
        held := f.held.filter fun r => !p r.1 r.2 }).removed (f.txQueue.countP gone)

/-- The pool purge (R33). -/
def purgePool (s : State) : State := withdrawFrames (fun _ p => p.isPool) s

/-- The held request that is admitted next: of lowest class, and of one class the one held longest (R32). -/
def nextHeld : List (Origin × Payload) → Option (Origin × Payload)
  | [] => none
  | r :: rs =>
    match nextHeld rs with
    | none => some r
    | some q => if q.2.cls < r.2.cls then some q else some r

/-- One admission of a held request (R32): it is checked against the first three rows again. -/
def admitHeld (s : State) : State × Option (Origin × Payload × SubmitResult) :=
  if s.fe.admissionsDue = 0 then (s, none)
  else
    match nextHeld s.fe.held with
    | none => (s, none)
    | some (o, p) =>
      let s := s.mapFe fun f =>
        { f with held := f.held.filter (fun r => r.1 != o), admissionsDue := f.admissionsDue - 1 }
      if s.refusedAtOnce p then (s, some (o, p, .notSent)) else (queueFrame o p s, some (o, p, .admitted))

end Sys2Proof.Machine
end

