-- ==== Sys2Proof/Machine/Store.lean ====
section
/-! DEFINITION. What the store unit does (chapter 10), apart from the commands themselves: its frames, its dispatch
queue, its job in progress, the claim watch, the store notices, and its part of a pool resync and of reconciliation. -/
namespace Sys2Proof.Machine
open State Sys2Proof.Config

/-! ## Looking -/

/-- The peer table answers SILENT for a station (R55). -/
def State.isSilent (s : State) (st : Station) : Bool :=
  s.peers.records.any fun r => r.station == st && r.silent

/-- The entry stands at a change position for a RETURN: RETURNING, or QUARANTINED with a holder and
at-change-position set (R170). -/
def Entry.returnable (e : Entry) : Bool :=
  e.state == .returning || (e.state == .quarantined && e.holder.any fun x => x.atChange)

/-- The place of an entry's holder. -/
def Entry.place (e : Entry) : Option Place := e.holder.map fun x => .change x.station x.head

/-- The queue or the job in progress has a job for the serial (R167). -/
def StoreUnit.hasJob (u : StoreUnit) (serial : Serial) : Bool :=
  (u.queue.any fun j => j.serial == serial) || (u.job.any fun j => j.job.serial == serial)

/-- The lowest slot named by no entry (R173). The one reservation there can be belongs to the job that asks. -/
def freeSlot (t : Table) : Option (BitVec 6) :=
  ((List.range slotCount).find? fun n => !slotNamed t (BitVec.ofNat 6 n)).map (BitVec.ofNat 6)

/-! ## The store's frames (R168) -/

/-- The claim record of a serial may be tested again (R178): its release is no longer pending. -/
def clearReleasePending (serial : Serial) (s : State) : State :=
  s.mapStore fun u =>
    { u with claims := u.claims.map fun c => if c.serial = serial then { c with releasePending := false } else c }

/-- A send-list request that was answered *not sent* or refused: a RELEASE(EXPIRED) is no longer pending (R178). -/
def requestFailed (f : PoolFrame) (s : State) : State :=
  match f with
  | .release serial reason => if reason = releaseExpired then clearReleasePending serial s else s
  | _ => s

/-- The status of a submission that has just been answered (R168). -/
def State.submitStatus (s : State) : SubmitResult → SubmitStatus
  | .notSent => .waiting (s.timer s.rollInterval)
  | .admitted | .held => .submitted

def StoreFrame.isDue (f : StoreFrame) : Bool := f.status == .due

/-- One submission of the store unit: the job frame, else the track scan's frame, else the send list's first request
(R168). A track scan's frame that has waited for the unit's held request is not tested again (notes/assumptions/52.md). -/
def storeSubmitOne (s : State) : State :=
  match s.store.jobFrame.filter StoreFrame.isDue with
  | some jf =>
    let r := submit .storeUnit (.pool jf.frame) s
    r.1.mapStore fun u => { u with jobFrame := some ⟨jf.frame, s.submitStatus r.2⟩ }
  | none =>
    match s.store.track.filter StoreFrame.isDue with
    | some tf =>
      let r := submit .storeUnit (.pool tf.frame) s
      r.1.mapStore fun u => { u with track := some ⟨tf.frame, s.submitStatus r.2⟩ }
    | none =>
      match s.store.sendList with
      | [] => s
      | f :: fs =>
        let r := submit .storeUnit (.pool f) (s.mapStore fun u => { u with sendList := fs })
        match r.2 with
        | .notSent => requestFailed f r.1
        | .admitted | .held => r.1

/-- The unit submits until it holds a request or has none left (R168): at most its job frame, its track scan's frame and
16 requests. -/
def storePumpFrom : Nat → State → State
  | 0, s => s
  | n + 1, s => if s.holdsRequest .storeUnit then s else storePumpFrom n (storeSubmitOne s)

def storePump (s : State) : State := storePumpFrom 18 s

/-- A request can be added to the send list (R168). -/
def StoreUnit.canAdd (u : StoreUnit) (f : PoolFrame) : Bool :=
  decide (u.sendList.length < queueCapacity) && !(u.sendList.any fun g => g.named == f.named)

/-- A request that arises for the send list (R168). -/
def addRequest (f : PoolFrame) (s : State) : State :=
  if s.store.canAdd f then storePump (s.mapStore fun u => { u with sendList := u.sendList ++ [f] }) else s

/-- A frame of the job in progress becomes the job frame (R168). -/
def setJobFrame (f : PoolFrame) (s : State) : State :=
  storePump (s.mapStore fun u => { u with jobFrame := some ⟨f, .due⟩ })

/-! ## The dispatch queue (R170, R171) -/

/-- The key of a queued job is not later than that of a job that arrives now: its age is no less (R170). -/
def Job.notLater (now : Time) (j q : Job) : Bool := elapsed j.key now ≤ elapsed q.key now

/-- A job put behind every job whose key is not later than its own, keys taken by age (R170). -/
def insertJob (now : Time) (j : Job) : List Job → List Job
  | [] => [j]
  | q :: qs => if (q :: qs).any (j.notLater now) then q :: insertJob now j qs else j :: q :: qs

/-- The queue takes a job for the serial: there is room, and no job of that wheel (R170, R171). -/
def StoreUnit.takesJob (u : StoreUnit) (serial : Serial) : Bool :=
  !u.hasJob serial && decide (u.queue.length < queueCapacity)

def queueJob (j : Job) (s : State) : State :=
  if s.store.takesJob j.serial then s.mapStore fun u => { u with queue := insertJob s.now j u.queue } else s

/-- The RETURN of an entry at a change position (R167, R171). -/
def queueReturn (e : Entry) (key : Time) (s : State) : State :=
  match e.place with
  | some p => queueJob ⟨.ret, e.serial, p, none, key⟩ s
  | none => s

/-- The FETCH of a CLAIMED entry; a full queue releases the claim STORE_BUSY (R171). -/
def queueFetch (e : Entry) (key : Time) (s : State) : State :=
  match e.slot, e.place with
  | some slot, some p =>
    if s.store.hasJob e.serial then s
    else if s.store.queue.length < queueCapacity then queueJob ⟨.fetch, e.serial, .slot slot, some p, key⟩ s
    else addRequest (.release e.serial releaseStoreBusy) s
  | _, _ => s

/-- The rescan of a removal (R170): a RETURN for the first entry, by serial, that waits for one. -/
def rescan (s : State) : State :=
  match (canonical s.pool.table).find? fun e => e.returnable && e.holder.isSome && !s.store.hasJob e.serial with
  | some e => queueReturn e s.now s
  | none => s

/-- A queued job is valid against its entry (R170). -/
def Job.valid (t : Table) (j : Job) : Bool :=
  match findSerial t j.serial, j.kind with
  | some e, .fetch => e.state == .claimed && e.place.isSome && e.place == j.dest
  | some e, .ret => e.returnable && e.place == some j.source
  | none, _ => false

/-- One rescan for each removal. -/
def rescans : Nat → State → State
  | 0, s => s
  | n + 1, s => rescans n (rescan s)

/-! ## The job in progress (R172 to R176) -/

/-- The strobe of an ARMED job is given while GANTRY_READY is high and the fault latch clear (R174). R174 does not say what
a strobe does while the pulse of the job before it is still high: its length then begins anew, and JOB_STROBE stays high
with no new rise, the model's choice, DESIGN CHOICE (notes/assumptions/61.md). -/
def strobeTest (s : State) : State :=
  match s.store.job with
  | some j =>
    if j.phase = .armed ∧ s.levels.gantryReady ∧ !s.store.faultLatch then
      s.mapStore fun u =>
        { u with job := some { j with phase := .moving }
                 strobe := some (s.timer (match j.job.kind with | .fetch => 1000 | .ret => 2000)) }
    else s
  | none => s

/-- The job ends, its reservation is freed, and the table is rescanned (R170, R176). -/
def endJob (s : State) : State :=
  rescan (s.mapStore fun u =>
    { u with job := none, reservation := none, jobFrame := none, rackWaiting := false, heldCompletion := none })

/-- The job moves to a phase. -/
def setPhase (p : JobPhase) (s : State) : State :=
  s.mapStore fun u => { u with job := u.job.map fun j => { j with phase := p } }

/-- The frame that completes a move (R175). -/
def completionFrame (j : Job) : PoolFrame :=
  match j.kind, j.dest with
  | .ret, some (.slot n) => .rack j.serial (n.setWidth 8)
  | .ret, some .chute => .remove j.serial removeSpentOut
  | .ret, _ => .remove j.serial removeInspected
  | .fetch, _ => .deliver j.serial

/-- A RACK refused SLOT_TAKEN moves to the next free slot, or waits for one (R176). -/
def moveRack (serial : Serial) (s : State) : State :=
  match freeSlot s.pool.table with
  | some n =>
    setJobFrame (.rack serial (n.setWidth 8)) (s.mapStore fun u =>
      { u with reservation := some n, rackWaiting := false
               job := u.job.map fun j => { j with job := { j.job with dest := some (.slot n) } } })
  | none => s.mapStore fun u => { u with jobFrame := none, rackWaiting := true }

/-- A slot may have become free for a waiting RACK (R176). -/
def waitingRack (s : State) : State :=
  match s.store.job with
  | some j => if s.store.rackWaiting ∧ (freeSlot s.pool.table).isSome then moveRack j.job.serial s else s
  | none => s

/-! ## The claim watch (R178) -/

/-- The record's FETCH is the job in progress in STARTING. -/
def StoreUnit.starting (u : StoreUnit) (serial : Serial) : Bool :=
  u.job.any fun j => j.phase == .starting && j.job.serial == serial

/-- The test of a claim record: expired, its holder SILENT, no release pending, and not being fetched (R178). -/
def claimWatchTest (serial : Serial) (s : State) : State :=
  match s.store.claims.find? fun c => c.serial == serial with
  | some c =>
    if s.synced ∧ c.expired ∧ !c.releasePending ∧ s.isSilent c.station ∧ !s.store.starting serial
        ∧ s.store.canAdd (.release serial releaseExpired) then
      addRequest (.release serial releaseExpired) (s.mapStore fun u =>
        { u with claims := u.claims.map fun x => if x.serial = serial then { x with releasePending := true } else x })
    else s
  | none => s

/-- A liveness notice (R55): the claims of SILENT holders are tested, those of the station it names and those whose release
failed since the last notice (R178), in the order of the claim list (notes/assumptions/54.md). -/
def livenessNotice (s : State) : State :=
  if s.storeLive then (s.store.claims.map ClaimRecord.serial).foldl (fun s x => claimWatchTest x s) s else s

/-- The job in STARTING is dropped: its DISPATCH is withdrawn, and the claim watch tests its claim again (R172, R178). -/
def dropStarting (serial : Serial) (s : State) : State :=
  let s := withdrawFrames (fun o p => o == .storeUnit && p == .pool (.dispatch serial)) s
  storePump (claimWatchTest serial (endJob s))

/-! ## The track scan (R180) -/

/-- The serials of TRANSIT entries, apart from the wheel of a FETCH in progress, in ascending order. -/
def State.transitSerials (s : State) : List Serial :=
  ((canonical s.pool.table).filter fun e =>
    e.state == .transit && !(s.store.job.any fun j => j.job.kind == .fetch && j.job.serial == e.serial)).map
    Entry.serial

/-- The scan stands at the first TRANSIT serial at or above `low`, or ends (R180). -/
def trackFrom (low : Nat) (s : State) : State :=
  match s.transitSerials.find? fun x => low ≤ x.toNat with
  | some x => storePump (s.mapStore fun u => { u with track := some ⟨.quarantine x quarantineLostTrack 0, .due⟩ })
  | none => s.mapStore fun u => { u with track := none }

/-! ## Store notices (R90) -/

/-- Checkpoints of the store image pages that hold changed positions (R179). -/
def checkpointChanges (changes : List (Option Entry × Option Entry)) (s : State) : State :=
  changes.foldl (fun s c =>
    match c.2, c.1 with
    | some e, _ => requestCheckpoint (imagePageId e.pos) s
    | none, some e => requestCheckpoint (imagePageId e.pos) s
    | none, none => s) s

/-- The claim list after an applied frame (R178). -/
def claimList (t : Table) (claimed : Option Entry) (stamp : Time) (claims : List ClaimRecord) : List ClaimRecord :=
  let kept := claims.filter fun c => (findSerial t c.serial).any fun e => e.state == .claimed
  match claimed with
  | some e => kept ++ [⟨e.serial, (e.holder.map Holder.station).getD 0, stamp, false, false⟩]
  | none => kept

/-- The job that arises from an applied frame (R171). -/
def jobArises (f : PoolFrame) (changes : List (Option Entry × Option Entry)) (claimed : Option Entry) (stamp : Time)
    (s : State) : State :=
  match f with
  | .claim _ _ => match claimed with
    | some e => queueFetch e stamp s
    | none => s
  | .mount _ _ old _ _ =>
    match changes.find? fun c => c.2.any fun e => e.serial == old && e.returnable with
    | some (_, some e) => queueReturn e stamp s
    | _ => s
  | .release serial _ =>
    match changes.find? fun c => c.2.any fun e => e.serial == serial && e.state == .returning with
    | some (_, some e) => queueReturn e stamp s
    | _ => s
  | _ => s

/-- The entry of the serial is CLAIMED. -/
def claimedIn (t : Table) (serial : Serial) : Bool := (findSerial t serial).any fun e => e.state == .claimed

/-- An applied RELEASE, QUARANTINE or DECLARE drops the job in STARTING whose wheel it takes out of CLAIMED (R172). After a
MOUNT has taken it the job stays until its DISPATCH is refused (notes/assumptions/35.md). -/
def startingTaken (f : PoolFrame) (before after : Table) (s : State) : State :=
  match s.store.job with
  | some j =>
    if j.phase = .starting ∧ (f.kind = .release ∨ f.kind = .quarantine ∨ f.kind = .declare)
        ∧ claimedIn before j.job.serial ∧ !claimedIn after j.job.serial then dropStarting j.job.serial s
    else s
  | none => s

/-- The store unit awaits the outcome of this job frame. -/
def StoreUnit.awaitsJob (u : StoreUnit) (f : PoolFrame) : Bool := u.jobFrame == some ⟨f, .submitted⟩

def StoreUnit.awaitsTrack (u : StoreUnit) (f : PoolFrame) : Bool := u.track == some ⟨f, .submitted⟩

/-- The outcome of the job frame (R172, R176, R177). -/
def jobOutcome (f : PoolFrame) (out : PoolOutcome) (s : State) : State :=
  match f, out with
  | .dispatch _, .applied _ _ => strobeTest (setPhase .armed (s.mapStore fun u => { u with jobFrame := none }))
  | .dispatch serial, .refused _ => dropStarting serial s
  | .rack serial _, .refused .slotTaken => moveRack serial s
  | _, _ => endJob s

/-- The outcome of one of the store unit's own frames (R168). -/
def storeOutcome (f : PoolFrame) (out : PoolOutcome) (s : State) : State :=
  if s.store.awaitsJob f then storePump (jobOutcome f out s)
  else if s.store.awaitsTrack f then trackFrom (f.named.toNat + 1) s
  else
    match out with
    | .refused _ => requestFailed f s
    | .applied _ _ => s

/-- The store notice of an applied frame (R90): the claim list, invalid jobs, the job that arises, the removals' rescans,
the job in progress, a waiting RACK and the checkpoints (notes/assumptions/12.md gives this order). -/
def storeApplied (f : PoolFrame) (before after : Table) (claimed : Option Entry) (stamp : Time) (own : Bool)
    (out : PoolOutcome) (s : State) : State :=
  let changes := changedEntries before after
  let gone := s.store.queue.countP fun j => !j.valid after
  let s := s.mapStore fun u =>
    { u with claims := claimList after claimed stamp u.claims, queue := u.queue.filter (Job.valid after) }
  let s := rescans gone (jobArises f changes claimed stamp s)
  let s := if own then storeOutcome f out s else s
  checkpointChanges changes (waitingRack (startingTaken f before after s))

/-- The store notice of a frame (R90). -/
def storeNotice (f : PoolFrame) (before : Table) (own : Bool) (stamp : Time) (out : PoolOutcome) (s : State) : State :=
  match out with
  | .applied after claimed => storeApplied f before after claimed stamp own out s
  | .refused _ => if own then storeOutcome f out s else s

/-- The transmit side answers a frame of the store unit *not sent* (R168). -/
def storeNotSent (f : PoolFrame) (s : State) : State :=
  let waiting : SubmitStatus := .waiting (s.timer s.rollInterval)
  let s :=
    if s.store.awaitsJob f then s.mapStore fun u => { u with jobFrame := some ⟨f, waiting⟩ }
    else if s.store.awaitsTrack f then s.mapStore fun u => { u with track := some ⟨f, waiting⟩ }
    else requestFailed f s
  storePump s

/-! ## Pool resync (R180) -/

/-- The completion that a frame of the job in CLOSING stood for. -/
def heldOf (jf : Option StoreFrame) : HeldCompletion :=
  match jf with
  | some ⟨.quarantine _ _ _, _⟩ => .fault
  | _ => .done

/-- Pending requests for the store image pages are withdrawn (R179). -/
def withdrawImagePages (s : State) : State :=
  s.mapLife fun l => { l with pending := l.pending.filter fun id => id < 16 }

/-- A pool resync at the store unit (R180). -/
def storeResync (s : State) : State :=
  let s := withdrawImagePages (s.mapStore fun u =>
    { u with queue := [], sendList := [], track := none, claims := [] })
  let drop (s : State) : State := s.mapStore fun u =>
    { u with job := none, reservation := none, jobFrame := none, rackWaiting := false, heldCompletion := none }
  match s.store.job with
  | none => s
  | some j =>
    match j.phase, j.job.kind with
    | .starting, _ => drop s
    | .armed, .fetch => drop s
    | .armed, .ret => s
    | .moving, _ => s
    | .closing, _ =>
      s.mapStore fun u =>
        { u with heldCompletion := some (u.heldCompletion.getD (heldOf u.jobFrame)), jobFrame := none,
                 rackWaiting := false }

/-! ## Reconciliation (R110, R111) -/

/-- All six store image pages are requested (R110). -/
def requestImagePages (s : State) : State :=
  [16, 17, 18, 19, 20, 21].foldl (fun s id => requestCheckpoint id s) s

/-- The move of the job in progress ends without a frame, or its held completion becomes one (R111, R180). -/
def takeHeldCompletion (s : State) : State :=
  match s.store.heldCompletion, s.store.job with
  | some c, some j =>
    let s' := s.mapStore fun u => { u with heldCompletion := none }
    match c, findSerial s.pool.table j.job.serial with
    | .fault, some _ => setJobFrame (.quarantine j.job.serial quarantineGantryFault 0) s'
    | .done, some e =>
      match j.job.kind with
      | .fetch =>
        if e.state = .transit ∧ e.place = j.job.dest then setJobFrame (.deliver j.job.serial) s' else endJob s'
      | .ret => if e.returnable ∧ e.holder.isSome then setJobFrame (completionFrame j.job) s' else endJob s'
    | _, none => endJob s'
  | _, _ => s

/-- Reconciliation at a store-role station on entry to SYNCED (R110, R111). -/
def reconcileStore (s : State) : State :=
  let s := requestImagePages s
  let entries := canonical s.pool.table
  let s := (entries.filter fun e => e.returnable && e.holder.isSome).foldl (fun s e => queueReturn e s.now s) s
  let claimed := entries.filter fun e => e.state == .claimed
  let s := s.mapStore fun u =>
    { u with claims := claimed.map fun e => ⟨e.serial, (e.holder.map Holder.station).getD 0, s.now, false, false⟩ }
  let s := claimed.foldl (fun s e => queueFetch e s.now s) s
  takeHeldCompletion (trackFrom 0 s)

end Sys2Proof.Machine
end

