-- ==== Sys2Proof/Machine/Operands.lean ====
section
/-! DEFINITION. The operand forms: how a sampled character is decided (R4 to R6), how a sync character is measured
(R10), how a dominant run is classed (R7), and how a veto slot is classed (R24). -/
namespace Sys2Proof.Machine

/-! ## Characters (R4 to R6) -/

/-- The level held by the majority of slots 8, 9 and 10; true is recessive (R5). -/
def majority (b : Slot3) : Bool := (b.s8 && b.s9) || (b.s8 && b.s10) || (b.s9 && b.s10)

/-- The samples examined for a bit do not all agree (R5). -/
def disagrees (b : Slot3) : Bool := !(b.s8 == b.s9 && b.s9 == b.s10)

/-- A start edge: a dominant sample after at least 3 consecutive recessive ones, its start bit confirmed when at least 2
of slots 3, 5 and 7 are dominant (R4). -/
def startConfirmed (recessiveBefore : Nat) (x : StartSamples) : Bool :=
  3 ≤ recessiveBefore && ((!x.s3 && !x.s5) || (!x.s3 && !x.s7) || (!x.s5 && !x.s7))

/-- A start bit's samples do not all read dominant (R5). -/
def startNoisy (x : StartSamples) : Bool := x.s3 || x.s5 || x.s7 || x.s8 || x.s9 || x.s10

/-- A character as a receiver hands it on (R3). -/
structure Character where
  data : Byte
  mark : Bool
  noise : Bool
  framing : Bool
  deriving DecidableEq, Repr

def charDataBits (c : CharSamples) : List Slot3 := [c.d7, c.d6, c.d5, c.d4, c.d3, c.d2, c.d1, c.d0]

/-- Bits, most significant first, as a byte (R3). -/
def byteOfBits (bits : List Bool) : Byte := BitVec.ofNat 8 (bits.foldl (fun n b => 2 * n + b.toNat) 0)

/-- The character that the samples give, or none for a false start (R4 to R6). -/
def decideCharacter (c : CharSamples) : Option Character :=
  if startConfirmed c.recessiveBefore c.start then
    some ⟨byteOfBits ((charDataBits c).map majority), majority c.mark,
      startNoisy c.start || (charDataBits c).any disagrees || disagrees c.mark || disagrees c.stop,
      !majority c.stop⟩
  else none

/-! ## The sync character (R10) -/

/-- The three checks of a sync character: the fifth falling edge within 144 nominal slots, the span in 112..144, and
positions 8, 9 and 10 dominant, recessive and recessive. -/
def syncGood (m : SyncMeasure) : Bool :=
  m.span ≤ 144 && 112 ≤ m.span && !majority m.pos8 && majority m.pos9 && majority m.pos10

/-! ## Dominant runs (R7) -/

inductive RunClass where
  | glitch
  | disturbance
  | breakRun
  | longBreak
  deriving DecidableEq, Repr

/-- The run's length in whole nominal bit-times of 16 slots (notes/assumptions/9.md). -/
def runBitTimes (r : Run) : Nat := r.slots / 16

/-- The class of a run by its length (R7). -/
def classOfLength (bitTimes : Nat) : RunClass :=
  if bitTimes < 4 then .glitch else if bitTimes ≤ 10 then .disturbance else if bitTimes ≤ 23 then .breakRun
  else .longBreak

/-- Slot 10 of bit 10, where a character's stop bit is decided, in nominal slots from its start edge, on a grid of this
bit-time in eighths of a nominal slot (R4, R6). -/
def stopDecision (bitTime : Nat) : Nat := 170 * bitTime / 128

/-- A run can be the content of a character that a receiver is assembling: the frame path assembles in SYNC, where the
bit-time is at most 18 slots (R10), and in FRAME, and the stop path while the matcher is in an attempt (R7, R9). A run that
covers a stop-bit decision, or that is longer than a character up to it, is not. -/
def State.mayBeContent (s : State) (r : Run) : Bool :=
  !r.coveredStop
    && ((match s.line.rx with
          | .sync => decide (r.slots < stopDecision 144)
          | .frame => decide (r.slots < stopDecision s.line.bitTime)
          | .off | .loopback | .settling | .idle | .awaitSync | .slot | .ignore | .faultListen => false)
      || (s.stop.matcher != .idle && decide (r.slots < stopDecision 128)))

/-- Where a run lay (R7): the sampler's report, held against the veto slot and the receivers (notes/assumptions/7.md). A
run that goes on behind the slot's end is the one that began inside it (R26). -/
def State.runContext (s : State) (r : Run) : RunContext :=
  if s.line.slotRun then .veto
  else
    match r.context with
    | .content => if s.mayBeContent r then .content else .line
    | .veto => if s.line.rx = .slot then .veto else .line
    | .line => .line

/-- The class a run is given: character content is not classified, and veto activity only as a long break at 24
bit-times or more (R7, R26). -/
def State.runClass (s : State) (r : Run) : Option RunClass :=
  match s.runContext r with
  | .content => none
  | .veto => if 24 ≤ runBitTimes r then some .longBreak else none
  | .line => some (classOfLength (runBitTimes r))

/-! ## The veto slot (R24) -/

inductive SlotOutcome where
  | vetoSeen
  | ambiguous
  | clear
  deriving DecidableEq, Repr

/-- The longest run of dominant bit-times, with the run now under way. -/
def longestDominant : Nat → List Bool → Nat
  | run, [] => run
  | run, b :: bs => if b then max run (longestDominant 0 bs) else longestDominant (run + 1) bs

/-- The class of a veto slot from its 11 bit-times; a bit-time that is not given reads recessive (R24). -/
def classifySlot (bits : List Slot3) : SlotOutcome :=
  let levels := (bits.take 11).map majority
  if 4 ≤ longestDominant 0 levels then .vetoSeen
  else if ((levels.drop 2).take 6).any (fun b => !b) then .ambiguous
  else .clear

/-! ## Lengths in bit-times -/

/-- The nominal sample slots in a microsecond: 1, 2, 4 or 8 by the rate strap (R2). -/
def slotsPerUs (rate : BitVec 2) : Nat := 2 ^ rate.toNat

/-- The expected end of a frame of data length `l`, in whole microseconds from its stamp: 11 × (7 + l) measured
bit-times, each of `bitTime` eighths of a nominal slot (R17, R28). -/
def expectedLength (rate : BitVec 2) (bitTime l : Nat) : Nat := 11 * (7 + l) * bitTime / (8 * slotsPerUs rate)

/-- A clean character for tests and witnesses: every sample at the level of its bit. -/
def cleanBit (b : Bool) : Slot3 := ⟨b, b, b⟩

def cleanChar (data : Byte) (mark : Bool) : CharSamples :=
  ⟨3, ⟨false, false, false, false, false, false⟩, cleanBit (data.getLsbD 7), cleanBit (data.getLsbD 6),
    cleanBit (data.getLsbD 5), cleanBit (data.getLsbD 4), cleanBit (data.getLsbD 3), cleanBit (data.getLsbD 2),
    cleanBit (data.getLsbD 1), cleanBit (data.getLsbD 0), cleanBit mark, cleanBit true⟩

end Sys2Proof.Machine
end

