-- ==== Sys2Proof/Machine/StopCall.lean ====
section
/-! DEFINITION. The stop call unit (chapter 3): own requests and their sending, the matcher, the peer-stop latch and the
stop event record; the commands STOP_CALL_SEND_COMPLETE and STOP_CHARACTER. -/
namespace Sys2Proof.Machine
open State

/-! ## Sending (R39 to R42) -/

/-- The eleven characters of a stop call, all with mark 1 (R39). -/
def stopChars (cellCode : Byte) (st : Station) : List WireChar :=
  let n : Byte := st.setWidth 8
  (List.replicate 3 0xAA#8 ++ List.replicate 6 cellCode ++ [n, 255 - n]).map fun b => ⟨b, true⟩

def setLatch (s : State) : State := s.mapStop fun u => { u with latch := true }

/-- The first request is sent (R41): the transmitter is taken from whatever it does, a frame of this station on the line
is overtaken, the latch is set, and the line is busy with the long break that begins (R12). -/
def stopSend (s : State) : State :=
  match s.stop.requests with
  | [] => s
  | r :: rs =>
    let s := match s.transmitter with
      | .frame _ _ => leaveLine s
      | .idle | .stopCall _ _ => s
    let s := lineBusy { s with transmitter := .stopCall (stopChars s.constants.cellCode s.station) false }
    s.mapStop fun u => { u with requests := ⟨r.sends + 1, false⟩ :: rs, latch := true }

/-- A head has entered BROKEN: its stop call request (R40). -/
def submitStopRequest (s : State) : State :=
  if s.lineFault ∨ 2 ≤ s.stop.requests.length then setLatch s
  else
    let s' := s.mapStop fun u => { u with requests := u.requests ++ [⟨0, false⟩] }
    if s.stop.requests = [] then stopSend s' else s'

/-- The first request is removed, and the second is sent at once (R40). -/
def removeStopRequest (s : State) : State := stopSend (s.mapStop fun u => { u with requests := u.requests.tail })

/-- The first request awaits resolution (R42). -/
def State.awaitingResolution (s : State) : Bool :=
  match s.stop.requests with
  | r :: _ => r.awaiting
  | [] => false

/-- A recognition satisfies the request awaiting resolution (R42). -/
def satisfyRequest (s : State) : State := if s.awaitingResolution then removeStopRequest s else s

/-- The matcher reports failed, or line free comes: the request awaiting resolution is sent again, or removed after its
fourth sending (R42), and nothing is held for the class of a run any more. -/
def resendRequest (s : State) : State :=
  if s.awaitingResolution then
    let s := s.mapStop fun u => { u with failHeld := false }
    if 4 ≤ (s.stop.requests.head?.map StopRequest.sends).getD 0 then removeStopRequest s else stopSend s
  else s

/-- The sending is complete (R41, R42). -/
def stopCallSendComplete (s : State) : State :=
  match s.transmitter with
  | .stopCall _ _ => removeStopRequest { s with transmitter := .idle }
  | .idle | .frame _ _ => s

/-! ## The matcher (R43 to R45) -/

def setMatcher (m : Matcher) (s : State) : State := s.mapStop fun u => { u with matcher := m }

/-- The attempt fails, and a request awaiting resolution is sent again (R42). -/
def matcherFailed (s : State) : State := resendRequest (setMatcher .idle s)

/-- The attempt fails on a character. The run that has spoiled one with a framing mark is still going on (R6): where it is
the long break of a later call, a request awaiting resolution waits for that call (R48), so what follows for the request
waits for the run's class (notes/assumptions/55.md). Where the run ends at the character's deciding sample, and
DOMINANT_RUN_END is the command given first, it waits for the next run's class or for line free, whichever comes first: the
model's choice, DESIGN CHOICE (notes/assumptions/67.md). -/
def matcherMissed (c : Character) (s : State) : State :=
  if c.framing then s.mapStop fun u => { u with matcher := .idle, failHeld := s.awaitingResolution } else matcherFailed s

/-- The run that has spoiled the attempt's character has ended: behind a long break the request goes on waiting (R48), and
behind any other run it is sent again (R42). -/
def resolveFailed (longBreak : Bool) (s : State) : State :=
  if s.stop.failHeld then
    let s := s.mapStop fun u => { u with failHeld := false }
    if longBreak then s else resendRequest s
  else s

/-- The attempt completes: the stop event record is written and the matcher reports recognised (R45). -/
def matcherComplete (stamp : Time) (sender : Option Station) (s : State) : State :=
  satisfyRequest (s.mapStop fun u => { u with matcher := .idle, event := some ⟨stamp, sender⟩ })

/-- Recognition (R44). -/
def recognise (s : State) : State :=
  satisfyRequest (if s.constants.obeyPeerStop then setLatch s else s)

/-- A long break has ended: a new attempt, in every state (R43). -/
def matcherStart (stamp : Time) (s : State) : State := setMatcher (.sync stamp 0) s

/-- A break or a disturbance during an attempt (R43). -/
def matcherInterrupted (s : State) : State :=
  match s.stop.matcher with
  | .idle => s
  | .sync _ _ | .code _ _ _ _ => matcherFailed s
  | .sender stamp | .complement stamp _ _ => matcherComplete stamp none s

/-- A line free event (R42, R43). -/
def matcherLineFree (s : State) : State :=
  match s.stop.matcher with
  | .idle => resendRequest s
  | .sync _ _ => matcherFailed s
  | .code stamp _ matched _ => if 5 ≤ matched then matcherComplete stamp none s else matcherFailed s
  | .sender stamp | .complement stamp _ _ => matcherComplete stamp none s

/-- A character with mark 1 and no framing mark. -/
def Character.good (c : Character) : Bool := c.mark && !c.framing

/-- The sender a completion knows (R45). -/
def knownSender (sender : Byte) (good : Bool) (c : Character) : Option Station :=
  if good && c.good && 1 ≤ sender.toNat && sender.toNat ≤ 30 && sender.toNat + c.data.toNat == 255 then
    some (sender.setWidth 5)
  else none

/-- A character judged by the matcher (R44, R45). -/
def matcherTake (c : Character) (s : State) : State :=
  match s.stop.matcher with
  | .idle => s
  | .sync stamp n =>
    if c.data = 0xAA#8 ∧ c.good then
      if 2 ≤ n then setMatcher (.code stamp 0 0 0) s else setMatcher (.sync stamp (n + 1)) s
    else matcherMissed c s
  | .code stamp taken matched missed =>
    if 5 ≤ matched then setMatcher (.sender stamp) s
    else if c.data = s.constants.cellCode ∧ c.good then
      if matched + 1 = 5 then
        recognise (setMatcher (if taken + 1 = 6 then .sender stamp else .code stamp (taken + 1) 5 missed) s)
      else setMatcher (.code stamp (taken + 1) (matched + 1) missed) s
    else if 2 ≤ missed + 1 then matcherMissed c s
    else setMatcher (.code stamp (taken + 1) matched (missed + 1)) s
  | .sender stamp => setMatcher (.complement stamp c.data c.good) s
  | .complement stamp data good => matcherComplete stamp (knownSender data good c) s

def countNoise (c : Character) (s : State) : State :=
  if c.noise then s.count fun k => { k with noise := satInc k.noise } else s

/-- A sampled character on the stop path: the path assembles characters from a long break until the matcher reports
(R9). -/
def stopCharacter (c : CharSamples) (s : State) : State :=
  if s.stop.matcher = .idle then s
  else
    match decideCharacter c with
    | none => s
    | some ch => matcherTake ch (countNoise ch s)

/-- STOP_CALL_SEND_COMPLETE (R41). -/
def execStopCallSendComplete (s : State) : Host.Outcome State Fault Refusal := .next (stopCallSendComplete s)

/-- STOP_CHARACTER (R44). -/
def execStopCharacter (c : CharSamples) (s : State) : Host.Outcome State Fault Refusal := .next (stopCharacter c s)

end Sys2Proof.Machine
end

