-- ==== Sys2Proof/Machine/Swap.lean ====
section
/-! DEFINITION. The swap units (chapter 9): claiming, backoff, the held wheel, the confirm window, tag records and the
frames they submit. What needs the head units (the outcomes of MOUNT and DECLARE) is in SwapOutcome.lean. -/
namespace Sys2Proof.Machine
open State

/-! ## Submitting (R152) -/

/-- Ten roll intervals (R151, R155). -/
def State.backoffLength (s : State) : Nat := 10 * s.rollInterval

/-- Entry into BACKOFF for a family (R155). -/
def enterBackoff (h : Head) (family : BitVec 4) (s : State) : State :=
  s.mapSwap h fun u =>
    { u with state := .backoff, backoff := some (s.timer s.backoffLength), backoffFamily := family,
             backoffEnded := false }

/-- CLAIM(head, claim family) submitted, and CLAIMING entered (R153); answered *not sent* at once it leads to BACKOFF
(R154). -/
def submitClaim (h : Head) (s : State) : State :=
  let family := s.claimFamily h
  let f := PoolFrame.claim (headByte h) (familyByte family)
  let r := submit (.swapUnit h) (.pool f) s
  match r.2 with
  | .notSent => enterBackoff h family r.1
  | .admitted | .held => r.1.mapSwap h fun u => { u with state := .claiming, outstanding := some ⟨f, false, .claiming⟩ }

/-- The mismatch QUARANTINE of R160 waits for its next submission. -/
def SwapUnit.mismatchWaiting (u : SwapUnit) : Bool :=
  u.retries.any fun r => r.frame.kind == .quarantine

/-- The conditions of R153. -/
def State.mayClaim (s : State) (h : Head) : Bool :=
  let u := s.swap h
  s.headsLive && u.state == .idle && needsSister (s.condition h) && s.synced && !s.fe.doubtful && u.held.isNone
    && u.outstanding.isNone && !u.mismatchWaiting && (s.head h).declare.isNone

/-- The test of the claim conditions (R153). -/
def claimTest (h : Head) (s : State) : State := if s.mayClaim h then submitClaim h s else s

/-- A RELEASE, QUARANTINE or MOUNT submitted: answered *not sent* at once it is submitted again one roll interval later
(R152). -/
def submitRetryable (h : Head) (f : PoolFrame) (s : State) : State :=
  let r := submit (.swapUnit h) (.pool f) s
  match r.2 with
  | .notSent => r.1.mapSwap h fun u => { u with retries := u.retries ++ [⟨f, s.timer s.rollInterval, u.state⟩] }
  | .admitted | .held => r.1.mapSwap h fun u => { u with outstanding := some ⟨f, false, u.state⟩ }

/-- The pool's entry of the wheel that the unit holds is CLAIMED. -/
def State.heldClaimed (s : State) (h : Head) : Bool :=
  (s.swap h).held.any fun x => (findSerial s.pool.table x).any fun e => e.state == .claimed

/-- A NOT_NEEDED release may be sent: the entry is still CLAIMED, or at the change position (R165). -/
def State.releasable (s : State) (h : Head) : Bool :=
  match (s.swap h).state with
  | .await => s.heldClaimed h
  | .delivered | .confirming => true
  | .idle | .claiming | .backoff | .mounting | .failed => false

/-- A frame of the unit that names its serial, and which it withdraws when it stops holding it (R152). -/
def namesHeld (serial : Serial) (f : PoolFrame) : Bool :=
  match f with
  | .release x _ => x == serial
  | .mount _ new _ _ _ => new == serial
  | _ => false

/-- A frame answered *not sent* is submitted again (R152): the unit is still in the state that sent it and still holds the
serial; the QUARANTINE of R160 goes out whatever the state. -/
def SwapUnit.resends (u : SwapUnit) (f : PoolFrame) (sentIn : SwapState) : Bool :=
  f.kind == .quarantine || (u.state == sentIn && u.held.any fun serial => namesHeld serial f)

/-- The rule that called for a frame still does, as it comes to be submitted (R152). -/
def State.stillCalls (s : State) (h : Head) (w : Want) : Bool :=
  let u := s.swap h
  match w with
  | .claim | .claimAgain => u.state == .claiming
  | .releaseExpired => u.state == .await && s.heldClaimed h
  | .releaseWindow => u.state == .confirming
  | .releaseNotNeeded => u.notNeeded && s.releasable h
  | .mismatch _ => true
  | .mount f => u.state == .mounting && u.held.any fun serial => namesHeld serial f
  | .again f sentIn => u.resends f sentIn

/-- The frame a want stands for. -/
def SwapUnit.wantedFrame (u : SwapUnit) (w : Want) : Option PoolFrame :=
  match w with
  | .claim | .claimAgain => none
  | .releaseExpired => u.held.map fun x => .release x releaseExpired
  | .releaseWindow => u.held.map fun x => .release x releaseWindow
  | .releaseNotNeeded => u.held.map fun x => .release x releaseNotNeeded
  | .mismatch serial => some (.quarantine serial quarantineTagMismatch 0)
  | .mount f => some f
  | .again f _ => some f

/-- The head unit reports its breakage report unsettled (R148). -/
def State.reportUnsettled (s : State) (h : Head) : Bool := (s.head h).report != .none

/-- A frame called for that waits for the head unit: a MOUNT for the settling of the breakage report (R162), and a new CLAIM
for the end of the head's reconciliation DECLARE (R119, notes/assumptions/18.md). -/
def State.wantWaits (s : State) (h : Head) : Want → Bool
  | .claim | .claimAgain => (s.swap h).state == .claiming && (s.head h).declare.isSome
  | .mount _ => (s.swap h).state == .mounting && s.reportUnsettled h
  | .again f _ => f.kind == .mount && (s.swap h).state == .mounting && s.reportUnsettled h
  | .releaseExpired | .releaseWindow | .releaseNotNeeded | .mismatch _ => false

/-- A frame called for is submitted, if its rule still calls for it (R152, R157). -/
def takeWant (h : Head) (w : Want) (s : State) : State :=
  match w with
  | .claim | .claimAgain =>
    if s.stillCalls h w then
      if needsSister (s.condition h) ∨ w = .claimAgain then submitClaim h s
      else s.mapSwap h fun x => { x with state := .idle }
    else s
  | .releaseExpired | .releaseWindow | .releaseNotNeeded | .mismatch _ | .mount _ | .again _ _ =>
    match (s.swap h).wantedFrame w with
    | some f => if s.stillCalls h w then submitRetryable h f s else s
    | none => s

def swapPumpFrom (h : Head) : List Want → State → State
  | [], s => s
  | w :: ws, s =>
    if (s.swap h).outstanding.isSome ∨ s.wantWaits h w then s
    else swapPumpFrom h ws (takeWant h w (s.mapSwap h fun u => { u with wants := ws }))

/-- The frames called for are submitted in their order while none is outstanding (R152). -/
def swapPump (h : Head) (s : State) : State := swapPumpFrom h (s.swap h).wants s

/-- A frame called for by a rule, once. -/
def swapWant (h : Head) (w : Want) (s : State) : State :=
  swapPump h (s.mapSwap h fun u => { u with wants := if w ∈ u.wants then u.wants else u.wants ++ [w] })

/-- A frame has stopped being outstanding (R152, R153). -/
def swapFrameEnded (h : Head) (s : State) : State := claimTest h (swapPump h s)

/-! ## Backoff (R155) -/

/-- The end of a backoff: deferred while a tag DECLARE is outstanding (R155, R164). -/
def endBackoff (h : Head) (s : State) : State :=
  let u := s.swap h
  if u.state ≠ .backoff then s
  else if u.tagDeclare then s.mapSwap h fun x => { x with backoff := none, backoffEnded := true }
  else claimTest h (s.mapSwap h fun x => { x with state := .idle, backoff := none, backoffEnded := false })

/-- A family notice (R89). -/
def familyNotice (family : BitVec 4) (h : Head) (s : State) : State :=
  if (s.swap h).state = .backoff ∧ (s.swap h).backoffFamily = family then endBackoff h s else s

/-! ## The held wheel -/

/-- A want of the QUARANTINE of R160, which runs to its outcome (R152). -/
def Want.isMismatch : Want → Bool
  | .mismatch _ => true
  | .again f _ => f.kind == .quarantine
  | .claim | .claimAgain | .releaseExpired | .releaseWindow | .releaseNotNeeded | .mount _ => false

/-- The unit stops holding its serial (R152): frames naming it are withdrawn, and what belongs to it is cleared. -/
def dropHeld (h : Head) (s : State) : State :=
  match (s.swap h).held with
  | none => s
  | some serial =>
    let s := withdrawFrames (fun o p =>
      o == .swapUnit h && (match p with | .pool f => namesHeld serial f | _ => false)) s
    s.mapSwap h fun u =>
      { u with
        held := none
        claimStamp := none
        lifetime := none
        window := .stopped
        notNeeded := false
        wants := u.wants.filter Want.isMismatch
        retries := u.retries.filter fun r => r.frame.kind == .quarantine
        outstanding :=
          match u.outstanding with
          | some o => if namesHeld serial o.frame && !o.sent then none else some o
          | none => none }

/-- The unit enters a state that holds no wheel. -/
def setSwapState (h : Head) (st : SwapState) (s : State) : State := s.mapSwap h fun u => { u with state := st }

/-- The held serial is dropped, and the attempt is counted if it counts. -/
def dropCounted (h : Head) (counted : Bool) (s : State) : State :=
  let s := dropHeld h s
  if counted then s.mapSwap h fun u => { u with attempts := min 3 (u.attempts + 1) } else s

/-- CLAIMING with a new CLAIM, or FAILED at a count of 3 (R156, R157, R161). -/
def claimAnew (h : Head) (w : Want) (s : State) : State :=
  if (s.swap h).attempts = 3 then setSwapState h .failed s else swapWant h w (setSwapState h .claiming s)

/-- The wheel is taken from the head by the cell (R157): the unit claims again, waits in IDLE where the head needs no
sister, or enters FAILED at a count of 3 (notes/assumptions/50.md orders the two). -/
def loseWheel (h : Head) (counted : Bool) (s : State) : State :=
  let s := dropCounted h counted s
  if needsSister (s.condition h) ∨ (counted ∧ (s.swap h).attempts = 3) then claimAnew h .claim s
  else setSwapState h .idle s

/-- The unit's own RELEASE of its wheel, EXPIRED or WINDOW, has been applied (R156, R161). -/
def giveUpWheel (h : Head) (counted : Bool) (s : State) : State := claimAnew h .claimAgain (dropCounted h counted s)

/-- The held wheel is given up in MOUNTING (R162). -/
def failMount (h : Head) (s : State) : State := setSwapState h .failed (dropHeld h s)

/-! ## The confirm window and the exchange (R158) -/

def startWindow (h : Head) (s : State) : State :=
  s.mapSwap h fun u => { u with state := .confirming, window := .running (s.timer s.confirmWindow) }

/-- SWAP_REQ is high in DELIVERED: the confirm window starts (R158). -/
def exchangeTest (h : Head) (s : State) : State :=
  if (s.swap h).state = .delivered ∧ exchangeDue (s.condition h) then startWindow h s else s

/-- The not-needed flag is set, and the unit acts by its state (R165). -/
def markNotNeeded (h : Head) (s : State) : State :=
  let s := s.mapSwap h fun u => { u with notNeeded := true }
  match (s.swap h).state with
  | .await => if s.heldClaimed h then swapWant h .releaseNotNeeded s else s
  | .delivered | .confirming =>
    swapWant h .releaseNotNeeded (s.mapSwap h fun u => { u with window := .stopped })
  | .idle | .claiming | .backoff | .mounting | .failed => s

def isNotNeededRelease : PoolFrame → Bool
  | .release _ reason => reason == releaseNotNeeded
  | _ => false

/-- A NOT_NEEDED release is outstanding (R165). One answered *not sent*, which waits for its next submission, is not: the
claim family handed back then still clears the flag (notes/assumptions/47.md). -/
def SwapUnit.notNeededSubmitted (u : SwapUnit) : Bool := u.outstanding.any fun o => isNotNeededRelease o.frame

/-- A frame called for that goes when the swap goes on (R165): a NOT_NEEDED release, and with the unit `back` in DELIVERED
also the WINDOW release and what CONFIRMING has sent. -/
def Want.endsWithNeed (back : Bool) : Want → Bool
  | .releaseNotNeeded => true
  | .releaseWindow => back
  | .again f sentIn => isNotNeededRelease f || (back && sentIn == .confirming)
  | .claim | .claimAgain | .releaseExpired | .mismatch _ | .mount _ => false

/-- The swap that was not needed goes on (R165): its RELEASE is called for no more, and a CONFIRMING unit whose window was
stopped is in DELIVERED again, where the frames it sent in CONFIRMING are not sent again (notes/assumptions/19.md). -/
def SwapUnit.goesOn (u : SwapUnit) : SwapUnit :=
  let back : Bool := u.state == .confirming && u.window == .stopped
  { u with notNeeded := false
           wants := u.wants.filter fun w => !w.endsWithNeed back
           retries := u.retries.filter fun r => !Want.endsWithNeed back (.again r.frame r.sentIn)
           state := if back then .delivered else u.state }

/-- The claim family fits the held wheel again before the release is submitted (R165). -/
def clearNotNeeded (h : Head) (s : State) : State := exchangeTest h (s.mapSwap h SwapUnit.goesOn)

/-- The held wheel against the claim family the head unit has handed (R165). The flag is cleared after a refused NOT_NEEDED
release too, before DELIVER (notes/assumptions/57.md). -/
def suitTest (h : Head) (s : State) : State :=
  let u := s.swap h
  if u.held.isNone then s
  else if u.heldFamily ≠ s.claimFamily h then
    if u.notNeeded then s else markNotNeeded h s
  else if u.notNeeded ∧ !u.notNeededSubmitted then clearNotNeeded h s
  else s

/-- The head unit hands its need and claim family (R117, R119): the unit tests SWAP_REQ, the suit of its wheel, and the
claim conditions. A window that SWAP_REQ starts here is stopped again for a wheel that no longer suits (R165,
notes/assumptions/23.md). -/
def swapNews (h : Head) (s : State) : State :=
  if s.headsLive then claimTest h (suitTest h (exchangeTest h s)) else s

/-- Entry into DELIVERED (R158): a wheel that is no longer needed is given up as in DELIVERED or CONFIRMING (R165). -/
def enterDelivered (h : Head) (s : State) : State :=
  let s := exchangeTest h (s.mapSwap h fun u =>
    { u with state := .delivered, window := .stopped, claimStamp := none, lifetime := none })
  if (s.swap h).notNeeded then markNotNeeded h s else s

/-! ## Mounting (R162) -/

/-- The MOUNT prepared from the held serial and the head record (R162). -/
def mountFrame (s : State) (h : Head) (serial : Serial) : PoolFrame :=
  match (s.head h).record with
  | some r => .mount (headByte h) serial r.serial r.diameter (boolByte (r.condition == .spent))
  | none => .mount (headByte h) serial 0 0 0

/-- Entry into MOUNTING (R162). -/
def enterMounting (h : Head) (s : State) : State :=
  match (s.swap h).held with
  | none => s
  | some serial =>
    let f := mountFrame s h serial
    swapWant h (.mount f) (s.mapSwap h fun u => { u with state := .mounting, window := .stopped })

/-! ## Tag records (R159, R160, R164) -/

/-- A tag record judged in CONFIRMING (R160). -/
def judgeTag (h : Head) (r : TagRecord) (s : State) : State :=
  let u := s.swap h
  match u.held with
  | none => s
  | some serial =>
    if r.serial = serial ∧ r.family = familyByte u.heldFamily then enterMounting h s
    else swapWant h (.mismatch serial) (setSwapState h .failed (dropHeld h s))

/-- A tag DECLARE has ended without a record (R164). -/
def declareEnded (h : Head) (s : State) : State :=
  let s := s.mapSwap h fun u => { u with tagDeclare := false }
  if (s.swap h).state = .backoff ∧ (s.swap h).backoffEnded then endBackoff h s else claimTest h s

/-- DECLARE from a tag for a NO_WHEEL head (R164). -/
def declareFromTag (h : Head) (r : TagRecord) (s : State) : State :=
  let f := PoolFrame.declare (headByte h) r.serial r.family (tagDiameter s.families r.family r.diameter)
  let q := submit (.swapUnit h) (.pool f) (s.mapSwap h fun u => { u with tagDeclare := true })
  match q.2 with
  | .notSent => declareEnded h q.1
  | .admitted | .held => q.1.mapSwap h fun u => { u with outstanding := some ⟨f, false, u.state⟩ }

def tagIgnored (s : State) : State := s.count fun c => { c with tagsIgnored := satInc c.tagsIgnored }

/-- A HEAD_READ record taken by the swap unit of its head, by the first row of R159 that applies. -/
def takeHeadTag (h : Head) (r : TagRecord) (changePos : Bool) (s : State) : State :=
  let u := s.swap h
  if !changePos then tagIgnored s
  else if u.notNeeded ∧ u.held = some r.serial then tagIgnored s
  else
    match u.state with
    | .confirming =>
      match u.window with
      | .running _ => judgeTag h r s
      | .stopped | .expired => tagIgnored s
    | .delivered => judgeTag h r (startWindow h s)
    | .await =>
      if u.held = some r.serial ∧ r.family = familyByte u.heldFamily then enterMounting h s else tagIgnored s
    | .idle | .backoff =>
      if (s.condition h).isNone ∧ !u.tagDeclare ∧ s.synced ∧ u.outstanding.isNone ∧ !u.mismatchWaiting then
        declareFromTag h r s
      else tagIgnored s
    | .claiming | .mounting | .failed => tagIgnored s

/-! ## *Sent*, *not sent* and *outcome lost* -/

/-- The transmit side reports a frame of the unit *sent* (R87). -/
def swapSent (h : Head) (f : PoolFrame) (s : State) : State :=
  s.mapSwap h fun u =>
    { u with outstanding := u.outstanding.map fun o => if o.frame = f then { o with sent := true } else o }

/-- The transmit side reports a frame of the unit *not sent* (R152, R154, R164). -/
def swapNotSent (h : Head) (f : PoolFrame) (s : State) : State :=
  let u := s.swap h
  match u.outstanding.filter fun o => o.frame = f with
  | some o =>
    let s := s.mapSwap h fun x => { x with outstanding := none }
    match f with
    | .claim _ family =>
      if u.state = .claiming then swapFrameEnded h (enterBackoff h (family.setWidth 4) s) else swapFrameEnded h s
    | .declare _ _ _ _ => swapPump h (declareEnded h s)
    | _ => swapFrameEnded h (s.mapSwap h fun x =>
        { x with retries := x.retries ++ [⟨f, s.timer s.rollInterval, o.sentIn⟩] })
  | none => s

/-- The family of the CLAIM the unit has outstanding, or is about to submit. -/
def State.claimedFamily (s : State) (h : Head) : BitVec 4 :=
  match (s.swap h).outstanding with
  | some ⟨.claim _ family, _, _⟩ => family.setWidth 4
  | _ => s.claimFamily h

/-- A pool resync at a swap unit (R166). A frame that waits for its next submission is forgotten with the outstanding one
(notes/assumptions/51.md). -/
def swapResync (h : Head) (s : State) : State :=
  let u := s.swap h
  let family := s.claimedFamily h
  let clear : SwapUnit → SwapUnit := fun x => { x with outstanding := none, wants := [], retries := [] }
  match u.state with
  | .claiming => enterBackoff h family (s.mapSwap h clear)
  | .backoff =>
    s.mapSwap h fun x =>
      { clear x with tagDeclare := false, backoffEnded := false, state := if x.backoffEnded then .idle else .backoff }
  | .idle => s.mapSwap h fun x => { clear x with tagDeclare := false }
  | .await | .delivered | .confirming | .mounting =>
    s.mapSwap h fun x =>
      { clear x with state := .idle, held := none, claimStamp := none, lifetime := none, window := .stopped,
                     notNeeded := false }
  | .failed => s.mapSwap h clear

/-! ## Adoption (R109) -/

/-- The entry on its way to a head, apart from the wheel its record names (R109). -/
def State.adoptable (s : State) (h : Head) : Option Entry :=
  s.pool.table.find? fun e =>
    (e.state == .claimed || e.state == .transit || e.state == .delivered)
      && (e.holder.any fun x => x.station == s.station && x.head == h)
      && !((s.head h).record.any fun r => r.serial == e.serial)

/-- An IDLE swap unit adopts the entry on its way to its head (R109). A CLAIMED or TRANSIT entry takes the time of the load
as its claim-stamp, and a CLAIMED one starts its lifetime timer (R166); the confirm window is not started. -/
def swapAdopt (h : Head) (s : State) : State :=
  if (s.swap h).state ≠ .idle then s
  else
    match s.adoptable h with
    | none => s
    | some e =>
      match e.state with
      | .claimed =>
        s.mapSwap h fun u =>
          { u with state := .await, held := some e.serial, heldFamily := e.family, claimStamp := some s.now,
                   lifetime := some (s.timer s.claimLifetime) }
      | .transit =>
        s.mapSwap h fun u =>
          { u with state := .await, held := some e.serial, heldFamily := e.family, claimStamp := some s.now }
      | .delivered =>
        s.mapSwap h fun u =>
          { u with state := .delivered, held := some e.serial, heldFamily := e.family, window := .stopped }
      | .free | .mounted | .returning | .quarantined => s

end Sys2Proof.Machine
end

