-- ==== Sys2Proof/Machine/HeadUnit.lean ====
section
/-! DEFINITION. What the head units do (chapters 7 and 8), apart from the commands themselves: condition changes,
evaluations, verdicts, the breakage report, the reconciliation DECLARE, and records made, replaced and dropped. -/
namespace Sys2Proof.Machine
open State

/-! ## Conditions (R116, R117) -/

/-- A condition change (R117). TOOL_OK, CODE and FEED_HOLD follow from the state. -/
def conditionChanged (h : Head) (s : State) : State := swapNews h (requestCheckpoint (headId h) s)

/-- The record takes a condition; a new one is a condition change. -/
def setCondition (h : Head) (c : Condition) (s : State) : State :=
  if s.condition h = none ∨ s.condition h = some c then s
  else conditionChanged h (s.mapRecord h fun r => { r with condition := c })

/-- The record takes the result of its evaluation (R116). -/
def evaluateHead (h : Head) (s : State) : State :=
  let s' := s.mapRecord h (HeadRecord.evaluated s.families)
  if s'.condition h = s.condition h then s' else conditionChanged h s'

/-- An evaluation at a stroke or a cycle end: only in SERVING, WORN_SOON or LAST_PARTS (R116). -/
def evaluateWorking (h : Head) (s : State) : State :=
  if (s.condition h).any Condition.working then evaluateHead h s else s

/-- The cycle ends, and its check state is discarded (R127, R150). -/
def closeCycle (h : Head) (s : State) : State := s.mapHead h fun u => { u with cycle := none }

/-! ## The breakage report (R148) -/

/-- The report is settled: the swap unit is told (R148). -/
def settleReport (h : Head) (s : State) : State :=
  swapPump h (s.mapHead h fun u => { u with report := .none, reportRetry := none })

/-- A DUE report is submitted while the station is SYNCED, when the unit's one held request is free (R148). -/
def submitReport (h : Head) (s : State) : State :=
  match (s.head h).record with
  | none => s
  | some r =>
    if (s.head h).report = .due ∧ s.synced ∧ !s.holdsRequest (.headUnit h) then
      let q := submit (.headUnit h) (.pool (.quarantine r.serial (s.head h).reportReason 1)) s
      match q.2 with
      | .notSent => q.1.mapHead h fun u => { u with reportRetry := some (s.timer s.rollInterval) }
      | .admitted | .held => q.1.mapHead h fun u => { u with report := .outstanding, reportRetry := none }
    else s

/-- A first verdict of CRASH or LOST (R147): the condition, the stop call request, the breakage report. -/
def breakHead (h : Head) (reason : Byte) (s : State) : State :=
  let s := setCondition h .broken s
  let s := submitStopRequest s
  let s := s.mapHead h fun u => { u with report := .due, reportReason := reason, reportRetry := none }
  submitReport h s

/-- A first verdict of MISSING or OVERLONG (R149). -/
def holdHead (h : Head) (reason : HoldReason) (s : State) : State :=
  if (s.condition h).any Condition.working then setCondition h (.hold reason) s else s

/-! ## Verdicts (R145) -/

inductive Verdict where
  | crash
  | lost
  | missing
  | overlong
  deriving DecidableEq, Repr

/-- A verdict given while a cycle is open: the first takes effect, the later ones are counted (R145). -/
def giveVerdict (h : Head) (v : Verdict) (s : State) : State :=
  match (s.head h).cycle with
  | none => s
  | some c =>
    if c.verdictFlag then s.count fun k => { k with verdictsAfterFirst := satInc k.verdictsAfterFirst }
    else
      let s := s.mapCycle h fun x => { x with verdictFlag := true }
      match v with
      | .crash => breakHead h quarantineCrash s
      | .lost => breakHead h quarantineLost s
      | .missing => holdHead h .missing s
      | .overlong => holdHead h .overlong s

/-! ## Records made, replaced and dropped (R130, R131) -/

/-- A new record from a pool entry (R130): dress and parts counts 0, parts left absent, condition by evaluation. -/
def newRecord (fams : List Family) (e : Entry) : HeadRecord :=
  HeadRecord.evaluated fams ⟨e.serial, e.family, e.diameter, 0, 0, none, .serving⟩

/-- The record is made or replaced from the entry: an open cycle is closed without a part (R127), the breakage report
becomes NONE (R148), and the swap unit is handed the new need and claim family (R119). -/
def replaceRecord (h : Head) (e : Entry) (s : State) : State :=
  let s := s.mapHead h fun u =>
    { u with record := some (newRecord s.families e), cycle := none, report := .none, reportRetry := none }
  conditionChanged h s

/-- The record is dropped at the ACK that ends a CONFLICT hold (R131); an open cycle is closed without a part (R150). -/
def dropRecord (h : Head) (s : State) : State :=
  conditionChanged h (s.mapHead h fun u => { u with record := none, cycle := none })

/-! ## The reconciliation DECLARE (R107, R108) -/

/-- The DECLARE is submitted, or waits for the unit's held request or for its next submission (R108). -/
def submitDeclare (h : Head) (f : PoolFrame) (s : State) : State :=
  if s.holdsRequest (.headUnit h) then
    s.mapHead h fun u => { u with declare := some ⟨f, some (s.timer 0)⟩ }
  else
    let q := submit (.headUnit h) (.pool f) s
    match q.2 with
    | .notSent => q.1.mapHead h fun u => { u with declare := some ⟨f, some (s.timer s.rollInterval)⟩ }
    | .admitted | .held => q.1.mapHead h fun u => { u with declare := some ⟨f, none⟩ }

/-- A reconciliation DECLARE that waits for its next submission (R108). -/
def declareRetry (h : Head) (s : State) : State :=
  match (s.head h).declare with
  | some ⟨f, some t⟩ => if t.due s.now ∧ s.synced then submitDeclare h f s else s
  | some ⟨_, none⟩ | none => s

/-- The refused DECLARE of a recorded wheel: HOLD with reason CONFLICT, from every condition but BROKEN (R108, R129). -/
def conflictHold (h : Head) (s : State) : State :=
  match s.condition h with
  | none | some .broken => s
  | some (.hold _) =>
    requestCheckpoint (headId h) (s.mapRecord h fun r => { r with condition := .hold .conflict })
  | some .serving | some .wornSoon | some .lastParts | some .spent => setCondition h (.hold .conflict) s

/-- The outcome of a frame the head unit sent (R108, R148). -/
def headOutcome (h : Head) (f : PoolFrame) (refused : Bool) (s : State) : State :=
  let u := s.head h
  match f with
  | .quarantine serial _ _ =>
    if u.report = .outstanding ∧ (u.record.any fun r => r.serial == serial) then settleReport h s else s
  | .declare _ serial _ _ =>
    if u.declare = some ⟨f, none⟩ then
      let s := s.mapHead h fun x => { x with declare := none }
      let s := if refused ∧ (u.record.any fun r => r.serial == serial) then conflictHold h s else s
      swapFrameEnded h s
    else s
  | _ => s

/-- A frame of the head unit is reported *not sent* (R108, R148). -/
def headNotSent (h : Head) (f : PoolFrame) (s : State) : State :=
  let u := s.head h
  match f with
  | .quarantine serial _ _ =>
    if u.report = .outstanding ∧ (u.record.any fun r => r.serial == serial) then
      s.mapHead h fun x => { x with report := .due, reportRetry := some (s.timer s.rollInterval) }
    else s
  | .declare _ _ _ _ =>
    if u.declare = some ⟨f, none⟩ then
      s.mapHead h fun x => { x with declare := some ⟨f, some (s.timer s.rollInterval)⟩ }
    else s
  | _ => s

/-- A pool resync at a head unit: *outcome lost* (R105, R108, R148). -/
def headResync (h : Head) (s : State) : State :=
  s.mapHead h fun u =>
    { u with declare := none, reportRetry := none,
             report := if u.report = .outstanding then .due else u.report }

/-- The entry is QUARANTINED with a holder naming this station and head (R107, R148). -/
def State.quarantinedHere (s : State) (h : Head) (serial : Serial) : Bool :=
  (findSerial s.pool.table serial).any fun e => e.state == .quarantined && e.heldAt s.station h

/-- The record adopted from the entry MOUNTED at an empty head (R109). The swap unit is handed the new need and claim
family once it has made its own adoption (`reconcileGrinder`). -/
def adoptRecord (h : Head) (e : Entry) (s : State) : State :=
  requestCheckpoint (headId h) (s.mapHead h fun u =>
    { u with record := some (newRecord s.families e), cycle := none, report := .none, reportRetry := none })

/-- Reconciliation of a head's record against the loaded table (R107, R109). -/
def reconcileHead (h : Head) (s : State) : State :=
  match (s.head h).record with
  | some r =>
    if r.condition = .broken then s
    else if (findSerial s.pool.table r.serial).any fun e => e.state == .mounted && e.heldAt s.station h then s
    else if s.quarantinedHere h r.serial then s
    else submitDeclare h (.declare (headByte h) r.serial (familyByte r.family) r.diameter) s
  | none =>
    match s.pool.table.find? fun e => e.state == .mounted && e.heldAt s.station h with
    | some e => adoptRecord h e s
    | none => s

/-- The breakage report at the station's entry into SYNCED (R148). -/
def reportAtSync (h : Head) (s : State) : State :=
  match (s.head h).record with
  | none => s
  | some r =>
    if (s.head h).report = .due then
      if s.quarantinedHere h r.serial then settleReport h s else submitReport h s
    else s

/-- Reconciliation at a grinder (R107 to R109): the records, the reports, the swap units' adoptions, and then the claim
tests (R153). R165 sets the not-needed flag at an adoption whose entry is of another family than the recorded wheel, and
names no case without a recorded wheel. There the family compared is the claim family that the head hands, the head family
(R119), and an entry of another family is released NOT_NEEDED: the model's choice, DEDUCED (notes/assumptions/60.md). -/
def reconcileGrinder (s : State) : State :=
  let s := reconcileHead .h1 (reconcileHead .h0 s)
  let s := reportAtSync .h1 (reportAtSync .h0 s)
  let s := swapAdopt .h1 (swapAdopt .h0 s)
  claimTest .h1 (suitTest .h1 (claimTest .h0 (suitTest .h0 s)))

end Sys2Proof.Machine
end

