-- ==== Sys2Proof/Machine/SwapOutcome.lean ====
section
/-! DEFINITION. What a swap unit does with the notices of its own pool engine (R87, R88): the outcomes of its own frames
(R154, R156, R161, R162, R164, R165) and the changes other frames make to the entry it holds (R157, R162). -/
namespace Sys2Proof.Machine
open State

/-! ## Own-frame outcomes (R87) -/

/-- The unit has sent this frame and waits for its outcome. -/
def SwapUnit.awaits (u : SwapUnit) (f : PoolFrame) : Bool := u.outstanding.any fun o => o.frame = f && o.sent

/-- The held serial is given up and the unit enters IDLE (R165). -/
def dropToIdle (h : Head) (s : State) : State := claimTest h (setSwapState h .idle (dropHeld h s))

/-- The unit's CLAIM applied: AWAIT with the selected wheel (R154). -/
def claimApplied (h : Head) (e : Entry) (stamp : Time) (s : State) : State :=
  suitTest h (s.mapSwap h fun u =>
    { u with state := .await, held := some e.serial, heldFamily := e.family, claimStamp := some stamp,
             lifetime := some ⟨stamp, s.claimLifetime⟩, window := .stopped, notNeeded := false })

/-- The unit's CLAIM refused: BACKOFF for the family it named (R154). -/
def claimRefused (h : Head) (family : Byte) (s : State) : State :=
  if (s.swap h).state = .claiming then enterBackoff h (family.setWidth 4) s else s

/-- The unit's MOUNT applied: the head record is replaced from the resulting entry (R130, R162). -/
def mountApplied (h : Head) (e : Entry) (s : State) : State :=
  let s := setSwapState h .idle (dropHeld h s)
  replaceRecord h e (s.mapSwap h fun u => { u with attempts := 0 })

/-- The unit's tag DECLARE applied: the head record is made, and a backoff is stopped (R130, R164). -/
def declareApplied (h : Head) (e : Entry) (s : State) : State :=
  replaceRecord h e (s.mapSwap h fun u =>
    { u with state := .idle, tagDeclare := false, backoff := none, backoffEnded := false })

/-- The unit's own RELEASE of the wheel it holds applied (R156, R161, R162, R165). -/
def releaseApplied (h : Head) (reason : Byte) (s : State) : State :=
  if (s.swap h).state = .mounting then failMount h s
  else if reason = releaseExpired then giveUpWheel h true s
  else if reason = releaseWindow then giveUpWheel h false s
  else dropToIdle h s

/-- The outcome of a frame the unit has sent, by its kind. -/
def ownOutcome (h : Head) (f : PoolFrame) (stamp : Time) (out : PoolOutcome) (s : State) : State :=
  match f, out with
  | .claim _ _, .applied _ (some e) => claimApplied h e stamp s
  | .claim _ family, .refused _ => claimRefused h family s
  | .mount _ new _ _ _, .applied t _ =>
    match findSerial t new with
    | some e => if (s.swap h).held = some new then mountApplied h e s else s
    | none => s
  | .mount _ new _ _ _, .refused _ => if (s.swap h).held = some new then failMount h s else s
  | .declare _ serial _ _, .applied t _ =>
    match findSerial t serial with
    | some e => declareApplied h e s
    | none => s
  | .declare _ _ _ _, .refused _ => declareEnded h s
  | .release serial reason, .applied _ _ => if (s.swap h).held = some serial then releaseApplied h reason s else s
  | _, _ => s

/-- The own-frame outcome at the swap unit that sent the frame: the frame stops being outstanding, and the unit acts. -/
def swapOutcome (h : Head) (f : PoolFrame) (stamp : Time) (out : PoolOutcome) (s : State) : State :=
  if (s.swap h).awaits f then
    swapFrameEnded h (ownOutcome h f stamp out (s.mapSwap h fun u => { u with outstanding := none }))
  else s

/-! ## Holding notices (R88) -/

/-- The lifetime release is no longer called for (R156): a queued one is withdrawn. One answered *not sent* waits on for
its next submission, as R152 has it in the same state with the serial held. -/
def withdrawExpired (h : Head) (serial : Serial) (s : State) : State :=
  let f := PoolFrame.release serial releaseExpired
  let s := withdrawFrames (fun o p => o == .swapUnit h && p == .pool f) s
  s.mapSwap h fun u =>
    { u with outstanding := u.outstanding.filter fun o => !(o.frame = f && !o.sent)
             wants := u.wants.filter fun w => w != .releaseExpired }

/-- DISPATCH of the held wheel (R156, R157, R162). -/
def heldDispatched (h : Head) (serial : Serial) (s : State) : State :=
  let s := s.mapSwap h fun u => { u with lifetime := none, claimStamp := none }
  swapPump h (withdrawExpired h serial s)

/-- DELIVER of the held wheel (R157, R158, R162). -/
def heldDelivered (h : Head) (s : State) : State :=
  if (s.swap h).state = .await then enterDelivered h s
  else s.mapSwap h fun u => { u with lifetime := none, claimStamp := none }

/-- The held wheel is taken from the head by the cell (R157, R158, R162). -/
def heldTaken (h : Head) (counted : Bool) (s : State) : State :=
  if (s.swap h).state = .mounting then failMount h s else loseWheel h counted s

/-- A holding notice at swap unit `h` for a frame that another block or station sent, changing the entry it holds. A DECLARE
by this very head mounts the wheel there: the unit gives the serial up and enters IDLE (notes/assumptions/48.md). A
QUARANTINE by this station's own head unit takes the wheel as a store's LOST_TRACK does (notes/assumptions/58.md). -/
def holdingNotice (h : Head) (f : PoolFrame) (sender : Station) (role : Role) (s : State) : State :=
  match f with
  | .dispatch serial => if (s.swap h).held = some serial then heldDispatched h serial s else s
  | .deliver serial => if (s.swap h).held = some serial then heldDelivered h s else s
  | .release serial _ => if (s.swap h).held = some serial then heldTaken h false s else s
  | .quarantine serial reason _ =>
    if (s.swap h).held = some serial then heldTaken h (role == .store && reason == quarantineGantryFault) s else s
  | .declare head serial _ _ =>
    if (s.swap h).held = some serial then
      if sender = s.station ∧ headOfByte head = some h then dropToIdle h s else heldTaken h false s
    else s
  | _ => s

/-- Both swap units' part of one applied or refused pool frame: the sender's own outcome, and for an applied frame the
holding notices (one notice where both concern one unit). -/
def swapNotices (h : Head) (f : PoolFrame) (sender : Station) (role : Role) (own : Option Origin) (stamp : Time)
    (out : PoolOutcome) (s : State) : State :=
  if own = some (.swapUnit h) ∧ (s.swap h).awaits f then swapOutcome h f stamp out s
  else
    match out with
    | .applied _ _ => holdingNotice h f sender role s
    | .refused _ => s

end Sys2Proof.Machine
end

