-- ==== Sys2Proof/Machine/Image.lean ====
section
/-! DEFINITION. The image unit (chapter 6): asking, answering, collecting, loading and founding, and the commands
ASK_TIMER_EXPIRE and IMAGE_WATCH_EXPIRE. -/
namespace Sys2Proof.Machine
open State Sys2Proof.Config

/-! ## Submitting -/

/-- A frame of the image unit submitted; while the unit holds a request, the frame waits for its admission
(notes/assumptions/11.md). The flag says that the submission was answered *not sent* at once. -/
def submitImage (p : Payload) (s : State) : State × Bool :=
  if s.holdsRequest .imageUnit then (s.mapImage fun u => { u with deferred := some p }, false)
  else
    let r := submit .imageUnit p s
    (r.1, r.2 == .notSent)

/-- Frames of the image unit that satisfy `p` are withdrawn, and its held request for one dropped (R33). -/
def withdrawImage (p : Payload → Bool) (s : State) : State :=
  (withdrawFrames (fun o q => o == .imageUnit && p q) s).mapImage fun u =>
    { u with deferred := u.deferred.filter fun q => !p q }

def isPart : Payload → Bool
  | .imagePart _ => true
  | _ => false

/-! ## The transfer (R96 to R100) -/

/-- The transfer ends (R97, R99, R100): responder IDLE, buffer released, the queued part withdrawn, no repeat pending. -/
def endTransfer (s : State) : State :=
  withdrawImage isPart (s.mapImage fun u =>
    { u with responder := .idle, buffer := none, repeatPending := false, part0Sent := false })

/-- A new part 0 is submitted, and the responder is QUEUED with this restart count (R96, R98, R99). -/
def startTransfer (restarts : Nat) (s : State) : State :=
  let r := submitImage (.imagePart 0) (s.mapImage fun u =>
    { u with responder := .queued, buffer := none, restarts := restarts, part0Sent := false })
  if r.2 then endTransfer r.1 else r.1

/-- The conditions under which a transfer may begin (R96, R98). -/
def State.mayRespond (s : State) : Bool := s.synced && !s.fe.doubtful && s.image.watch.isNone

/-- An IMAGE_ASK taken from another station (R96). -/
def takeImageAsk (s : State) : State :=
  match s.image.responder with
  | .idle => if s.mayRespond then startTransfer 0 s else s
  | .queued => s
  | .running => s.mapImage fun u => { u with repeatPending := true }

/-- The last part has been reported sent (R98 step 3). -/
def transferDone (s : State) : State :=
  let s' := s.mapImage fun u => { u with buffer := none, repeatPending := false, responder := .idle, part0Sent := false }
  if s.image.repeatPending ∧ s.mayRespond then startTransfer 0 s' else s'

/-- Part `k` has been reported sent (R98 steps 2 and 3). -/
def partSent (k : Nat) (s : State) : State :=
  match s.image.responder, s.image.buffer with
  | .running, some b =>
    let s := s.mapImage fun u => { u with part0Sent := true }
    if k + 1 < partCount b.entries.length then
      let r := submitImage (.imagePart (k + 1)) s
      if r.2 then endTransfer r.1 else r.1
    else transferDone s
  | _, _ => s

/-- A generation notice (R91, R99). -/
def generationNotice (s : State) : State :=
  match s.image.responder with
  | .running =>
    let s := withdrawImage isPart (s.mapImage fun u => { u with buffer := none })
    if s.image.restarts < 3 then startTransfer (s.image.restarts + 1) s else endTransfer s
  | .idle | .queued => s

/-- The buffer is filled as part 0 is about to be offered for its first transmission (R98 step 1). -/
def fillImageBuffer (s : State) : State :=
  match s.image.responder with
  | .queued => s.mapImage fun u =>
    { u with responder := .running
             buffer := some ⟨canonical s.pool.table, s.pool.generation, s.pool.digest⟩ }
  | .idle | .running => s

/-- The doubtful flag is set (R24, R28); a transfer in hand ends (R100). -/
def setDoubtful (s : State) : State :=
  let s := s.mapFe fun f => { f with doubtful := true }
  if s.image.responder = .idle then s else endTransfer s

/-! ## Asking (R94, R95) -/

/-- The length of the ask timer (R94). -/
def State.askLength (s : State) : Nat := (if s.image.askCount < 3 then 3 else 5) * s.rollInterval

def startAskTimer (s : State) : State := s.mapImage fun u => { u with askTimer := some (s.timer s.askLength) }

/-- The ask timer is restarted by a part taken (R95); it stays stopped while an ask waits (R94,
notes/assumptions/27.md). -/
def restartAskTimer (s : State) : State := if s.image.askTimer.isSome then startAskTimer s else s

/-- An ask may be made (R94). -/
def State.mayAsk (s : State) : Bool :=
  !s.peers.familyMismatch && !s.peers.roleClash && !s.synced && !s.image.askingStopped

/-- The image unit makes an ask (R94): the ask timer does not run while the ask waits. A request for an IMAGE_ASK that it
already holds stands for this ask. -/
def ask (s : State) : State :=
  if s.mayAsk then
    let s := s.mapImage fun u => { u with collection := none, partSinceAsk := false, askTimer := none }
    if s.holdsRequest .imageUnit then s.mapPool fun p => { p with sync := .joining }
    else
      let r := submit .imageUnit .imageAsk s
      match r.2 with
      | .notSent => r.1.mapImage fun u => { u with askingStopped := true }
      | .admitted | .held => r.1.mapPool fun p => { p with sync := .joining }
  else s

/-- A frame of the image unit is reported *sent* (R94, R98). An IMAGE_ASK starts the ask timer in every sync state
(notes/assumptions/63.md). -/
def imageSent (p : Payload) (s : State) : State :=
  match p with
  | .imageAsk => startAskTimer s
  | .imagePart k => partSent k s
  | .roll | .pool _ => s

/-- A frame of the image unit is reported *not sent* (R94, R100). An IMAGE_ASK starts the ask timer in every sync state
(notes/assumptions/63.md). -/
def imageNotSent (p : Payload) (s : State) : State :=
  match p with
  | .imageAsk => startAskTimer s
  | .imagePart _ => endTransfer s
  | .roll | .pool _ => s

/-! ## Entry into SYNCED -/

/-- Reconciliation, made once at each entry into SYNCED (6.7). -/
def reconcile (s : State) : State := if s.isStore then reconcileStore s else reconcileGrinder s

/-- The ask state and the collection at an image load or a founding (R95, R102, R104). -/
def ImageUnit.settled (u : ImageUnit) : ImageUnit :=
  { u with askTimer := none, askCount := 0, partSinceAsk := false, collection := none }

/-- The table is loaded, the station enters SYNCED, and reconciliation follows. The digest is that of the table in
canonical order (R66). R102 sets the value computed in the order collected, which is another where part 0 does not rise by
serial: the model's choice, DEDUCED (notes/assumptions/59.md). -/
def enterSynced (table : Table) (generation : Word16) (s : State) : State :=
  reconcile ((s.mapImage ImageUnit.settled).mapPool fun p =>
    { p with table := table, generation := generation, digest := tableDigest table, sync := .synced })

/-- Entries put at positions 0 upward in the order given (R102). -/
def placeFrom : Nat → List Entry → Table
  | _, [] => []
  | n, e :: es => { e with pos := n } :: placeFrom (n + 1) es

/-- A completed collection (R102): its digest is compared, and the image is loaded or asked for again. -/
def completeCollection (c : Collection) (digest : Word16) (s : State) : State :=
  if crc16 (c.entries.flatMap Entry.bytes) = digest then
    enterSynced (placeFrom 0 (canonical c.entries)) c.generation s
  else ask (s.mapImage fun u => { u with collection := none })

/-! ## Collecting (R101) -/

/-- A part taken into the collection (R95, R101). -/
def keepCollection (c : Collection) (digest : Option Word16) (s : State) : State :=
  let s := (s.mapImage fun u => { u with collection := some c, partSinceAsk := true })
  let s := restartAskTimer s
  match digest with
  | some d => completeCollection c d s
  | none => s

/-- A later part fits the collection (R101). -/
def Collection.fits (c : Collection) (p : ImagePartHead) (es : List Entry) : Bool :=
  p.generation == c.generation && p.count == c.partCount && p.entryCount == c.entryCount && p.index == c.nextIndex
    && risingSerials ((c.entries.getLast?.map fun e => e.serial.toNat).getD 0) es

/-- An IMAGE_PART at a JOINING station, by the first row that applies (R101). -/
def collect (sender : Station) (p : ImagePartHead) (s : State) : State :=
  let discard (s : State) : State := s.mapImage fun u => { u with collection := none }
  if p.index = 0 then
    match wellFormedPart p with
    | some (es, d) => keepCollection ⟨sender, p.generation, p.count, p.entryCount, 1, es⟩ d s
    | none => discard s
  else
    match s.image.collection with
    | none => s
    | some c =>
      if c.responder ≠ sender then s
      else
        match wellFormedPart p with
        | some (es, d) =>
          if c.fits p es then
            keepCollection { c with nextIndex := c.nextIndex + 1, entries := c.entries ++ es } d s
          else discard s
        | none => discard s

/-! ## The watch and suppression (R97) -/

def setWatch (station : Station) (generation : Word16) (s : State) : State :=
  s.mapImage fun u => { u with watch := some ⟨station, generation, s.timer (3 * s.rollInterval)⟩ }

/-- A part 0 of another station (R97). -/
def takePart0 (sender : Station) (p : ImagePartHead) (s : State) : State :=
  match s.image.responder with
  | .running =>
    if s.image.part0Sent then s else setWatch sender p.generation (endTransfer s)
  | .queued => setWatch sender p.generation (endTransfer s)
  | .idle => setWatch sender p.generation s

/-- A later part restarts the watch on its sender, and the last part ends it (R97). -/
def watchPart (sender : Station) (p : ImagePartHead) (s : State) : State :=
  match s.image.watch with
  | some w =>
    if w.station ≠ sender then s
    else if p.index + 1 = p.count then s.mapImage fun u => { u with watch := none }
    else if p.index = 0 then s
    else s.mapImage fun u => { u with watch := some { w with timer := s.timer (3 * s.rollInterval) } }
  | none => s

/-- An IMAGE_PART taken from another station (R97, R101). -/
def takeImagePart (sender : Station) (data : List Byte) (s : State) : State :=
  match imagePartHead data with
  | some p =>
    let s := watchPart sender p (if p.index = 0 then takePart0 sender p s else s)
    if s.pool.sync = .joining then collect sender p s else s
  | none => s

/-! ## Founding (R103, R104) -/

/-- A store-role peer is LIVE (R55). -/
def State.storePeerLive (s : State) : Bool := s.peers.records.any fun r => r.role == .store && !r.silent

/-- The founding conditions (R103). -/
def State.mayFound (s : State) : Bool :=
  s.isStore && s.image.askCount == 3 && s.pool.sync == .joining && s.image.collection.isNone && !s.peers.roleClash
    && !s.storePeerLive

/-- The page that holds the current copy of a logical id (R184). -/
def LifeStore.currentPage (l : LifeStore) (id : Nat) : Option Nat :=
  (l.map.find? fun m => m.1 == id).map Prod.snd

/-- The stored entries of one store image page body, from a position on. -/
def storedEntries : Nat → Nat → List Byte → List Entry
  | _, 0, _ => []
  | pos, n + 1, d =>
    let rest := storedEntries (pos + 1) n (d.drop 10)
    match decodeEntry pos (d.take 10) with
    | some e => if pos < poolCapacity then e :: rest else rest
    | none => rest

/-- The stored entries of the current store image pages, in ascending position (R104). -/
def LifeStore.storedTable (l : LifeStore) : List Entry :=
  [16, 17, 18, 19, 20, 21].flatMap fun id =>
    match l.currentPage id with
    | some p => storedEntries (11 * (id - 16)) 11 (pageBody id (Memory.readPage l.pages p))
    | none => []

/-- A stored entry as it is founded (R104, first table). -/
def convertStored (e : Entry) : Entry :=
  match e.state with
  | .claimed => e.toFree e.slot
  | .transit => e.toQuarantined false
  | .free | .delivered | .mounted | .returning | .quarantined => e

/-- An admitted entry has this state and holder. -/
def admittedAs (t : List Entry) (st : PoolState) (e : Entry) : Bool :=
  t.any fun a => a.state == st && a.holder.any fun x => e.heldAt x.station x.head

/-- A converted entry as it is admitted (R104, second table). -/
def admitStored (t : List Entry) (e : Entry) : List Entry :=
  if t.any fun a => a.serial == e.serial then t
  else if e.slot.any (slotNamed t) then t
  else if (e.state = .mounted ∧ admittedAs t .mounted e) ∨ (e.state = .delivered ∧ admittedAs t .delivered e) then
    t ++ [e.toQuarantined false]
  else t ++ [e]

/-- The table that founding builds (R104). -/
def foundedTable (stored : List Entry) : Table := (stored.map convertStored).foldl admitStored []

def found (s : State) : State := enterSynced (foundedTable s.life.storedTable) 1 s

/-- The ask timer expires at a JOINING station (R95). -/
def askExpired (s : State) : State :=
  let s := s.mapImage fun u =>
    { u with askCount := if u.partSinceAsk then u.askCount else min 3 (u.askCount + 1) }
  if s.mayFound then found s else ask s

/-- The ask timer expires: the start-up timer makes the first ask, later ones act by R95 (R94, R95). The start-up timer
raises no ask count (notes/assumptions/30.md), nor does a timer that ends at a SYNCED station, where an IMAGE_ASK queued at
the load has started it and no ask may be made: the model's choice, DEDUCED (notes/assumptions/63.md). -/
def askTimerExpire (s : State) : State :=
  match s.image.askTimer with
  | some t =>
    if t.due s.now then
      let s := s.mapImage fun u => { u with askTimer := none }
      if s.pool.sync = .joining then askExpired s else ask s
    else s
  | none => s

def imageWatchExpire (s : State) : State :=
  match s.image.watch with
  | some w => if w.timer.due s.now then s.mapImage fun u => { u with watch := none } else s
  | none => s

/-! ## Pool resync (R105) -/

/-- A pool resync at the image unit (R105). -/
def imageResync (s : State) : State :=
  withdrawImage (fun _ => true) ((endTransfer s).mapImage fun u => { u.settled with watch := none })

/-- ASK_TIMER_EXPIRE (R95). -/
def execAskTimerExpire (s : State) : Host.Outcome State Fault Refusal :=
  .next (if s.isLive then askTimerExpire s else s)

/-- IMAGE_WATCH_EXPIRE (R97). -/
def execImageWatchExpire (s : State) : Host.Outcome State Fault Refusal :=
  .next (if s.isLive then imageWatchExpire s else s)

end Sys2Proof.Machine
end

