-- ==== Sys2Proof/Machine/Consumers.lean ====
section
/-! DEFINITION. The consumers of the receive queue (R34): the peer table (chapter 4), the pool engine (chapter 5) and the
image unit, their meeting points, the pool resync (R105), and the commands that take one item. -/
namespace Sys2Proof.Machine
open State Sys2Proof.Config

/-! ## Pool resync (R105, R106) -/

/-- Both swap units of a live grinder. -/
def bothSwaps (f : Head → State → State) (s : State) : State := if s.headsLive then f .h1 (f .h0 s) else s

/-- A pool resync, whatever its cause (R105). -/
def poolResync (s : State) : State :=
  let s := s.mapPool fun p => { p with table := [], generation := 0, digest := 0xFFFF, sync := .unsynced }
  let s := purgePool (s.mapFe fun f => { f with doubtful := false })
  let s := imageResync (s.mapPeers fun p => { p with disagreement := none })
  let s := bothSwaps headResync (bothSwaps swapResync s)
  if s.storeLive then storeResync s else s

/-- The doubtful flag is cleared: the pool frames are eligible again, and the claim conditions are tested (R31, R153). -/
def clearDoubtful (s : State) : State :=
  if s.fe.doubtful then bothSwaps claimTest (s.mapFe fun f => { f with doubtful := false }) else s

/-! ## DEAF ends (R37) -/

/-- DEAF ends, and the image unit is told to ask (R37). -/
def endDeaf (s : State) : State := ask (s.mapFe fun f => { f with deaf := false, vetoRun := 0 })

/-- A departure that leaves the receive queue empty ends DEAF (R37). -/
def deafTest (s : State) : State := if s.fe.deaf ∧ s.fe.rxQueue = [] then endDeaf s else s

/-- The item has been taken by all of its consumers. -/
def RxItem.taken (i : RxItem) : Bool := !i.forPeers && !i.forPool && !i.forImage

/-- Items taken by all of their consumers leave at the head (R34), and a departure can end DEAF (R37). -/
def depart (s : State) : State :=
  let rest := s.fe.rxQueue.dropWhile RxItem.taken
  if rest.length = s.fe.rxQueue.length then s else deafTest (s.mapFe fun f => { f with rxQueue := rest })

/-! ## Peer records (R51 to R55) -/

def State.peer (s : State) (st : Station) : Option PeerRecord := s.peers.records.find? fun r => r.station == st

def changePeer (st : Station) (f : PeerRecord → PeerRecord) (s : State) : State :=
  s.mapPeers fun p => { p with records := p.records.map fun r => if r.station = st then f r else r }

/-- The roll values of a ROLL (R51, Formats 13.2). -/
def rollValues (i : RxItem) : Option RollValues :=
  match i.data with
  | [flags, g1, g2, d1, d2, f1, f2, c0, c1] =>
    some ⟨i.synced, i.doubtful, of16 g1 g2, of16 d1 d2, of16 f1 f2, c0, c1, flags.getLsbD 0⟩
  | _ => none

/-- A record is deleted, with its place in the silent order and a disagreement record for its station (R52). -/
def deletePeer (st : Station) (s : State) : State :=
  s.mapPeers fun p =>
    { p with records := p.records.filter fun r => r.station != st
             silentOrder := p.silentOrder.filter fun x => x != st
             disagreement := p.disagreement.filter fun d => d.station != st }

/-- A new LIVE record without roll values (R52). -/
def addPeer (pos : Nat) (i : RxItem) (s : State) : State :=
  s.mapPeers fun p =>
    { p with records := insertBy PeerRecord.pos ⟨pos, i.sender, i.role, i.stamp, false, none⟩ p.records }

/-- The first of the LIVE grinder-role records with the oldest last-heard stamp (R52). -/
def oldestGrinder (now : Time) : List PeerRecord → Option PeerRecord
  | [] => none
  | r :: rs =>
    let best := oldestGrinder now rs
    if r.silent ∨ r.role = .store then best
    else
      match best with
      | some b => if elapsed r.lastHeard now < elapsed b.lastHeard now then some b else some r
      | none => some r

/-- A sender without a record is learned by the first row that applies (R52). -/
def learnPeer (i : RxItem) (s : State) : State :=
  match lowestFree (s.peers.records.map PeerRecord.pos) peerCapacity with
  | some pos => addPeer pos i s
  | none =>
    match s.peers.silentOrder.head?.bind s.peer with
    | some r => livenessNotice (addPeer r.pos i (deletePeer r.station s))
    | none =>
      match if i.role = .store then oldestGrinder s.now s.peers.records else none with
      | some r => addPeer r.pos i (deletePeer r.station s)
      | none => s.count fun c => { c with unlearned := satInc c.unlearned }

/-- A record is refreshed by an item of its station (R53). -/
def refreshPeer (r : PeerRecord) (i : RxItem) (s : State) : State :=
  let s := changePeer i.sender (fun x => { x with lastHeard := i.stamp, role := i.role, silent := false }) s
  if r.silent then
    livenessNotice
      (s.mapPeers fun p => { p with silentOrder := p.silentOrder.filter fun x => x != i.sender })
  else s

/-! ## Comparing rolls (R56 to R59) -/

/-- The station is divergent (R57, R106). -/
def divergent (s : State) : State := ask (poolResync s)

/-- A disagreement with a ROLL (R57). -/
def disagreement (i : RxItem) (s : State) : State :=
  if !s.isStore ∧ i.role = .store then divergent s
  else if (s.peer i.sender).any fun r => !r.silent then
    let record (s : State) : State := s.mapPeers fun p => { p with disagreement := some ⟨i.sender, i.stamp⟩ }
    match s.peers.disagreement with
    | none => record s
    | some d => if d.station = i.sender then record s else divergent s
  else s

/-- A matching ROLL (R56). -/
def rollMatch (i : RxItem) (s : State) : State :=
  clearDoubtful (s.mapPeers fun p => { p with disagreement := p.disagreement.filter fun d => d.station != i.sender })

/-- The ROLL is compared (R56). -/
def compareRoll (i : RxItem) (v : RollValues) (s : State) : State :=
  if s.synced ∧ i.synced ∧ !i.doubtful ∧ !(s.isStore ∧ i.role = .store) then
    if v.generation = s.pool.generation ∧ v.digest = s.pool.digest then rollMatch i s else disagreement i s
  else s

/-- The family digest of a ROLL is checked (R58). -/
def checkFamily (i : RxItem) (v : RollValues) (s : State) : State :=
  if v.familyDigest = s.familyDigest then s
  else
    match i.role with
    | .grinder => s.count fun c => { c with familyDiff := satInc c.familyDiff }
    | .store =>
      if s.isStore ∨ s.peers.familyMismatch then s
      else poolResync (s.mapPeers fun p => { p with familyMismatch := true })

/-- The role of a ROLL's sender is checked (R59). -/
def checkRole (i : RxItem) (s : State) : State :=
  if s.isStore ∧ i.role = .store ∧ !s.peers.roleClash ∧ i.sender.toNat < s.station.toNat then
    poolResync (s.mapPeers fun p => { p with roleClash := true })
  else s

/-- The checks of a ROLL, in their order (R53). -/
def takeRoll (i : RxItem) (s : State) : State :=
  match rollValues i with
  | some v =>
    let s := changePeer i.sender (fun r => { r with roll := some v }) s
    checkRole i (compareRoll i v (checkFamily i v s))
  | none => s

/-- The peer table takes an item (R52, R53). -/
def peerTake (i : RxItem) (s : State) : State :=
  if i.own.isSome then s
  else
    let s := match s.peer i.sender with
      | some r => refreshPeer r i s
      | none => learnPeer i s
    if i.kind = .roll then takeRoll i s else s

/-! ## The pool engine (R68, R86 to R91) -/

/-- The own refused frame in the last-refusal record of its unit (R71). -/
def keepRefusal (own : Option Origin) (r : LastRefusal) (s : State) : State :=
  match own with
  | some (.headUnit h) | some (.swapUnit h) =>
    s.mapPool fun p => { p with headRefusal := p.headRefusal.set h (some r) }
  | some .storeUnit => s.mapPool fun p => { p with storeRefusal := some r }
  | some .peerTable | some .imageUnit | none => s

/-- The outcome's own effect on the pool engine (R65, R66, R68, R71). -/
def applyOutcome (i : RxItem) (f : PoolFrame) (out : PoolOutcome) (s : State) : State :=
  match out with
  | .applied t _ =>
    s.mapPool fun p => { p with table := t, generation := p.generation + 1, digest := tableDigest t }
  | .refused r =>
    keepRefusal i.own ⟨i.kind, f.named, r, i.stamp⟩ (s.count fun c => { c with refusals := satInc c.refusals })

def PoolOutcome.isRefused : PoolOutcome → Bool
  | .refused _ => true
  | .applied _ _ => false

/-- The family notice of an applied ENTER or RACK (R89). -/
def familyNotices (f : PoolFrame) (t : Table) (s : State) : State :=
  match f with
  | .enter serial .. | .rack serial _ =>
    match findSerial t serial with
    | some e => bothSwaps (familyNotice e.family) s
    | none => s
  | _ => s

/-- The notices to one head's units (R87, R88). -/
def headNotices (i : RxItem) (f : PoolFrame) (out : PoolOutcome) (h : Head) (s : State) : State :=
  let s := if i.own = some (.headUnit h) then headOutcome h f out.isRefused s else s
  swapNotices h f i.sender i.role i.own i.stamp out s

/-- The notices of one application (R86). -/
def poolNotices (i : RxItem) (f : PoolFrame) (before : Table) (out : PoolOutcome) (s : State) : State :=
  let s := bothSwaps (headNotices i f out) s
  let s := if s.storeLive then storeNotice f before (i.own == some .storeUnit) i.stamp out s else s
  match out with
  | .applied t _ => generationNotice (familyNotices f t s)
  | .refused _ => s

/-- The pool engine takes an item: one application in SYNCED, and ignored otherwise (R68). -/
def poolTake (i : RxItem) (s : State) : State :=
  match parsePool i.kind i.data with
  | some f =>
    if s.synced then
      let out := applyFrame s.families s.pool.table i.sender i.role f
      poolNotices i f s.pool.table out (applyOutcome i f out s)
    else s
  | none => s

/-- The image unit takes an item (R93, R96, R97, R101). -/
def imageTake (i : RxItem) (s : State) : State :=
  if i.own.isSome then s
  else
    match i.kind with
    | .imageAsk => takeImageAsk s
    | .imagePart => takeImagePart i.sender i.data s
    | _ => s

/-! ## Taking one item (R34, R53, R93) -/

/-- The first item that satisfies `p`, with the items ahead of it and behind it. -/
def splitNext (p : RxItem → Bool) : List RxItem → Option (List RxItem × RxItem × List RxItem)
  | [] => none
  | i :: is =>
    if p i then some ([], i, is)
    else (splitNext p is).map fun r => (i :: r.1, r.2)

/-- A ROLL that the peer table has still to take stands among these items: a meeting point (R53). -/
def rollAhead (ahead : List RxItem) : Bool := ahead.any fun i => i.kind == .roll && i.forPeers

/-- The peer table may take the item (R53). -/
def peersMayTake (ahead : List RxItem) (i : RxItem) : Bool :=
  i.kind != .roll || ahead.all fun j => !j.forPool && !j.forImage

/-- The pool engine may take an item behind these (R53, R93). -/
def poolMayTake (joining : Bool) (ahead : List RxItem) : Bool :=
  !rollAhead ahead && !(joining && ahead.any fun j => j.kind == .imagePart && j.forImage)

/-- The image unit may take the item (R53, R93). -/
def imageMayTake (joining : Bool) (ahead : List RxItem) (i : RxItem) : Bool :=
  !rollAhead ahead && !(joining && i.kind == .imagePart && ahead.any fun j => j.forPool)

def State.joining (s : State) : Bool := s.pool.sync == .joining

def setRxQueue (q : List RxItem) (s : State) : State := s.mapFe fun f => { f with rxQueue := q }

/-- The peer table takes its next item, if it is of an admitted kind and its meeting points allow it. -/
def peersTakeNext (admitted : Kind → Bool) (s : State) : State :=
  match splitNext (·.forPeers) s.fe.rxQueue with
  | some (ahead, i, behind) =>
    if admitted i.kind ∧ peersMayTake ahead i then
      depart (peerTake i (setRxQueue (ahead ++ { i with forPeers := false } :: behind) s))
    else s
  | none => s

/-- The pool engine takes its next item, if it is of an admitted kind and its meeting points allow it. -/
def poolTakeNext (admitted : Kind → Bool) (s : State) : State :=
  match splitNext (·.forPool) s.fe.rxQueue with
  | some (ahead, i, behind) =>
    if admitted i.kind ∧ poolMayTake s.joining ahead then
      depart (poolTake i (setRxQueue (ahead ++ { i with forPool := false } :: behind) s))
    else s
  | none => s

/-- The image unit takes its next item, if it is of an admitted kind and its meeting points allow it. -/
def imageTakeNext (admitted : Kind → Bool) (s : State) : State :=
  match splitNext (·.forImage) s.fe.rxQueue with
  | some (ahead, i, behind) =>
    if admitted i.kind ∧ imageMayTake s.joining ahead i then
      depart (imageTake i (setRxQueue (ahead ++ { i with forImage := false } :: behind) s))
    else s
  | none => s

/-- The item at the head is taken by the next of its consumers. -/
def drainHead (i : RxItem) (s : State) : State :=
  if i.forPeers then peersTakeNext (fun _ => true) s
  else if i.forPool then poolTakeNext (fun _ => true) s
  else imageTakeNext (fun _ => true) s

def drainFrom : Nat → State → State
  | 0, s => s
  | n + 1, s =>
    match s.fe.rxQueue with
    | [] => s
    | i :: _ => drainFrom n (drainHead i s)

/-- The consumers take every item that is waiting, in queue order (R50): at most two takings for each of 4 items. -/
def drain (s : State) : State := drainFrom 8 s

/-! ## Peer timers (R54, R57) -/

/-- Four roll intervals (R54, R57). -/
def State.silenceLength (s : State) : Nat := 4 * s.rollInterval

/-- A LIVE record's silence timer expires (R54). -/
def peerSilenceTimeout (st : Station) (s : State) : State :=
  match s.peer st with
  | some r =>
    if !r.silent ∧ s.silenceLength ≤ elapsed r.lastHeard s.now then
      let s := changePeer st (fun x => { x with silent := true }) s
      livenessNotice (s.mapPeers fun p =>
        { p with silentOrder := p.silentOrder ++ [st]
                 disagreement := p.disagreement.filter fun d => d.station != st })
    else s
  | none => s

/-- The disagreement record is forgotten (R57). -/
def disagreementExpire (s : State) : State :=
  match s.peers.disagreement with
  | some d =>
    if s.silenceLength ≤ elapsed d.stamp s.now then s.mapPeers fun p => { p with disagreement := none } else s
  | none => s

/-! ## The commands -/

/-- ROLL (R53): the peer table takes a ROLL. -/
def execRoll (s : State) : Host.Outcome State Fault Refusal :=
  .next (if s.isLive then peersTakeNext (· == .roll) s else s)

/-- PEER_ITEM (R52): the peer table takes an item other than a ROLL. -/
def execPeerItem (s : State) : Host.Outcome State Fault Refusal :=
  .next (if s.isLive then peersTakeNext (· != .roll) s else s)

/-- The pool engine takes an item of one kind. -/
def poolCommand (k : Kind) (s : State) : State := if s.isLive then poolTakeNext (· == k) s else s

/-- ENTER (R72). -/
def execEnter (s : State) : Host.Outcome State Fault Refusal := .next (poolCommand .enter s)
/-- CLAIM (R74). -/
def execClaim (s : State) : Host.Outcome State Fault Refusal := .next (poolCommand .claim s)
/-- DISPATCH (R76). -/
def execDispatch (s : State) : Host.Outcome State Fault Refusal := .next (poolCommand .dispatch s)
/-- DELIVER (R77). -/
def execDeliver (s : State) : Host.Outcome State Fault Refusal := .next (poolCommand .deliver s)
/-- MOUNT (R79). -/
def execMount (s : State) : Host.Outcome State Fault Refusal := .next (poolCommand .mount s)
/-- DECLARE (R81). -/
def execDeclare (s : State) : Host.Outcome State Fault Refusal := .next (poolCommand .declare s)
/-- RELEASE (R82). -/
def execRelease (s : State) : Host.Outcome State Fault Refusal := .next (poolCommand .release s)
/-- QUARANTINE (R83). -/
def execQuarantine (s : State) : Host.Outcome State Fault Refusal := .next (poolCommand .quarantine s)
/-- RACK (R84). -/
def execRack (s : State) : Host.Outcome State Fault Refusal := .next (poolCommand .rack s)
/-- REMOVE (R85). -/
def execRemove (s : State) : Host.Outcome State Fault Refusal := .next (poolCommand .remove s)

/-- IMAGE_ASK (R96). -/
def execImageAsk (s : State) : Host.Outcome State Fault Refusal :=
  .next (if s.isLive then imageTakeNext (· == .imageAsk) s else s)

/-- IMAGE_PART (R101). -/
def execImagePart (s : State) : Host.Outcome State Fault Refusal :=
  .next (if s.isLive then imageTakeNext (· == .imagePart) s else s)

/-- PEER_SILENCE_TIMEOUT (R54). -/
def execPeerSilenceTimeout (st : Station) (s : State) : Host.Outcome State Fault Refusal :=
  .next (if s.isLive then peerSilenceTimeout st s else s)

/-- DISAGREEMENT_RECORD_EXPIRE (R57). -/
def execDisagreementRecordExpire (s : State) : Host.Outcome State Fault Refusal :=
  .next (if s.isLive then disagreementExpire s else s)

end Sys2Proof.Machine
end

