-- ==== Sys2Proof/Machine/Tag.lean ====
section
/-! DEFINITION. The tag port (R200): its holding byte, the record under assembly, and the commands TAG_BYTE and
TAG_GAP_TIMEOUT. -/
namespace Sys2Proof.Machine
open State

/-- The gap between two bytes of a record, in microseconds (R200). -/
def tagGap : Nat := 10000

def setAssembly (a : TagAssembly) (s : State) : State := s.mapTag fun t => { t with assembly := a }

/-- The record under assembly is discarded (R200). -/
def tagError (s : State) : State := s.count fun c => { c with tagErrors := satInc c.tagErrors }

def discardRecord (s : State) : State := tagError (setAssembly .idle s)

/-- The exclusive-or of a list of bytes. -/
def xorBytes (bytes : List Byte) : Byte := bytes.foldl (fun x b => x ^^^ b) 0

/-- Tag record kinds (Formats 13.4). -/
def tagLoad : Byte := 1
def tagWithdraw : Byte := 2
def tagHeadRead : Byte := 3

/-- A completed record of twelve bytes (R200): a wrong check discards it, an undefined kind ignores it, and any other
waits for its consumer. -/
def completeRecord (bytes : List Byte) (s : State) : State :=
  match bytes with
  | [_, kind, a, b, c, d, family, x, y, z, place, check] =>
    if check ≠ xorBytes [kind, a, b, c, d, family, x, y, z, place] then discardRecord s
    else if kind = tagLoad ∨ kind = tagWithdraw ∨ kind = tagHeadRead then
      setAssembly (.waiting ⟨kind, of32 a b c d, family, of24 x y z, place⟩) s
    else (setAssembly .idle s).count fun k => { k with tagsIgnored := satInc k.tagsIgnored }
  | _ => discardRecord s

/-- The assembly takes a byte, with its framing error (R200). -/
def assemblyTake (b : Byte) (framingError : Bool) (s : State) : State :=
  match s.tag.assembly with
  | .idle =>
    if b = 0x7E#8 ∧ !framingError then setAssembly (.assembling [b] (s.timer tagGap)) s else s
  | .assembling bytes _ =>
    if framingError then discardRecord s
    else if bytes.length + 1 < 12 then setAssembly (.assembling (bytes ++ [b]) (s.timer tagGap)) s
    else completeRecord (bytes ++ [b]) s
  | .waiting _ => s

/-- The assembly takes the byte that stands in the holding byte (R200). -/
def takeHolding (s : State) : State :=
  match s.tag.holding with
  | some (b, framingError) => assemblyTake b framingError (s.mapTag fun t => { t with holding := none })
  | none => s

/-- A byte that has completed leaves the shift register (R200). -/
def byteCompleted (b : Byte) (framingError : Bool) (s : State) : State :=
  match s.tag.assembly, s.tag.holding with
  | .waiting _, none => s.mapTag fun t => { t with holding := some (b, framingError) }
  | .waiting _, some _ => tagError s
  | .assembling _ _, some _ => takeHolding (discardRecord s)
  | .idle, some _ => takeHolding s
  | _, none => assemblyTake b framingError s

/-- The byte that stands whole in the shift register goes on, and the register is empty (R200). -/
def takeShift (s : State) : State :=
  match s.tag.shift with
  | some (b, framingError) => byteCompleted b framingError (s.mapTag fun t => { t with shift := none })
  | none => s

/-- The stop bit of a byte has been sampled: the shift register holds the byte, and hands it on (R200). Its bits come with
the command (notes/assumptions/7.md). -/
def tagByte (b : Byte) (framingError : Bool) (s : State) : State :=
  takeShift (s.mapTag fun t => { t with shift := some (b, framingError) })

/-- The record that waits for its consumer. -/
def State.waitingRecord (s : State) : Option TagRecord :=
  match s.tag.assembly with
  | .waiting r => some r
  | .idle | .assembling _ _ => none

/-- The consumer has taken the waiting record: the assembly is idle, and takes the holding byte (R200). -/
def releaseRecord (s : State) : State := takeHolding (setAssembly .idle s)

/-- The gap timer has passed 10 ms (R200). -/
def tagGapTimeout (s : State) : State :=
  match s.tag.assembly with
  | .assembling _ gap => if gap.due s.now then discardRecord s else s
  | .idle | .waiting _ => s

/-- TAG_BYTE (R200). -/
def execTagByte (b : Byte) (framingError : Bool) (s : State) : Host.Outcome State Fault Refusal :=
  .next (if s.isLive then tagByte b framingError s else s)

/-- TAG_GAP_TIMEOUT (R200). -/
def execTagGapTimeout (s : State) : Host.Outcome State Fault Refusal :=
  .next (if s.isLive then tagGapTimeout s else s)

end Sys2Proof.Machine
end

