-- ==== Sys2Proof/Machine/Gantry.lean ====
section
/-! DEFINITION. The commands of the store unit (chapter 10): rack tags, job starts, the gantry's edges, the claim watch
and frame retries. -/
namespace Sys2Proof.Machine
open State Sys2Proof.Config

/-! ## Rack tags (R169) -/

def countIgnored (s : State) : State := s.count fun c => { c with tagsIgnored := satInc c.tagsIgnored }

/-- A tag-driven request: one that is not made is counted (R168). -/
def tagRequest (f : PoolFrame) (s : State) : State := if s.store.canAdd f then addRequest f s else countIgnored s

/-- A rack tag record (R169). -/
def takeRackTag (r : TagRecord) (s : State) : State :=
  let slot : BitVec 6 := r.place.setWidth 6
  if !s.synced ∨ slotCount ≤ r.place.toNat then countIgnored s
  else if r.kind = tagLoad then
    if (findSerial s.pool.table r.serial).isSome ∨ slotNamed s.pool.table slot ∨ s.store.reservation = some slot then
      countIgnored s
    else
      tagRequest (.enter r.serial r.family (tagDiameter s.families r.family r.diameter) r.place) s
  else if r.kind = tagWithdraw then
    if (findSerial s.pool.table r.serial).any fun e => e.state == .free && e.slot == some slot then
      tagRequest (.remove r.serial removeWithdrawn) s
    else countIgnored s
  else countIgnored s

def storeTagRecord (s : State) : State :=
  match s.waitingRecord with
  | some r => takeRackTag r (releaseRecord s)
  | none => s

/-! ## Job start (R172, R173) -/

/-- The conditions of a start test, apart from a job that may start (R172). -/
def State.mayStart (s : State) : Bool :=
  s.store.job.isNone && s.levels.gantryReady && !s.store.faultLatch && s.synced && !s.lineFault

/-- The destination a RETURN takes when it starts, with its reservation; none while it waits (R173). -/
def returnDestination (t : Table) (serial : Serial) : Option (Place × Option (BitVec 6)) :=
  match findSerial t serial with
  | some e =>
    if e.state = .quarantined then some (.inspection, none)
    else if e.spent then some (.chute, none)
    else (freeSlot t).map fun n => (.slot n, some n)
  | none => none

/-- The job may start (R172): a RETURN to a slot finds a free one. -/
def Job.canStart (t : Table) (j : Job) : Bool :=
  match j.kind with
  | .fetch => true
  | .ret => (returnDestination t j.serial).isSome

/-- The job that starts: the head, or the first FETCH behind a head that waits (R172). -/
def pickJob (t : Table) : List Job → Option Job
  | [] => none
  | j :: js => if j.canStart t then some j else js.find? fun k => k.kind == .fetch

def fetchSilent (s : State) (j : Job) : Bool :=
  match j.dest with
  | some (.change st _) => s.isSilent st
  | _ => false

/-- The job leaves the queue. -/
def unqueue (j : Job) (s : State) : State :=
  s.mapStore fun u => { u with queue := u.queue.filter fun q => q.serial != j.serial }

/-- A RETURN starts: in progress in ARMED at once (R173). -/
def startReturn (j : Job) (s : State) : State :=
  match returnDestination s.pool.table j.serial with
  | some (dest, slot) =>
    strobeTest (rescan ((unqueue j s).mapStore fun u =>
      { u with job := some ⟨{ j with dest := some dest }, .armed⟩, reservation := slot }))
  | none => s

/-- A FETCH starts: in progress in STARTING, with its DISPATCH the job frame (R172). -/
def startFetch (j : Job) (s : State) : State :=
  setJobFrame (.dispatch j.serial)
    (rescan ((unqueue j s).mapStore fun u => { u with job := some ⟨j, .starting⟩ }))

/-- A FETCH for a SILENT destination is dropped (R172). -/
def dropSilent (j : Job) (s : State) : State :=
  rescan (addRequest (.release j.serial releaseDestSilent) (unqueue j s))

/-- The start test, made again after each dropped FETCH (R172): the queue holds at most 16 of them. -/
def startTest : Nat → State → State
  | 0, s => s
  | n + 1, s =>
    if s.mayStart then
      match pickJob s.pool.table s.store.queue with
      | some j =>
        match j.kind with
        | .ret => startReturn j s
        | .fetch => if fetchSilent s j then startTest n (dropSilent j s) else startFetch j s
      | none => s
    else s

/-! ## The gantry's lines (R174 to R177) -/

/-- The GANTRY_READY level is taken, and an ARMED job's strobe is given by it (R174). -/
def takeReady (ready : Bool) (s : State) : State := strobeTest (s.setReady ready)

def jobStart (ready : Bool) (s : State) : State := startTest 17 (takeReady ready s)

/-- The strobe pulse ends (R174). -/
def jobStrobeEnd (ready : Bool) (s : State) : State :=
  match s.store.strobe with
  | some t =>
    if t.due s.now then takeReady ready (s.mapStore fun u => { u with strobe := none }) else s
  | none => s

/-- GANTRY_READY rises: the fault latch is cleared (R177), and an ARMED job's strobe is given (R174). -/
def gantryReadyRise (s : State) : State := takeReady true (s.mapStore fun u => { u with faultLatch := false })

/-- A move has ended, by its completion or by a fault: its frame, or what is held of it while the station is not SYNCED
(R175, R177, R180). -/
def endMove (f : PoolFrame) (held : HeldCompletion) (s : State) : State :=
  let s := setPhase .closing s
  if s.synced then setJobFrame f s else s.mapStore fun u => { u with heldCompletion := some held }

/-- GANTRY_DONE rises (R175). -/
def gantryDone (ready : Bool) (s : State) : State :=
  let s' := takeReady ready { s with levels := { s.levels with gantryDone := true } }
  match s.store.movingJob with
  | some j => endMove (completionFrame j) .done s'
  | none => s'

/-- GANTRY_FAULT rises (R177). -/
def gantryFault (ready : Bool) (s : State) : State :=
  let s' := { s with levels := { s.levels with gantryFault := true } }
  let s' := takeReady ready (s'.mapStore fun u => { u with faultLatch := true })
  match s.store.movingJob with
  | some j => endMove (.quarantine j.serial quarantineGantryFault 0) .fault s'
  | none => s'

/-! ## The claim watch and retries -/

/-- The lifetime of a watched claim passes (R178). -/
def claimWatchExpire (serial : Serial) (s : State) : State :=
  match s.store.claims.find? fun c => c.serial == serial with
  | some c =>
    if !c.expired ∧ s.claimLifetime ≤ elapsed c.stamp s.now then
      claimWatchTest serial (s.mapStore fun u =>
        { u with claims := u.claims.map fun x => if x.serial = serial then { x with expired := true } else x })
    else s
  | none => s

/-- A frame whose next submission has come is due again (R168). -/
def StoreFrame.retried (now : Time) (f : StoreFrame) : StoreFrame :=
  match f.status with
  | .waiting t => if t.due now then ⟨f.frame, .due⟩ else f
  | .due | .submitted => f

/-- The track scan's frame is still due while its wheel is one the scan takes; else the scan goes on (R168, R180). -/
def retryTrack (s : State) : State :=
  match s.store.track with
  | some f =>
    if s.transitSerials.contains f.frame.named then s.mapStore fun u => { u with track := some (f.retried s.now) }
    else if f.retried s.now = f then s
    else trackFrom (f.frame.named.toNat + 1) s
  | none => s

/-- One roll interval after a *not sent* (R168). -/
def storeFrameRetry (s : State) : State :=
  if s.synced ∧ !s.lineFault then
    storePump (retryTrack (s.mapStore fun u => { u with jobFrame := u.jobFrame.map (StoreFrame.retried s.now) }))
  else s

/-! ## The commands -/

/-- STORE_TAG_RECORD (R169). -/
def execStoreTagRecord (s : State) : Host.Outcome State Fault Refusal :=
  .next (if s.storeLive then storeTagRecord s else s)

/-- JOB_START (R172). -/
def execJobStart (ready : Bool) (s : State) : Host.Outcome State Fault Refusal :=
  .next (if s.storeLive then jobStart ready s else s)

/-- JOB_STROBE_END (R174). -/
def execJobStrobeEnd (ready : Bool) (s : State) : Host.Outcome State Fault Refusal :=
  .next (if s.storeLive then jobStrobeEnd ready s else s)

/-- GANTRY_READY_RISE (R177). -/
def execGantryReadyRise (s : State) : Host.Outcome State Fault Refusal :=
  .next (if s.storeLive then gantryReadyRise s else s)

/-- GANTRY_DONE (R175). -/
def execGantryDone (ready : Bool) (s : State) : Host.Outcome State Fault Refusal :=
  .next (if s.storeLive then gantryDone ready s else s)

/-- GANTRY_FAULT (R177). -/
def execGantryFault (ready : Bool) (s : State) : Host.Outcome State Fault Refusal :=
  .next (if s.storeLive then gantryFault ready s else s)

/-- CLAIM_WATCH_EXPIRE (R178). -/
def execClaimWatchExpire (serial : Serial) (s : State) : Host.Outcome State Fault Refusal :=
  .next (if s.storeLive then claimWatchExpire serial s else s)

/-- STORE_FRAME_RETRY (R168). -/
def execStoreFrameRetry (s : State) : Host.Outcome State Fault Refusal :=
  .next (if s.storeLive then storeFrameRetry s else s)

end Sys2Proof.Machine
end

