-- ==== Sys2Proof/Machine/Heads.lean ====
section
/-! DEFINITION. The commands of the head units (chapters 7 and 8): dress strokes, grind cycles, ACK, contacts, load
gates, and the retries of their frames. -/
namespace Sys2Proof.Machine
open State

/-- The family of the recorded wheel. -/
def State.recordFamily (s : State) (r : HeadRecord) : Family := familyAt s.families r.family

/-! ## Dress strokes (R121 to R123) -/

/-- A stroke is accounted in this condition (R121). -/
def Condition.dresses (c : Condition) : Bool := c.working || c.isHold

/-- The record after an accounted stroke (R121, R122). -/
def HeadRecord.dressed (f : Family) (r : HeadRecord) : HeadRecord :=
  { r with diameter := BitVec.ofNat 24 (r.diameter.toNat - f.depth)
           dressCount := satInc r.dressCount
           partsLeft := if r.diameter.toNat < f.lastLine then some 0 else r.partsLeft }

/-- An accounted stroke is evaluated at once, or left pending in an open cycle (R123). -/
def strokeEvaluation (h : Head) (s : State) : State :=
  if (s.head h).cycle.isSome then s.mapCycle h fun c => { c with evaluationPending := true } else evaluateWorking h s

/-- An accounted stroke (R121 to R123). -/
def accountStroke (h : Head) (r : HeadRecord) (s : State) : State :=
  let f := s.recordFamily r
  let s := if r.diameter.toNat < f.lastLine then s.count fun c => { c with overdress := satInc c.overdress } else s
  strokeEvaluation h (requestCheckpoint (headId h) (s.mapRecord h (HeadRecord.dressed f)))

def strokeIgnored (s : State) : State := s.count fun c => { c with strokesIgnored := satInc c.strokesIgnored }

/-- A stroke taken (R121); one behind a cycle end that has made the head SPENT is ignored too (R123,
notes/assumptions/56.md). -/
def takeStroke (h : Head) (s : State) : State :=
  match (s.head h).record with
  | some r => if r.condition.dresses then accountStroke h r s else strokeIgnored s
  | none => strokeIgnored s

/-- DRESS stands high at its stroke (R120). -/
def dressHigh (h : Head) (s : State) : State :=
  (s.mapLevels h fun l => { l with dress := true }).mapHead h fun u => { u with dressRisen := true }

/-- One stroke for each high pulse, and none for a level that was high as the head became live (R120). -/
def dressStroke (h : Head) (fell : Bool) (s : State) : State :=
  if (s.head h).dressRisen ∧ !fell then s else takeStroke h (dressHigh h s)

/-! ## Grind cycles (R124 to R127) -/

/-- The check set latched when a cycle opens (R137). -/
def checkSet (gateMs : Nat) (f : Family) : CheckSet :=
  ⟨gateMs, f.loadFloor, f.loadCeiling, f.missLimit, f.settleMs, f.timeoutMs, f.maxContactMs⟩

/-- A cycle opens (R124, R138). -/
def openCycle (h : Head) (f : Family) (s : State) : State :=
  let c : Cycle :=
    ⟨false, false, false, checkSet s.constants.gateMs f, none, .running (s.timer (f.timeoutMs * 1000)), none, none, 0⟩
  s.mapHead h fun u => { u with cycle := some c }

def cycleRefused (s : State) : State := s.count fun c => { c with cyclesRefused := satInc c.cyclesRefused }

def setGrind (g : Bool) (h : Head) (s : State) : State := s.mapLevels h fun l => { l with grind := g }

def grindRise (h : Head) (s : State) : State :=
  if (s.headLevels h).grind then s
  else
    let s := setGrind true h s
    match (s.head h).record with
    | some r => if r.condition.working then openCycle h (s.recordFamily r) s else cycleRefused s
    | none => cycleRefused s

/-- Parts left after a counted part of a head in LAST_PARTS, and whether the head is SPENT (R125 step 1). -/
def allowanceAfter (left : Option Byte) : Option Byte × Bool :=
  match left with
  | some n => if n.toNat ≤ 1 then (some 0, true) else (some (n - 1), false)
  | none => (none, false)

/-- A part is counted (R125 step 1). -/
def countPart (h : Head) (s : State) : State :=
  let s := s.mapRecord h fun r => { r with partsCount := satInc r.partsCount }
  match (s.head h).record with
  | some r =>
    if r.condition = .lastParts then
      let a := allowanceAfter r.partsLeft
      let s := s.mapRecord h fun r => { r with partsLeft := a.1 }
      if a.2 then setCondition h .spent s else s
    else s
  | none => s

/-- The end of an open cycle, in the steps of R125. -/
def endCycle (h : Head) (c : Cycle) (s : State) : State :=
  let s := if c.contactFlag && !c.verdictFlag then countPart h s else s
  let s := if c.evaluationPending then evaluateWorking h s else s
  requestCheckpoint (headId h) (closeCycle h s)

def grindFall (h : Head) (s : State) : State :=
  if (s.headLevels h).grind then
    let s := setGrind false h s
    match (s.head h).cycle with
    | some c => endCycle h c s
    | none => s
  else s

/-! ## ACK (R128, R163) -/

/-- ACK at a swap unit (R163). -/
def ackSwap (h : Head) (s : State) : State :=
  if (s.swap h).state = .failed then
    claimTest h (s.mapSwap h fun u => { u with attempts := 0, state := .idle })
  else s

/-- ACK at a head (R128). -/
def ackHead (h : Head) (s : State) : State :=
  match s.condition h with
  | some (.hold .conflict) => dropRecord h s
  | some (.hold _) => evaluateHead h s
  | _ => s

/-- One event for each high pulse, and none for a level that was high as start-up completed (R128). -/
def ackEvent (fell : Bool) (s : State) : State :=
  if s.levels.ack ∧ !fell then s else
  let s := { s with levels := { s.levels with ack := true } }
  let s := s.mapStop fun u => { u with latch := false }
  if s.headsLive then ackHead .h1 (ackHead .h0 (ackSwap .h1 (ackSwap .h0 s))) else s

/-! ## Contacts (R139 to R141) -/

def setContact (b : Bool) (h : Head) (s : State) : State := s.mapLevels h fun l => { l with contact := b }

/-- A contact begins (R139). -/
def Cycle.beginContact (now : Time) (c : Cycle) : Cycle :=
  { c with contact := some now
           contactFlag := true
           timeout := match c.timeout with
             | .running _ => .stopped
             | .stopped => .stopped
             | .expired => .expired
           maxTimer := some ⟨now, c.checks.maxContactMs * 1000⟩
           misses := 0
           gate := some ⟨now, 0⟩ }

/-- A contact ends (R140). -/
def Cycle.endContact (c : Cycle) : Cycle := { c with contact := none, maxTimer := none, gate := none }

def contactRise (h : Head) (s : State) : State :=
  if (s.headLevels h).contact then s else (setContact true h s).mapCycle h (Cycle.beginContact s.now)

/-- The maximum contact timer stops with the verdict of its expiry (R140). -/
def overlongContact (h : Head) (s : State) : State :=
  giveVerdict h .overlong (s.mapCycle h fun c => { c with maxTimer := none })

/-- A contact that ends wider than the maximum contact time has been overlong (R140). -/
def overlongAtFall (h : Head) (s : State) : State :=
  match (s.head h).cycle.bind Cycle.maxTimer with
  | some t => if t.length < elapsed t.start s.now then overlongContact h s else s
  | none => s

def contactFall (h : Head) (s : State) : State :=
  if (s.headLevels h).contact then (overlongAtFall h (setContact false h s)).mapCycle h Cycle.endContact else s

/-- The maximum contact timer expires (R140). -/
def maxContactExpire (h : Head) (s : State) : State :=
  match (s.head h).cycle.bind Cycle.maxTimer with
  | some t => if t.due s.now then overlongContact h s else s
  | none => s

/-- The contact timeout expires (R141). -/
def contactTimeoutExpire (h : Head) (s : State) : State :=
  match (s.head h).cycle.map Cycle.timeout with
  | some (.running t) =>
    if t.due s.now then giveVerdict h .missing (s.mapCycle h fun c => { c with timeout := .expired }) else s
  | some .stopped | some .expired | none => s

/-! ## Load gates (R142 to R144) -/

/-- A LOAD pulse in the running gate (R142). -/
def Cycle.pulse (c : Cycle) : Cycle := { c with gate := c.gate.map fun g => { g with pulses := satInc g.pulses } }

def loadPulse (h : Head) (s : State) : State :=
  (s.mapLevels h fun l => { l with load := true }).mapCycle h Cycle.pulse

/-- A crash gate (R143). -/
def CheckSet.crash (k : CheckSet) (pulses : Word16) : Bool :=
  decide (k.loadCeiling.toNat < pulses.toNat) || pulses == 0xFFFF

/-- The gate is floor-checked (R144). -/
def CheckSet.floorChecked (k : CheckSet) (contact start : Time) : Bool := k.settleMs * 1000 ≤ elapsed contact start

/-- A miss (R144): a crash gate is none. -/
def CheckSet.miss (k : CheckSet) (pulses : Word16) : Bool :=
  decide (pulses.toNat < k.loadFloor.toNat) && !k.crash pulses

/-- The miss count after a gate, and whether LOST is given (R144). -/
def missesAfter (k : CheckSet) (contact : Time) (g : Gate) (misses : Nat) : Nat × Bool :=
  if k.floorChecked contact g.start then
    if k.miss g.pulses then
      if k.missLimit ≤ misses + 1 then (0, true) else (misses + 1, false)
    else (0, false)
  else (misses, false)

/-- The moment the gate ends (R142). -/
def gateEnd (k : CheckSet) (g : Gate) : Time := g.start + BitVec.ofNat 32 (k.gateMs * 1000)

/-- The end of a gate of a contact (R142 to R144): the ceiling first, then the floor, then the next gate. -/
def endGate (h : Head) (c : Cycle) (contact : Time) (g : Gate) (s : State) : State :=
  let m := missesAfter c.checks contact g c.misses
  let s := s.mapCycle h fun x => { x with misses := m.1, gate := some ⟨gateEnd c.checks g, 0⟩ }
  let s := if c.checks.crash g.pulses then giveVerdict h .crash s else s
  if m.2 then giveVerdict h .lost s else s

def loadGateEnd (h : Head) (s : State) : State :=
  match (s.head h).cycle with
  | some c =>
    match c.contact, c.gate with
    | some contact, some g =>
      if c.checks.gateMs * 1000 ≤ elapsed g.start s.now then endGate h c contact g s else s
    | _, _ => s
  | none => s

/-! ## Retries (R108, R148) -/

/-- A DUE breakage report is submitted again (R148). -/
def reportRetry (h : Head) (s : State) : State :=
  match (s.head h).reportRetry with
  | some t =>
    if (s.head h).report = .due ∧ t.due s.now ∧ s.synced then
      submitReport h (s.mapHead h fun u => { u with reportRetry := none })
    else s
  | none => s

/-! ## The commands -/

/-- DRESS_STROKE (R121). -/
def execDressStroke (h : Head) (s : State) (fell : Bool := true) : Host.Outcome State Fault Refusal :=
  .next (if s.headsLive then dressStroke h fell s else s)

/-- GRIND_RISE (R124). -/
def execGrindRise (h : Head) (s : State) : Host.Outcome State Fault Refusal :=
  .next (if s.headsLive then grindRise h s else s)

/-- GRIND_FALL (R125). -/
def execGrindFall (h : Head) (s : State) : Host.Outcome State Fault Refusal :=
  .next (if s.headsLive then grindFall h s else s)

/-- ACK_EVENT (R128). -/
def execAckEvent (s : State) (fell : Bool := true) : Host.Outcome State Fault Refusal :=
  .next (if s.isLive then ackEvent fell s else s)

/-- CONTACT_RISE (R139). -/
def execContactRise (h : Head) (s : State) : Host.Outcome State Fault Refusal :=
  .next (if s.headsLive then contactRise h s else s)

/-- CONTACT_FALL (R140). -/
def execContactFall (h : Head) (s : State) : Host.Outcome State Fault Refusal :=
  .next (if s.headsLive then contactFall h s else s)

/-- MAXIMUM_CONTACT_TIMER_EXPIRE (R140). -/
def execMaximumContactTimerExpire (h : Head) (s : State) : Host.Outcome State Fault Refusal :=
  .next (if s.headsLive then maxContactExpire h s else s)

/-- CONTACT_TIMEOUT_EXPIRE (R141). -/
def execContactTimeoutExpire (h : Head) (s : State) : Host.Outcome State Fault Refusal :=
  .next (if s.headsLive then contactTimeoutExpire h s else s)

/-- LOAD_PULSE (R142). -/
def execLoadPulse (h : Head) (s : State) : Host.Outcome State Fault Refusal :=
  .next (if s.headsLive then loadPulse h s else s)

/-- LOAD_GATE_END (R142). -/
def execLoadGateEnd (h : Head) (s : State) : Host.Outcome State Fault Refusal :=
  .next (if s.headsLive then loadGateEnd h s else s)

/-- BREAKAGE_REPORT_RETRY (R148). -/
def execBreakageReportRetry (h : Head) (s : State) : Host.Outcome State Fault Refusal :=
  .next (if s.headsLive then reportRetry h s else s)

/-- RECONCILIATION_DECLARE_RETRY (R108). -/
def execReconciliationDeclareRetry (h : Head) (s : State) : Host.Outcome State Fault Refusal :=
  .next (if s.headsLive then declareRetry h s else s)

end Sys2Proof.Machine
end

