-- ==== Sys2Proof/Machine/Readout.lean ====
section
/-! DEFINITION. What the service port's reads return (R202, Formats 13.6), and how an answer reaches the host. -/
namespace Sys2Proof.Machine
open State Sys2Proof.Config

/-! ## Status bytes (Formats 13.6) -/

def statusDone : Byte := 1
def statusFailed : Byte := 2
def statusRefused : Byte := 3
def statusBusy : Byte := 4

/-! ## Codes (Formats 13.2, 13.6) -/

def roleByte : Role → Byte
  | .grinder => 0
  | .store => 1

def syncByte : SyncState → Byte
  | .unsynced => 0
  | .joining => 1
  | .synced => 2

def refusalByte : PoolRefusal → Byte
  | .role => 1
  | .badField => 2
  | .unknownWheel => 3
  | .wrongState => 4
  | .notHolder => 5
  | .tableFull => 6
  | .duplicate => 7
  | .slotTaken => 8
  | .headBusy => 9
  | .noSister => 10

def swapByte : SwapState → Byte
  | .idle => 0
  | .claiming => 1
  | .backoff => 2
  | .await => 3
  | .delivered => 4
  | .confirming => 5
  | .mounting => 6
  | .failed => 7

def reportByte : ReportState → Byte
  | .none => 0
  | .due => 1
  | .outstanding => 2

def phaseByte : JobPhase → Byte
  | .starting => 1
  | .armed => 2
  | .moving => 3
  | .closing => 4

/-- Eight flags as a byte, bit 0 first. -/
def flagByte (bits : List Bool) : Byte :=
  BitVec.ofNat 8 (bits.foldr (fun b n => b.toNat + 2 * n) 0)

/-- A last-refusal record of 10 bytes; all of an absent one reads 0x00 (notes/assumptions/26.md). -/
def refusalBytes : Option LastRefusal → List Byte
  | none => List.replicate 10 0
  | some r => [(r.kind.number).setWidth 8] ++ be32 r.serial ++ [refusalByte r.reason] ++ be32 r.stamp

/-! ## The reads (R202) -/

/-- READ_HEAD: record, filtered sensor levels as the state holds them, report, swap state and last refusal. -/
def headAnswer (h : Head) (s : State) : List Byte :=
  let u := s.head h
  let w := s.swap h
  recordBody u.record ++ [flagByte [(s.headLevels h).contact, (s.headLevels h).load, (s.headLevels h).dress], reportByte u.report, swapByte w.state]
    ++ be32 (w.held.getD 0) ++ [BitVec.ofNat 8 w.attempts] ++ refusalBytes (s.pool.headRefusal.get h)

/-- The entry record of a position, all 0x00 when it is empty. -/
def positionBytes (t : Table) (pos : Nat) : List Byte :=
  match t.find? fun e => e.pos == pos with
  | some e => e.bytes
  | none => List.replicate 10 0

/-- READ_POOL. -/
def poolAnswer (pos : Nat) (s : State) : List Byte :=
  [syncByte s.pool.sync] ++ be16 s.pool.generation ++ positionBytes s.pool.table pos

/-- The roll values of a peer record, with their presence; absent ones read 0x00 (notes/assumptions/26.md). -/
def rollBytes : Option RollValues → List Byte
  | none => List.replicate 12 0
  | some v =>
    [1, boolByte v.synced, boolByte v.doubtful] ++ be16 v.generation ++ be16 v.digest ++ be16 v.familyDigest
      ++ [v.condition0, v.condition1, boolByte v.latched]

/-- The place of a station in the silent order, from 1; 0 when it is not in it. -/
def silentPlace (order : List Station) (st : Station) : Byte :=
  match order.findIdx? (· == st) with
  | some k => BitVec.ofNat 8 (k + 1)
  | none => 0

/-- READ_PEER; an absent record reads 0x00 (notes/assumptions/26.md). -/
def peerAnswer (pos : Nat) (s : State) : List Byte :=
  match s.peers.records.find? fun r => r.pos == pos with
  | some r =>
    [1, r.station.setWidth 8, roleByte r.role, boolByte r.silent, silentPlace s.peers.silentOrder r.station]
      ++ be32 r.lastHeard ++ rollBytes r.roll
  | none => List.replicate 21 0

/-- The counters in their order (12.7). -/
def Counters.list (c : Counters) : List Word16 :=
  [c.noise, c.framing, c.disturbance, c.syncFault, c.unknownKind, c.checkErrors, c.vetoesSent, c.vetoesSeen,
    c.arbLosses, c.txFail, c.unlearned, c.familyDiff, c.refusals, c.tagErrors, c.tagsIgnored, c.cyclesRefused,
    c.strokesIgnored, c.overdress, c.verdictsAfterFirst, c.badPages]

def jobKindByte : JobKind → Byte
  | .fetch => 1
  | .ret => 2

def jobBytes (j : Job) : List Byte :=
  [jobKindByte j.kind] ++ be32 j.serial
    ++ [j.source.code.setWidth 8, (j.dest.map fun p => p.code.setWidth 8).getD 255]

/-- The store's part of the station status. -/
def storeStatus (u : StoreUnit) (refusal : Option LastRefusal) : List Byte :=
  [BitVec.ofNat 8 u.queue.length] ++ u.queue.flatMap jobBytes ++ List.replicate (7 * (16 - u.queue.length)) 0
    ++ (match u.job with
        | some j => [phaseByte j.phase] ++ jobBytes j.job
        | none => List.replicate 8 0)
    ++ [(u.reservation.map fun n => n.setWidth 8).getD 255, boolByte u.faultLatch] ++ refusalBytes refusal

/-- The stop event: stamp and sender, 0 for no event and 255 for UNKNOWN; the stamp of no event reads 0
(notes/assumptions/26.md). -/
def stopEventBytes : Option StopEvent → List Byte
  | none => List.replicate 5 0
  | some e => be32 e.stamp ++ [(e.sender.map fun st => st.setWidth 8).getD 255]

/-- The disagreement record; the stamp of an empty one reads 0 (notes/assumptions/26.md). -/
def disagreementBytes : Option Disagreement → List Byte
  | none => List.replicate 5 0
  | some d => [d.station.setWidth 8] ++ be32 d.stamp

/-- The station status. -/
def stationStatus (s : State) : List Byte :=
  [flagByte [false, false, false, false, false, false, s.phase == .commissioning, s.isStore],
    s.station.setWidth 8, s.code.setWidth 8, syncByte s.pool.sync]
    ++ be16 s.pool.generation ++ be16 s.pool.digest
    ++ [flagByte [s.fe.doubtful, s.fe.deaf, s.lineFault, s.life.fault, s.peers.familyMismatch, s.peers.roleClash,
          s.stop.latch, s.phase == .configFault]]
    ++ stopEventBytes s.stop.event ++ disagreementBytes s.peers.disagreement
    ++ (if s.isStore then storeStatus s.store s.pool.storeRefusal else [])

/-- READ_COUNTERS. -/
def countersAnswer (s : State) : List Byte := s.counters.list.flatMap be16 ++ stationStatus s

/-- The data of a read (R202). -/
def readAnswer (r : ServiceRead) (s : State) : List Byte :=
  match r with
  | .page p => Memory.readPage s.life.pages p
  | .head h _ _ => headAnswer h s
  | .pool p => poolAnswer p s
  | .peer p => peerAnswer p s
  | .counters => countersAnswer s

/-! ## The moment of a read (R135, R201) -/

/-- The filtered LOAD and DRESS levels of a live head, whose falls have no row, as the command tells them (R135,
notes/assumptions/6.md); before the head is live they stay low (R198). -/
def tellSensors (h : Head) (load dress : Bool) (s : State) : State :=
  if s.headsLive then s.mapLevels h fun l => { l with load := load, dress := dress } else s

/-- A read is taken: a READ_HEAD finds the levels that it tells of this moment, at its arrival or at the end of the commit
it has waited for. -/
def tellRead (r : ServiceRead) (s : State) : State :=
  match r with
  | .head h load dress => tellSensors h load dress s
  | .page _ | .pool _ | .peer _ | .counters => s

/-! ## Answers (R201) -/

/-- The command has been carried out: its answer can be clocked out, or is lost (R201). -/
def finishAnswer (bytes : List Byte) (s : State) : State :=
  s.mapService fun v =>
    if v.answerLost then { v with answerLost := false } else { v with answer := bytes }

/-- A read that waited for a commit is carried out when the commit ends (R201). -/
def serveWaiting (s : State) : State :=
  match s.service.waiting with
  | some r =>
    let s := tellRead r s
    finishAnswer (statusDone :: readAnswer r s) (s.mapService fun v => { v with waiting := none })
  | none => s

end Sys2Proof.Machine
end

