-- ==== Sys2Proof/Machine/Life.lean ====
section
/-! DEFINITION. The life store (chapter 11): the start-up scan, the commit engine and its commands, and what a reset in
the middle of a commit leaves. -/
namespace Sys2Proof.Machine
open State Sys2Proof.Config

/-! ## The scan (R184) -/

/-- A valid data page: its page number, logical id and sequence. -/
structure ValidPage where
  page : Nat
  id : Nat
  seq : BitVec 32
  deriving DecidableEq, Repr

/-- The data pages 4 to 63 (R181). -/
def dataPages : List Nat := (List.range 60).map (· + 4)

/-- The valid data pages, in ascending page number (R183). -/
def validPages (m : Memory) : List ValidPage :=
  dataPages.filterMap fun p => (validPage (Memory.readPage m p)).map fun v => ⟨p, v.1, v.2⟩

/-- The page with the highest sequence, the lower page number where two carry it (R184). -/
def newest : List ValidPage → Option ValidPage
  | [] => none
  | v :: vs =>
    match newest vs with
    | some w => if v.seq.toNat < w.seq.toNat then some w else some v
    | none => some v

/-- The current-copy map (R184). -/
def currentCopies (vs : List ValidPage) : List (Nat × Nat) :=
  logicalIds.filterMap fun id => (newest (vs.filter fun v => v.id == id)).map fun v => (id, v.page)

/-- The commit engine's state after the scan (R184, R192). -/
def scan (s : State) : State :=
  let vs := validPages s.life.pages
  let top := newest vs
  s.mapLife fun l =>
    { l with map := currentCopies vs
             sequence := (top.map ValidPage.seq).getD 0
             lastWritten := (top.map ValidPage.page).getD 63
             badPages := []
             pending := []
             buffer := List.replicate 128 blankByte
             pointer := 0
             engine := .idle }

/-! ## The staging buffer (R186, R192) -/

/-- The buffer is cleared (R192). -/
def clearBuffer (s : State) : State :=
  s.mapLife fun l => { l with buffer := List.replicate 128 blankByte, pointer := 0 }

/-- The record of a logical id as it stands (R179, R186). -/
def logicalBody (id : Nat) (s : State) : List Byte :=
  if id = 1 then recordBody (s.head .h0).record
  else if id = 2 then recordBody (s.head .h1).record
  else (List.range 11).flatMap fun k => positionBytes s.pool.table (11 * (id - 16) + k)

/-! ## Commits (R186 to R190) -/

/-- The next id served: circular, in ascending order (R186). -/
def nextPending (lastId : Nat) (pending : List Nat) : Option Nat :=
  match (pending.filter fun id => lastId < id).min? with
  | some id => some id
  | none => pending.min?

/-- The pages in the order of the search from the page after the last written one (R187). -/
def searchOrder (lastWritten : Nat) : List Nat :=
  dataPages.filter (lastWritten < ·) ++ dataPages.filter (· ≤ lastWritten)

/-- Allocation (R187). -/
def LifeStore.allocate (l : LifeStore) : Option Nat :=
  (searchOrder l.lastWritten).find? fun p => !l.badPages.contains p && !l.map.any fun m => m.2 == p

def setEngine (e : Engine) (s : State) : State := s.mapLife fun l => { l with engine := e }

/-- A commit ends: the buffer is cleared, the engine is idle, and a waiting read is carried out (R188, R201). -/
def endCommit (s : State) : State := serveWaiting (setEngine .idle (clearBuffer s))

/-- STORE_FAULT (R190). -/
def enterStoreFault (s : State) : State := endCommit (s.mapLife fun l => { l with fault := true, pending := [] })

/-- The commit takes a page and erases it (R187, R188 step 1). -/
def allocateFor (id : Nat) (s : State) : State :=
  match s.life.allocate with
  | some p => setEngine (.erasing id p) s
  | none => endCommit s

/-- A page is marked bad, and the commit moves on, or STORE_FAULT is entered (R189, R190). -/
def badPage (id page : Nat) (s : State) : State :=
  let s := (s.mapLife fun l => { l with badPages := l.badPages ++ [page] }).count fun c =>
    { c with badPages := satInc c.badPages }
  if 9 ≤ s.life.badPages.length then enterStoreFault s else allocateFor id s

/-- A commit starts: its id is taken and the buffer filled in one event (R186). -/
def commitStart (s : State) : State :=
  if s.life.engine = .idle ∧ !s.life.fault then
    match nextPending s.life.lastId s.life.pending with
    | some id =>
      allocateFor id (s.mapLife fun l =>
        { l with pending := l.pending.filter fun k => k != id
                 lastId := id
                 buffer := pageImage id l.sequence (logicalBody id s)
                 pointer := 0 })
    | none => s
  else s

/-- The page takes the content that has been read from it. -/
def putPage (page : Nat) (content : List Byte) (s : State) : State :=
  s.mapLife fun l => { l with pages := Memory.writePage l.pages page content }

/-- Step 3 of R188: the sequence is raised, and the buffer programmed; an exhausted sequence is STORE_FAULT (R189). -/
def programPage (id page : Nat) (s : State) : State :=
  if 0xFFFFFFFE ≤ s.life.sequence.toNat then enterStoreFault s
  else
    let seq := s.life.sequence + 1
    setEngine (.programming id page 1) (s.mapLife fun l =>
      { l with sequence := seq, buffer := pageImage id seq (pageBody id l.buffer) })

/-! ## The service port's writes (R193) -/

/-- COMMIT_CONFIG ends (R193). -/
def endConfig (status : Byte) (s : State) : State := finishAnswer [status] (setEngine .idle (clearBuffer s))

/-- ERASE_DATA goes on to the next page, or ends (R193). -/
def nextErase (page failed : Nat) (s : State) : State :=
  if page < 63 then setEngine (.dataErase (page + 1) failed) s
  else finishAnswer [statusDone, BitVec.ofNat 8 failed] (setEngine .idle s)

/-! ## The engine's events (R188, R193) -/

/-- A page cut off or failed before its mark was programmed: its mark reads unprogrammed (R191). -/
def unmarked (bytes : List Byte) : List Byte :=
  bytes.take 127 ++ (bytes.drop 127).map fun b => if b = 0 then blankByte else b

/-- What a failed erase or programming leaves is stale (R191, R193): a content that would be a valid page is none, its mark
reads unprogrammed. -/
def stale (content : List Byte) : List Byte :=
  if (validPage (Memory.fitPage content)).isSome then unmarked (Memory.fitPage content) else content

/-- An erase has completed, and the page has been read (R188 steps 1 and 2, R193). -/
def eraseDone (content : List Byte) (s : State) : State :=
  match s.life.engine with
  | .erasing id page =>
    if isBlank (Memory.fitPage content) then programPage id page (putPage page content s)
    else badPage id page (putPage page (stale content) s)
  | .configErase page =>
    if isBlank (Memory.fitPage content) then setEngine (.configProgram page 1) (putPage page content s)
    else endConfig statusFailed (putPage page content s)
  | .dataErase page failed =>
    if isBlank (Memory.fitPage content) then nextErase page failed (putPage page content s)
    else nextErase page (failed + 1) (putPage page (stale content) s)
  | .idle | .programming _ _ _ | .marking _ _ | .configProgram _ _ => s

/-- Programming has completed, and the page has been read back (R188 steps 3 and 4, R193). -/
def programDone (content : List Byte) (s : State) : State :=
  match s.life.engine with
  | .programming id page n =>
    let good : Bool := (Memory.fitPage content).take 127 == s.life.buffer.take 127
    let s := (putPage page (if good then content else stale content) s).mapLife fun l => { l with lastWritten := page }
    if good then setEngine (.marking id page) s
    else if n < 3 then setEngine (.programming id page (n + 1)) s
    else badPage id page s
  | .configProgram page n =>
    let good : Bool := Memory.fitPage content == s.life.buffer
    let s := putPage page content s
    if good then endConfig statusDone s
    else if n < 3 then setEngine (.configProgram page (n + 1)) s
    else endConfig statusFailed s
  | .idle | .erasing _ _ | .marking _ _ | .configErase _ | .dataErase _ _ => s

/-- The map's entry for an id changes to a page (R188 step 6). -/
def remap (id page : Nat) (m : List (Nat × Nat)) : List (Nat × Nat) :=
  insertBy Prod.fst (id, page) (m.filter fun x => x.1 != id)

/-- The commit mark has been programmed and read back (R188 steps 5 and 6). -/
def markDone (mark : Byte) (s : State) : State :=
  match s.life.engine with
  | .marking id page =>
    let s := s.mapLife fun l => { l with pages := Memory.write l.pages (128 * page + 127) mark }
    if mark = 0 then endCommit (s.mapLife fun l => { l with map := remap id page l.map }) else badPage id page s
  | .idle | .erasing _ _ | .programming _ _ _ | .configErase _ | .configProgram _ _ | .dataErase _ _ => s

/-- The commit engine serves the journal: from the end of the scan, in run mode (R184, R196). -/
def State.journalRuns (s : State) : Bool := s.phase == .live || s.phase == .selfTest

/-- COMMIT_START (R186). -/
def execCommitStart (s : State) : Host.Outcome State Fault Refusal :=
  .next (if s.journalRuns then commitStart s else s)

/-- PAGE_ERASE_DONE (R188). -/
def execPageEraseDone (content : List Byte) (s : State) : Host.Outcome State Fault Refusal :=
  .next (eraseDone content s)

/-- PAGE_PROGRAM_DONE (R188). -/
def execPageProgramDone (content : List Byte) (s : State) : Host.Outcome State Fault Refusal :=
  .next (programDone content s)

/-- COMMIT_MARK_DONE (R188). -/
def execCommitMarkDone (mark : Byte) (s : State) : Host.Outcome State Fault Refusal := .next (markDone mark s)

/-! ## A reset in the middle of a write (R191)

The bytes that a cut-off step leaves are free values (notes/assumptions/5.md). -/

/-- `n` free bytes, from an index on. -/
def freeBytes (from' : Nat) : Nat → List Byte
  | 0 => []
  | n + 1 => freeByte from' :: freeBytes (from' + 1) n

/-- A page that a cut-off step leaves stale or blank (R191): free bytes under an unprogrammed mark. -/
def cutPage (free : Nat) : List Byte := unmarked (freeBytes free 128)

/-- A byte that is not blank: any but 0xFF. -/
def notBlank (b : Byte) : Byte := if b = blankByte then 0 else b

/-- A page that a cut-off re-program leaves stale, never blank (R191): the same, with a byte at a free place that is not
blank. -/
def cutAgain (free : Nat) : List Byte := (cutPage free).modify ((freeByte (free + 128)).toNat % 127) notBlank

/-- The pages that a cut-off COMMIT_CONFIG leaves (R193): free bytes in its page, except that the configuration is invalid.
Where the free bytes would make it valid, a blank page stands for them, or one of zeros: a blank page 0 to 2 is out of
range, and a check value cannot be both 0xFFFF and 0. -/
def cutConfig (m : Memory) (p free : Nat) : Memory :=
  let left (bytes : List Byte) : Memory := Memory.writePage m p bytes
  if (checkConfiguration (left (freeBytes free 128))).isNone then left (freeBytes free 128)
  else if (checkConfiguration (left (List.replicate 128 blankByte))).isNone then left (List.replicate 128 blankByte)
  else left (List.replicate 128 0)

/-- The pages that a reset leaves, and how many free bytes it takes (R191, R193). -/
def pagesAfterReset (l : LifeStore) (free : Nat) : Memory × Nat :=
  match l.engine with
  | .idle => (l.pages, free)
  | .erasing _ p | .dataErase p _ => (Memory.writePage l.pages p (cutPage free), free + 128)
  | .programming _ p n => (Memory.writePage l.pages p (if n ≤ 1 then cutPage free else cutAgain free), free + 129)
  | .marking _ p => (Memory.write l.pages (128 * p + 127) (freeByte free), free + 1)
  | .configErase p | .configProgram p _ => (cutConfig l.pages p free, free + 128)

end Sys2Proof.Machine
end

