-- ==== Sys2Proof/Machine/FrameEngine.lean ====
section
/-! DEFINITION. What the frame engine does with a transmission's outcome and with a frame under reception (chapter 2):
*sent* and *not sent* told to the originators, abandonment and the watch, the check point, the veto slot's end,
acceptance, and LINE_FAULT. -/
namespace Sys2Proof.Machine
open State Sys2Proof.Config

/-! ## Outcomes told to the originators (R30, R33) -/

/-- The roll timer is started (R49). -/
def startRollTimer (s : State) : State := s.mapPeers fun p => { p with rollTimer := some (s.timer s.rollInterval) }

/-- *Sent* reaches the originator. -/
def deliverSent (r : Option (Origin × Payload)) (s : State) : State :=
  match r with
  | some (.peerTable, _) => startRollTimer s
  | some (.imageUnit, p) => imageSent p s
  | some (.swapUnit h, .pool f) => swapSent h f s
  | some (.swapUnit _, _) | some (.headUnit _, _) | some (.storeUnit, _) | none => s

/-- *Not sent* reaches the originator. In LINE_FAULT the roll timer stays stopped (R49). -/
def deliverNotSent (r : Option (Origin × Payload)) (s : State) : State :=
  match r with
  | some (.peerTable, _) => if s.lineFault then s else startRollTimer s
  | some (.imageUnit, p) => imageNotSent p s
  | some (.swapUnit h, .pool f) => swapNotSent h f s
  | some (.headUnit h, .pool f) => headNotSent h f s
  | some (.storeUnit, .pool f) => storeNotSent f s
  | some (.swapUnit _, _) | some (.headUnit _, _) | some (.storeUnit, _) | none => s

/-- An attempt of the frame on the line, with its consequences (R30). -/
def attemptMade (s : State) : State :=
  let r := countAttempt s
  deliverNotSent r.2 r.1

/-- An outcome held until its dominant run ends (R26, R47): a long break overtakes the frame, and any other run counts the
attempt, also one of character content, which R7 gives no class (notes/assumptions/45.md). -/
def resolveHeld (longBreak : Bool) (s : State) : State :=
  match s.fe.heldOutcome with
  | none => s
  | some _ =>
    let s := s.mapFe fun f => { f with heldOutcome := none }
    if longBreak then leaveLine s else attemptMade s

/-! ## LINE_FAULT (R16, R38) -/

/-- The station enters LINE_FAULT: the queues of requests are emptied, the pin is released, and the receiver listens
for stop calls only (notes/assumptions/34.md). After a failed self-test the loop switch is back at the pin
(notes/assumptions/37.md). -/
def enterLineFault (s : State) : State :=
  let s := s.mapFe fun f =>
    { f with rxState := .none, rxFrame := RxFrame.empty, watch := none, txQueue := [], held := [], admissionsDue := 0,
             heldOutcome := none }
  let s := s.mapStop fun u => { u with requests := [], failHeld := false }
  let s := s.mapLine fun l =>
    { l with rx := .faultListen, bitTime := 128, loopInternal := false, loop := .awaitSync, vetoDriving := false,
             offer := false }
  endTransfer { s with lineFault := true, transmitter := .idle }

/-! ## Reception (R20 to R22, R27, R28) -/

/-- The receiver goes to a state outside the veto slot, on the nominal grid: no veto is driven there (R24). -/
def setRx (rx : RxPath) (s : State) : State :=
  s.mapLine fun l => { l with rx := rx, bitTime := 128, vetoDriving := false }

def setRxState (r : RxState) (s : State) : State := s.mapFe fun f => { f with rxState := r }

/-- No frame under reception. -/
def clearFrame (s : State) : State := s.mapFe fun f => { f with rxState := .none, rxFrame := RxFrame.empty }

/-- A frame is under reception: HEADER, BODY or CHECK (R27). -/
def RxState.receiving : RxState → Bool
  | .header | .body | .check => true
  | .none | .slot _ _ | .sleep | .watch => false

/-- Abandonment for a framing error or a disturbance: the watch is set (R27, R28). -/
def abandonToWatch (s : State) : State :=
  if s.fe.rxState.receiving then
    let l := (s.fe.rxFrame.h2.map BitVec.toNat).getD 0
    s.mapFe fun f =>
      { f with rxState := .watch, rxFrame := RxFrame.empty
               watch := some ⟨f.rxFrame.stamp, expectedLength s.straps.rate s.line.bitTime l⟩ }
  else s

/-- The receive side sleeps until the next break (R21). -/
def sleep (s : State) : State :=
  let s := s.count fun c => { c with unknownKind := satInc c.unknownKind }
  setRx .ignore (s.mapFe fun f => { f with rxState := .sleep, rxFrame := RxFrame.empty })

/-- A byte taken into the running check (R18). -/
def RxFrame.feed (b : Byte) (f : RxFrame) : RxFrame := { f with crc := BitVec.ofNat 16 (crcByte f.crc.toNat b) }

def mapFrame (g : RxFrame → RxFrame) (s : State) : State := s.mapFe fun f => { f with rxFrame := g f.rxFrame }

/-- A header character (R21). -/
def headerCharacter (c : Character) (s : State) : State :=
  let f := s.fe.rxFrame
  if !c.mark then sleep s
  else
    match f.h0, f.h1 with
    | none, _ =>
      if (kindOfH0 c.data).isSome then mapFrame (fun f => { f.feed c.data with h0 := some c.data }) s else sleep s
    | some _, none => mapFrame (fun f => { f.feed c.data with h1 := some c.data }) s
    | some h0, some _ =>
      if c.data.toNat ≤ 48 ∧ (kindOfH0 h0).any fun k => allowedLength k c.data.toNat then
        setRxState (if c.data = 0 then .check else .body)
          (mapFrame (fun f => { f.feed c.data with h2 := some c.data }) s)
      else sleep s

/-- A data character (R22). -/
def dataCharacter (c : Character) (s : State) : State :=
  let s := mapFrame (fun f => { f.feed c.data with data := f.data ++ [c.data], badMark := f.badMark || c.mark }) s
  if s.fe.rxFrame.data.length = (s.fe.rxFrame.h2.map BitVec.toNat).getD 0 then setRxState .check s else s

/-- The check characters fit the running check (R18). -/
def RxFrame.checkFits (f : RxFrame) : Bool :=
  match f.check with
  | [a, b] => f.crc == of16 a b
  | _ => false

/-- The check comparison (R18) and the bad-mark flag (R22): the frame is bad (R23). -/
def RxFrame.bad (f : RxFrame) : Bool := f.badMark || !f.checkFits

/-- The check point (R23): the veto decision is made, and the slot is opened. A transmission of this station has been
sent to its last check character. -/
def checkPoint (s : State) : State :=
  let bad := s.fe.rxFrame.bad
  let veto := !s.fe.deaf && (bad || decide (rxCapacity ≤ s.fe.rxQueue.length))
  let s := if bad then s.count fun c => { c with checkErrors := satInc c.checkErrors } else s
  let s := if veto then s.count fun c => { c with vetoesSent := satInc c.vetoesSent } else s
  let s := s.mapFe fun f =>
    { f with rxState := .slot bad veto, vetoRun := if veto then f.vetoRun + 1 else f.vetoRun }
  let s := s.mapLine fun l => { l with rx := .slot, free := false, freeTimer := 0, vetoDriving := veto }
  match s.transmitter with
  | .frame _ _ => { s with transmitter := .idle }
  | .idle | .stopCall _ _ => s

/-- A check character (R22). -/
def checkCharacter (c : Character) (s : State) : State :=
  let s := mapFrame (fun f => { f with check := f.check ++ [c.data], badMark := f.badMark || c.mark }) s
  if 2 ≤ s.fe.rxFrame.check.length then checkPoint s else s

/-- A character handed on by the frame-path receiver (R20 to R22, R27). A framing mark decides before mark 0, an undefined
kind or a rejected length, an order that R20, R21 and R27 leave open: the model's choice, DESIGN CHOICE
(notes/assumptions/62.md). -/
def takeCharacter (c : Character) (s : State) : State :=
  if c.framing then abandonToWatch s
  else
    let s := if s.fe.rxState.receiving then mapFrame (fun f => { f with noisy := f.noisy || c.noise }) s else s
    match s.fe.rxState with
    | .header => headerCharacter c s
    | .body => dataCharacter c s
    | .check => checkCharacter c s
    | .none | .slot _ _ | .sleep | .watch => s

/-! ## The end of the veto slot (R25, R26, R36 to R38) -/

/-- The own-frame mark (R30): the frame on the line was sent whole, and no outcome of it is held. -/
def State.ownOnLine (s : State) : Option Origin :=
  if s.fe.heldOutcome.isSome then none else s.lineEntry.map TxEntry.origin

/-- The accepted frame as an item of the receive queue (R34, R35). -/
def acceptedItem (f : RxFrame) (own : Option Origin) : Option RxItem :=
  match f.h0.bind kindOfH0, f.h1 with
  | some k, some h1 =>
    some ⟨k, h1Role h1, h1Synced h1, h1Doubtful h1, h1Station h1, f.data, f.stamp, own, true, k.isPool,
      k == .imageAsk || k == .imagePart⟩
  | _, _ => none

/-- An accepted frame enters the receive queue if it is not bad and there is room (R25). -/
def enqueue (bad : Bool) (i : RxItem) (s : State) : State :=
  if !bad ∧ s.fe.rxQueue.length < rxCapacity then s.mapFe fun f => { f with rxQueue := f.rxQueue ++ [i] } else s

/-- A frame is accepted (R25): the clash check, the receive queue, and the outcome of an own frame. -/
def accept (bad : Bool) (f : RxFrame) (own : Option Origin) (s : State) : State :=
  match acceptedItem f own with
  | some i =>
    if i.own.isNone ∧ i.sender = s.station then enterLineFault s
    else
      let s := enqueue bad i s
      if own.isSome then
        let r := frameSent s
        deliverSent r.2 r.1
      else s
  | none => s

/-- A veto was seen (R25, R26). -/
def vetoSeen (runGoing : Bool) (own : Option Origin) (s : State) : State :=
  let s := s.count fun c => { c with vetoesSeen := satInc c.vetoesSeen }
  if own.isSome then
    if runGoing then s.mapFe fun f => { f with heldOutcome := some .vetoed } else attemptMade s
  else s

/-- The station becomes DEAF at the eighth consecutive veto (R36); DEAF ends where the slot's end found the receive queue
empty, a frame accepted at this end apart (R37). -/
def deafAtSlotEnd (vetoed wasEmpty : Bool) (s : State) : State :=
  if s.fe.deaf then if wasEmpty then endDeaf s else s.mapFe fun f => { f with vetoRun := 0 }
  else if !vetoed then s.mapFe fun f => { f with vetoRun := 0 }
  else if 8 ≤ s.fe.vetoRun then poolResync (s.mapFe fun f => { f with deaf := true, vetoRun := 0 })
  else s

/-- The slot is closed: no frame under reception, the receiver IDLE, the line-free timer at zero (R12, R25); a run begun in
the slot may still be going on (R26). -/
def closeSlot (runGoing : Bool) (s : State) : State :=
  (setRx .idle (clearFrame s)).mapLine fun l => { l with free := false, freeTimer := 0, slotRun := runGoing }

/-- The end of a veto slot (R25). -/
def vetoSlotEnd (bits : List Slot3) (runGoing : Bool) (s : State) : State :=
  match s.fe.rxState with
  | .slot bad vetoed =>
    let f := s.fe.rxFrame
    let own := s.ownOnLine
    let empty := s.fe.rxQueue.isEmpty
    let s := closeSlot runGoing s
    let s := match classifySlot bits with
      | .vetoSeen => vetoSeen runGoing own s
      | .ambiguous => accept bad f own (setDoubtful s)
      | .clear => accept bad f own s
    deafAtSlotEnd vetoed empty s
  | .none | .header | .body | .check | .sleep | .watch => s

end Sys2Proof.Machine
end

