-- ==== Sys2Proof/Machine/LineEvents.lean ====
section
/-! DEFINITION. The commands of the cell line (chapters 1 to 4): characters, runs, line free, the veto slot's end, the
watch, the transmitter's start and ends, held requests, and the roll timer. -/
namespace Sys2Proof.Machine
open State Sys2Proof.Config

/-! ## The sync character (R10) -/

/-- A bad sync character (R10). -/
def syncFault (s : State) : State :=
  let s := s.count fun c => { c with syncFault := satInc c.syncFault }
  (setRx .ignore s).mapLine fun l => { l with syncStamp := 0 }

/-- The receiver in LOOPBACK has taken the looped test frame this far (R15). -/
def State.loopsAt (s : State) (stage : LoopStage) : Bool := s.line.rx == .loopback && s.line.loop == stage

/-- The looped test frame fails: no counter rises (R15). -/
def loopFailed (s : State) : State := (clearFrame s).mapLine fun l => { l with loop := .failed, syncStamp := 0, bitTime := 128 }

/-- The start edge of a sync character, on the line or on the looped signal (R15): the frame stamp is taken (R10). -/
def syncStart (x : SyncStart) (s : State) : State :=
  if startConfirmed x.recessiveBefore x.start then
    if s.line.rx = .awaitSync then (lineBusy s).mapLine fun l => { l with rx := .sync, syncStamp := x.stamp }
    else if s.loopsAt .awaitSync then s.mapLine fun l => { l with loop := .sync, syncStamp := x.stamp }
    else s
  else s

/-- A frame has begun: HEADER, with its stamp (R10, R20). -/
def frameBegun (s : State) : State :=
  s.mapFe fun f => { f with rxState := .header, rxFrame := { RxFrame.empty with stamp := s.line.syncStamp } }

/-- The measurement of a sync character (R10). -/
def syncMeasure (m : SyncMeasure) (s : State) : State :=
  if s.line.rx = .sync then
    if syncGood m then frameBegun (s.mapLine fun l => { l with rx := .frame, bitTime := m.span }) else syncFault s
  else if s.loopsAt .sync then
    if syncGood m then frameBegun (s.mapLine fun l => { l with loop := .frame, bitTime := m.span }) else loopFailed s
  else s

/-- An optional part of a command. -/
def applyPart {α : Type} (f : α → State → State) (x : Option α) (s : State) : State :=
  match x with
  | some a => f a s
  | none => s

def syncCharacter (start : Option SyncStart) (measure : Option SyncMeasure) (s : State) : State :=
  applyPart syncMeasure measure (applyPart syncStart start s)

def syncTimeout (s : State) : State :=
  if s.line.rx = .sync then syncFault s else if s.loopsAt .sync then loopFailed s else s

/-! ## Characters of the frame path (R11) -/

/-- A character of the looped test frame (R15): the frame engine takes it as one of the line, and raises no counter. A
framing mark and a header it does not follow fail the test; the second check character ends the frame, and opens no slot. -/
def loopCharacter (c : Character) (s : State) : State :=
  let f := (takeCharacter c s).fe
  match f.rxState with
  | .header | .body | .check => s.mapFe fun x => { x with rxState := f.rxState, rxFrame := f.rxFrame }
  | .slot _ _ => (clearFrame s).mapLine fun l => { l with loop := .checked f.rxFrame.checkFits, bitTime := 128 }
  | .none | .sleep | .watch => loopFailed s

def framePathCharacter (c : CharSamples) (s : State) : State :=
  match decideCharacter c with
  | some ch =>
    if s.line.rx = .frame then takeCharacter ch (countNoise ch (lineBusy s))
    else if s.loopsAt .frame then loopCharacter ch s
    else s
  | none => s

/-! ## Dominant runs (R7, R8) -/

/-- The frame-path receiver follows a break or a long break (R8). -/
def State.runMoves (s : State) : Bool :=
  match s.line.rx with
  | .off | .loopback | .faultListen => false
  | .settling | .idle | .awaitSync | .sync | .frame | .slot | .ignore => true

/-- A break ends any frame, and a watch with the doubtful flag set (R8, R20, R27, R28). -/
def breakEnded (s : State) : State :=
  if s.runMoves then
    let s := if s.fe.watch.isSome then setDoubtful (s.mapFe fun f => { f with watch := none }) else s
    matcherInterrupted (clearFrame (setRx .awaitSync s))
  else matcherInterrupted s

/-- A long break ends any frame and any watch, and starts the stop path (R8, R9, R28, R43). In LOOPBACK no long break
starts it. -/
def longBreakEnded (stamp : Time) (s : State) : State :=
  if s.line.rx = .loopback then s
  else
    let s := if s.runMoves then clearFrame (setRx .ignore (s.mapFe fun f => { f with watch := none })) else s
    matcherStart stamp s

/-- A disturbance (R7, R8, R27). In LOOPBACK it is no run of the frame under reception (R15). -/
def disturbanceEnded (s : State) : State :=
  let s := s.count fun c => { c with disturbance := satInc c.disturbance }
  matcherInterrupted (match s.line.rx with
    | .loopback => s
    | .sync | .frame => setRx .idle (abandonToWatch s)
    | _ => abandonToWatch s)

/-- A glitch: a framing error if it covered a stop-bit decision (R7). -/
def glitchEnded (coveredStop : Bool) (s : State) : State :=
  if coveredStop then s.count fun c => { c with framing := satInc c.framing } else s

/-- The effect of a run by its class (R7, R8). -/
def runEffect (r : Run) (c : Option RunClass) (s : State) : State :=
  match c with
  | none => s
  | some .glitch => glitchEnded r.coveredStop s
  | some .disturbance => disturbanceEnded s
  | some .breakRun => breakEnded s
  | some .longBreak => longBreakEnded r.stamp s

/-- A break or a long break is the start of another transmission, where it is not the end of this station's own break. -/
def State.overBreak (s : State) (c : Option RunClass) : Bool :=
  s.runMoves && (c == some .breakRun || c == some .longBreak)

/-- The transmit side at a run's end. Where this station's break ends, its frame goes on, or a long break has overtaken it
(R13). Any other break or long break ends a transmission that no outcome has reached: its frame stays in place, and no later
frame is taken for it (R30; the model's choice, notes/assumptions/13.md). -/
def ownBreakEnded (c : Option RunClass) (s : State) : State :=
  match s.transmitter with
  | .frame chars true =>
    if c = some .longBreak then leaveLine { s with transmitter := .idle } else { s with transmitter := .frame chars false }
  | .frame _ false => if s.overBreak c then leaveLine { s with transmitter := .idle } else s
  | .idle | .stopCall _ _ => if s.overBreak c ∧ s.fe.heldOutcome.isNone then leaveLine s else s

def dominantRunEnd (r : Run) (s : State) : State :=
  if s.line.rx = .off then s
  else
    let c := s.runClass r
    let long : Bool := c == some .longBreak
    let s := runEffect r c (ownBreakEnded c (lineBusy s))
    resolveFailed long (resolveHeld long (s.mapLine fun l => { l with slotRun := false }))

/-! ## Line free (R12, R20, R27, R28, R42) -/

/-- The transmit side at line free. A transmission that no outcome has reached is over: its frame stays in place (R30,
notes/assumptions/13.md). A bit error or a veto still held is resolved: 12 recessive bit-times lie behind the run that it
was held for, which was no long break of its own (R26, R47; the model's choice, DESIGN CHOICE,
notes/assumptions/65.md). -/
def endSending (s : State) : State :=
  match s.transmitter with
  | .frame _ _ => leaveLine { s with transmitter := .idle }
  | .idle => if s.fe.heldOutcome.isSome then resolveHeld false s else leaveLine s
  | .stopCall _ _ => s

/-- The receive side at line free: a frame before its check point is abandoned, and a watch ends (R27, R28). -/
def frameGap (s : State) : State :=
  let s := if s.fe.rxState.receiving || s.fe.rxState == .watch then clearFrame s else s
  s.mapFe fun f => { f with watch := none }

/-- The receiver at line free (R12). -/
def receiverFree (s : State) : State :=
  match s.line.rx with
  | .awaitSync | .frame | .settling => setRx .idle s
  | _ => s

/-- The line raises line free from this receiver state (R12): its timer runs, outside a veto slot. -/
def State.freeCounts (s : State) : Bool :=
  match s.line.rx with
  | .off | .loopback | .slot => false
  | .settling | .idle | .awaitSync | .sync | .frame | .ignore | .faultListen => true

def lineFree (s : State) : State :=
  if s.freeCounts ∧ !s.line.free then
    let s := s.mapLine fun l => { l with free := true, freeTimer := 12 }
    let s := receiverFree (frameGap (endSending s))
    let s := s.mapLine fun l => { l with offer := s.txHead.isSome && l.rx != .faultListen }
    matcherLineFree s
  else s

/-! ## The watch's expected end (R28) -/

def watchExpectedEnd (s : State) : State :=
  match s.fe.watch with
  | some w =>
    if w.lengthUs ≤ elapsed w.stamp s.now then
      setDoubtful (s.mapFe fun f => { f with watch := none, rxState := .none })
    else s
  | none => s

/-! ## Transmission (R13, R17, R31, R50, R98) -/

/-- The data of a frame as its transmission begins (R50, R98, Formats 13.2). -/
def State.frameData (s : State) (p : Payload) : List Byte :=
  match p with
  | .roll =>
    rollData s.role s.synced s.pool.generation s.pool.digest s.familyDigest
      (conditionCode (s.condition .h0)) (conditionCode (s.condition .h1)) s.stop.latch
  | .imageAsk => []
  | .imagePart k => (s.image.buffer.map fun b => imagePartData b k).getD []
  | .pool f => f.data

/-- The header characters as the transmission begins (R17). -/
def State.frameHeader (s : State) (p : Payload) (data : List Byte) : List Byte :=
  [p.kind.h0, h1Byte s.role s.synced s.fe.doubtful s.station, BitVec.ofNat 8 data.length]

/-- The characters of a frame after its delimiter: sync, header, data and check (R3, R17, R18). -/
def State.frameChars (s : State) (p : Payload) : List WireChar :=
  let data := s.frameData p
  let header := s.frameHeader p data
  ([0xAA#8] ++ header).map (fun b => (⟨b, true⟩ : WireChar))
    ++ (data ++ be16 (crc16 (header ++ data))).map fun b => (⟨b, false⟩ : WireChar)

/-- The frame is about to be offered: the consumers take every waiting item first for a ROLL, for a part 0 offered for
its first transmission, and for a later part (R50, R98). -/
def State.catchesUp (s : State) (p : Payload) : Bool :=
  match p with
  | .roll => true
  | .imagePart k => k != 0 || s.image.responder == .queued
  | .imageAsk | .pool _ => false

def catchUp (s : State) : State :=
  match s.txHead with
  | some e => if s.catchesUp e.payload then drain s else s
  | none => s

/-- A part 0 that takes its image as it starts (R98). -/
def takeBuffer (p : Payload) (s : State) : State :=
  match p with
  | .imagePart 0 => fillImageBuffer s
  | _ => s

/-- The head is driven onto the line: its break begins (R13). -/
def driveFrame (p : Payload) (s : State) : State :=
  let s := takeBuffer p s
  let s := s.mapFe fun f =>
    { f with txQueue := changeFirst f.eligible (fun e => { e with onLine := true }) f.txQueue }
  lineBusy { s with transmitter := .frame (s.frameChars p) true }

/-- The transmitter may start (R13, R31). -/
def State.mayTransmit (s : State) : Bool :=
  s.line.free && s.transmitter == .idle && s.lineEntry.isNone && !s.lineFault
    && (s.line.offer || s.line.rx == .idle)

/-- A transmission starts (R13). The catch-up before a ROLL or an image part can make another frame the head, a pool frame
that was not eligible or an IMAGE_ASK: the head is read again, and the frame that is the head then goes out
(notes/assumptions/49.md). -/
def transmitStart (dominantSeen : Bool) (s : State) : State :=
  if dominantSeen then lineBusy s
  else if s.mayTransmit then
    let s := catchUp s
    match s.txHead with
    | some e => driveFrame e.payload s
    | none => s
  else s

/-- A long break has overtaken a start (R13). -/
def transmitOvertaken (s : State) : State :=
  match s.transmitter with
  | .frame _ true => leaveLine { s with transmitter := .idle }
  | .frame _ false | .idle | .stopCall _ _ => s

/-! ## Readback (R14, R29, R42, R47) -/

/-- Arbitration is lost (R29). -/
def arbitrationLost (s : State) : State :=
  leaveLine ({ s with transmitter := .idle }.count fun c => { c with arbLosses := satInc c.arbLosses })

/-- A bit error (R14, R47): one read dominant is held until its dominant run is classed. Where that run ends at the sample
that decides the bit, and DOMINANT_RUN_END is the command given first, the outcome is held to the end of the next run or to
line free, whichever comes first: the model's choice, DESIGN CHOICE (notes/assumptions/65.md). -/
def bitError (sentRecessive : Bool) (s : State) : State :=
  let s := { s with transmitter := .idle }
  if sentRecessive then s.mapFe fun f => { f with heldOutcome := some .bitError } else attemptMade s

/-- A mismatch in a part of a frame (R14). -/
def frameMismatch (part : FramePart) (sentRecessive : Bool) (s : State) : State :=
  match part with
  | .vetoSlot => s
  | .arbitrationData => if sentRecessive then arbitrationLost s else bitError false s
  | .breakPart | .delimiter | .sync | .arbitrationFraming | .body => bitError sentRecessive s

/-- The first mismatch of a stop call's sending (R42). -/
def stopMismatch (part : StopPart) (chars : List WireChar) (s : State) : State :=
  match part with
  | .sender | .complement => { s with transmitter := .stopCall chars true }
  | .longBreak | .delimiter | .sync | .cellCode =>
    { s with transmitter := .idle }.mapStop fun u =>
      match u.requests with
      | r :: rs => { u with requests := { r with awaiting := true } :: rs }
      | [] => u

/-- A mismatch of the looped test frame: the transmitter sends nothing more of it, and no counter rises (R14, R15). -/
def loopMismatch (place : ReadbackPlace) (s : State) : State :=
  match place, s.transmitter with
  | .frame .vetoSlot, _ => s
  | .frame _, .frame _ _ => { s with transmitter := .idle }
  | _, _ => s

/-- A readback mismatch (R14), of a transmission on the line or of the looped test frame (R15). -/
def readbackMismatch (place : ReadbackPlace) (sentRecessive : Bool) (s : State) : State :=
  if s.line.loopInternal then loopMismatch place s else
  match place, s.transmitter with
  | .frame part, .frame _ _ => frameMismatch part sentRecessive s
  | .stopCall part, .stopCall chars late => if late then s else stopMismatch part chars s
  | _, _ => s

/-! ## Held requests (R32) -/

/-- A block without a held request submits what waits for it (R32, R148, R168). -/
def afterAdmission (o : Origin) (s : State) : State :=
  match o with
  | .storeUnit => storePump s
  | .headUnit h =>
    if (s.head h).reportRetry.isSome then declareRetry h s else declareRetry h (submitReport h s)
  | .imageUnit =>
    match s.image.deferred with
    | some p =>
      let r := submitImage p (s.mapImage fun u => { u with deferred := none })
      if r.2 then endTransfer r.1 else r.1
    | none => s
  | .peerTable | .swapUnit _ => s

def heldRequestAdmit (s : State) : State :=
  let r := admitHeld s
  match r.2 with
  | some (o, p, res) =>
    afterAdmission o (if res = .notSent then deliverNotSent (some (o, p)) r.1 else r.1)
  | none => s

/-! ## The roll timer (R49) -/

/-- A ROLL is submitted; answered *not sent* at once it leaves the timer stopped (R49). -/
def submitRoll (s : State) : State := (submit .peerTable .roll s).1

def rollTimerExpire (s : State) : State :=
  match s.peers.rollTimer with
  | some t => if t.due s.now then submitRoll (s.mapPeers fun p => { p with rollTimer := none }) else s
  | none => s

/-! ## The commands -/

/-- SYNC_CHARACTER (R10). -/
def execSyncCharacter (start : Option SyncStart) (measure : Option SyncMeasure) (s : State) :
    Host.Outcome State Fault Refusal := .next (syncCharacter start measure s)

/-- SYNC_TIMEOUT (R10). -/
def execSyncTimeout (s : State) : Host.Outcome State Fault Refusal := .next (syncTimeout s)

/-- FRAME_PATH_CHARACTER (R11). -/
def execFramePathCharacter (c : CharSamples) (s : State) : Host.Outcome State Fault Refusal :=
  .next (framePathCharacter c s)

/-- DOMINANT_RUN_END (R7). -/
def execDominantRunEnd (r : Run) (s : State) : Host.Outcome State Fault Refusal := .next (dominantRunEnd r s)

/-- LINE_FREE (R12). -/
def execLineFree (s : State) : Host.Outcome State Fault Refusal := .next (lineFree s)

/-- VETO_SLOT_END (R25). -/
def execVetoSlotEnd (bits : List Slot3) (runGoing : Bool) (s : State) : Host.Outcome State Fault Refusal :=
  .next (vetoSlotEnd bits runGoing s)

/-- WATCH_EXPECTED_END (R28). -/
def execWatchExpectedEnd (s : State) : Host.Outcome State Fault Refusal := .next (watchExpectedEnd s)

/-- TRANSMIT_START (R13). -/
def execTransmitStart (dominantSeen : Bool) (s : State) : Host.Outcome State Fault Refusal :=
  .next (transmitStart dominantSeen s)

/-- TRANSMIT_OVERTAKEN (R13). -/
def execTransmitOvertaken (s : State) : Host.Outcome State Fault Refusal := .next (transmitOvertaken s)

/-- READBACK_MISMATCH (R14). -/
def execReadbackMismatch (place : ReadbackPlace) (sentRecessive : Bool) (s : State) :
    Host.Outcome State Fault Refusal := .next (readbackMismatch place sentRecessive s)

/-- HELD_REQUEST_ADMIT (R32). -/
def execHeldRequestAdmit (s : State) : Host.Outcome State Fault Refusal := .next (heldRequestAdmit s)

/-- ROLL_TIMER_EXPIRE (R49). -/
def execRollTimerExpire (s : State) : Host.Outcome State Fault Refusal := .next (rollTimerExpire s)

end Sys2Proof.Machine
end

