-- ==== Sys2Proof/Machine/Service.lean ====
section
/-! DEFINITION. The service port (12.6): transactions, where each command is allowed, and the commands (R192, R193,
R201, R202). -/
namespace Sys2Proof.Machine
open State Sys2Proof.Config

/-! ## Transactions (R201) -/

/-- The modes of R201's table; none while the part is held in reset, when the port answers nothing (R195). -/
inductive ServiceMode where
  | none
  | commissioning
  | run
  | configFault
  deriving DecidableEq, Repr

def State.serviceMode (s : State) : ServiceMode :=
  match s.phase with
  | .held => .none
  | .commissioning => .commissioning
  | .selfTest | .live => .run
  | .configFault => .configFault

/-- An earlier command is still being carried out (R201). -/
def State.serviceBusy (s : State) : Bool :=
  s.service.waiting.isSome ||
    (match s.life.engine with
     | .configErase _ | .configProgram _ _ | .dataErase _ _ => true
     | .idle | .erasing _ _ | .programming _ _ _ | .marking _ _ => false)

/-- SP_SEL has risen: the answer is given up, also that of a command still being carried out (R201). -/
def transactionEnd (s : State) : State :=
  let busy := s.serviceBusy
  s.mapService fun v =>
    { v with selected := false, answer := [], answerLost := v.answerLost || (busy && v.selected) }

/-- A transaction begins: SP_SEL has fallen, after it rose where an earlier one stood. -/
def beginTransaction (s : State) : State :=
  (if s.service.selected then transactionEnd s else s).mapService fun v => { v with selected := true, answer := [] }

/-- The answer of a command that is answered at once. -/
def answerNow (bytes : List Byte) (s : State) : State := s.mapService fun v => { v with answer := bytes }

def refuse (s : State) : State := answerNow [statusRefused] s

/-- A command with its arguments complete (R201): nothing in reset, BUSY while an earlier command is carried out, and
REFUSED where it is not allowed. -/
def command (allowed : State → Bool) (run : State → State) (s : State) : State :=
  if s.serviceMode = .none then s
  else
    let s := beginTransaction s
    if s.serviceBusy then answerNow [statusBusy] s else if allowed s then run s else refuse s

/-- What a byte that the host clocks out reads as (R201): nothing from the part while SP_DO is released, a byte, or one the
manual does not give, behind the answer or before the arguments are complete. -/
inductive SpByte where
  | released
  | byte (b : Byte)
  | unstated
  deriving DecidableEq, Repr

/-- The byte every byte reads as while a command is being carried out (Formats 13.6). -/
def waitByte : Byte := 0xFF

/-- What the `n`-th byte clocked out from here reads as: SP_DO is driven only while SP_SEL is low, with the wait byte while
the command is being carried out, and then with its answer (R195, R201, Formats 13.6). -/
def State.spDo (n : Nat) (s : State) : SpByte :=
  if !s.service.selected then .released
  else
    match s.service.answer[n]? with
    | some b => .byte b
    | none => if s.service.answer = [] ∧ s.serviceBusy then .byte waitByte else .unstated

def commissioningOnly (s : State) : Bool := s.serviceMode == .commissioning
def runOnly (s : State) : Bool := s.serviceMode == .run
def notCommissioning (s : State) : Bool := s.serviceMode == .run || s.serviceMode == .configFault

/-- A commit of the journal is in flight (R201). -/
def State.commitInFlight (s : State) : Bool :=
  match s.life.engine with
  | .erasing _ _ | .programming _ _ _ | .marking _ _ => true
  | .idle | .configErase _ | .configProgram _ _ | .dataErase _ _ => false

/-- A read: it waits while a commit is in flight (R201). -/
def runRead (r : ServiceRead) (s : State) : State :=
  if s.commitInFlight then s.mapService fun v => { v with waiting := some r }
  else
    let s := tellRead r s
    answerNow (statusDone :: readAnswer r s) s

/-! ## The staging buffer (R192) -/

/-- One byte loaded at the write pointer (R192). -/
def loadByte (l : LifeStore) (b : Byte) : LifeStore :=
  { l with buffer := l.buffer.set l.pointer b, pointer := min 127 (l.pointer + 1) }

def loadBytes (bytes : List Byte) (s : State) : State :=
  answerNow [statusDone] (s.mapLife fun l => bytes.foldl loadByte l)

/-- LOAD's count is 1 to 128 (Formats 13.6). -/
def loadAllowed (count : Byte) (s : State) : Bool :=
  commissioningOnly s && decide (1 ≤ count.toNat) && decide (count.toNat ≤ 128)

/-- LOAD: a transaction that has not carried all its bytes has no effect yet (R201). -/
def loadCommand (count : Byte) (bytes : List Byte) (s : State) : State :=
  command (loadAllowed count)
    (fun s => if bytes.length < count.toNat then s else loadBytes (bytes.take count.toNat) s) s

def clearCommand (s : State) : State :=
  command commissioningOnly (fun s => answerNow [statusDone] (clearBuffer s)) s

/-! ## COMMIT_CONFIG and ERASE_DATA (R193) -/

/-- The engine takes the read that ends its present step: an erase's blank check, or a programming's verify. -/
def engineRead (content : List Byte) (s : State) : State :=
  match s.life.engine with
  | .configErase _ | .dataErase _ _ => eraseDone content s
  | .configProgram _ _ => programDone content s
  | .idle | .erasing _ _ | .programming _ _ _ | .marking _ _ => s

/-- The reads of the engine's steps in turn (notes/assumptions/14.md). -/
def engineReads (reads : List (List Byte)) (s : State) : State := reads.foldl (fun s r => engineRead r s) s

def commitConfig (page : Byte) (reads : List (List Byte)) (s : State) : State :=
  command (fun s => commissioningOnly s && decide (page.toNat ≤ 3))
    (fun s => engineReads reads (setEngine (.configErase page.toNat) s)) s

def eraseData (reads : List (List Byte)) (s : State) : State :=
  command commissioningOnly (fun s => engineReads reads (setEngine (.dataErase 4 0) s)) s

/-! ## The commands -/

/-- LOAD (R192). -/
def execLoad (count : Byte) (bytes : List Byte) (s : State) : Host.Outcome State Fault Refusal :=
  .next (loadCommand count bytes s)

/-- CLEAR (R192). -/
def execClear (s : State) : Host.Outcome State Fault Refusal := .next (clearCommand s)

/-- COMMIT_CONFIG (R193). -/
def execCommitConfig (page : Byte) (reads : List (List Byte)) (s : State) : Host.Outcome State Fault Refusal :=
  .next (commitConfig page reads s)

/-- ERASE_DATA (R193). -/
def execEraseData (reads : List (List Byte)) (s : State) : Host.Outcome State Fault Refusal :=
  .next (eraseData reads s)

/-- READ_PAGE (R193): in every mode. -/
def execReadPage (page : Byte) (s : State) : Host.Outcome State Fault Refusal :=
  .next (command (fun _ => decide (page.toNat ≤ 63)) (runRead (.page page.toNat)) s)

/-- The head a READ_HEAD names, at a grinder in run mode (R201). -/
def readHeadAllowed (head : Byte) (s : State) : Bool := runOnly s && !s.isStore && decide (head.toNat ≤ 1)

/-- READ_HEAD (R202), with the LOAD and DRESS levels of the moment the read is taken. -/
def execReadHead (head : Byte) (load dress : Bool) (s : State) : Host.Outcome State Fault Refusal :=
  .next (command (readHeadAllowed head) (runRead (.head (Head.ofBit (head == 1)) load dress)) s)

/-- READ_POOL (R202). -/
def execReadPool (position : Byte) (s : State) : Host.Outcome State Fault Refusal :=
  .next (command (fun s => runOnly s && decide (position.toNat ≤ 63)) (runRead (.pool position.toNat)) s)

/-- READ_PEER (R202). -/
def execReadPeer (position : Byte) (s : State) : Host.Outcome State Fault Refusal :=
  .next (command (fun s => runOnly s && decide (position.toNat ≤ 15)) (runRead (.peer position.toNat)) s)

/-- READ_COUNTERS (R202). -/
def execReadCounters (s : State) : Host.Outcome State Fault Refusal :=
  .next (command notCommissioning (runRead .counters) s)

/-- UNDEFINED_COMMAND (R201): answered REFUSED with no effect. -/
def execUndefinedCommand (_c : Byte) (s : State) : Host.Outcome State Fault Refusal :=
  .next (command (fun _ => false) (fun s => s) s)

/-- TRANSACTION_END (R201). -/
def execTransactionEnd (s : State) : Host.Outcome State Fault Refusal := .next (transactionEnd s)

end Sys2Proof.Machine
end

