-- ==== Sys2Proof/Machine/StartUp.lean ====
section
/-! DEFINITION. Reset and start-up (12.1 to 12.3, R15, R16, R133). -/
namespace Sys2Proof.Machine
open State Sys2Proof.Config

/-! ## Reset (R195) -/

/-- Every volatile state takes its reset value; the pages keep their contents, apart from one whose write was cut off
(R191, R195). The queue of waiting commands is not the part's. -/
def resetPart (s : State) : State :=
  let p := pagesAfterReset s.life s.freeCounter
  { State.reset with pending := s.pending, life := LifeStore.afterReset p.1, freeCounter := p.2 }

/-! ## Restore (R133) -/

/-- The working record and the need of a checkpoint that a stored record gives (R133). -/
def restoredRecord (fams : List Family) (r : StoredRecord) : Option HeadRecord × Bool :=
  match r with
  | .noWheel => (none, false)
  | .invalid => (none, true)
  | .wheel r =>
    if r.condition.working then (some (r.evaluated fams), (r.evaluated fams).condition != r.condition)
    else (some r, false)

/-- The stored record of a logical id, from its current copy (R133). -/
def LifeStore.storedRecord (l : LifeStore) (id : Nat) : StoredRecord :=
  match l.currentPage id with
  | some p => parseRecord (pageBody id (Memory.readPage l.pages p))
  | none => .noWheel

/-- A head unit takes its record (R133); restored BROKEN, its breakage report is DUE with reason CRASH (R148). -/
def restoreHead (h : Head) (s : State) : State :=
  let r := restoredRecord s.families (s.life.storedRecord (headId h))
  let s := s.mapHead h fun u =>
    { u with record := r.1
             report := if r.1.any fun x => x.condition == .broken then .due else .none
             reportReason := quarantineCrash }
  if r.2 then requestCheckpoint (headId h) s else s

/-- The restore step, in the grinder role (R196 step 5). -/
def restore (s : State) : State := if s.isStore then s else restoreHead .h1 (restoreHead .h0 s)

/-! ## Live (R196 step 8) -/

/-- The input levels that the role reads (R198). -/
def roleLevels (store : Bool) (l : InputLevels) : InputLevels :=
  if store then { l with heads := ⟨HeadLevels.low, HeadLevels.low⟩ }
  else { l with gantryReady := false, gantryDone := false, gantryFault := false }

/-- A DRESS level that is high as a head becomes live is no rising edge (R120). -/
def takeDress (levels : InputLevels) (h : Head) (s : State) : State :=
  s.mapHead h fun u => { u with dressRisen := (levels.heads.get h).dress }

def goLive (levels : InputLevels) (s : State) : State :=
  let l := roleLevels s.isStore levels
  takeDress l .h1 (takeDress l .h0 { s with phase := .live, levels := l })

/-! ## The self-test (R15) -/

/-- The loopback self-test begins: the test ROLL is sent over the internal loop (R15). -/
def selfTest (s : State) : State :=
  { s with phase := .selfTest
           line := { s.line with rx := .loopback, loopInternal := true, loop := .awaitSync }
           transmitter := .frame (s.frameChars .roll) false }

/-- The transmitter sends the test frame, or has sent it: no mismatch has ended it (R14, R15). -/
def State.sendsTest (s : State) : Bool :=
  match s.transmitter with
  | .frame _ _ => true
  | .idle | .stopCall _ _ => false

/-- The test passes (R15): the receiver has taken the looped frame up to its second check character with a good sync and no
framing mark, its check fits, the readback comparator has found no mismatch, and it came in time. -/
def loopbackPasses (bitTimes : Nat) (s : State) : Bool :=
  s.loopsAt (.checked true) && s.sendsTest && decide (bitTimes ≤ 700)

/-- The line is started (R196 step 7). -/
def lineStart (s : State) : State :=
  let s := { s with transmitter := .idle
                    line := { s.line with rx := .settling, loopInternal := false, loop := .awaitSync, bitTime := 128 } }
  submitRoll (s.mapImage fun u => { u with askTimer := some (s.timer (2 * s.rollInterval)) })

/-- The self-test ends, and start-up is completed (R15, R196 steps 7 and 8). -/
def loopbackSelfTestEnd (bitTimes : Nat) (levels : InputLevels) (s : State) : State :=
  if s.phase = .selfTest then goLive levels (if loopbackPasses bitTimes s then lineStart s else enterLineFault s) else s

/-! ## Start-up (R194, R196, R197) -/

/-- Steps 4 to 6, with 7 and 8 where the station number takes the station into LINE_FAULT (R16, R196). -/
def runStartUp (c : Configuration) (levels : InputLevels) (s : State) : State :=
  let s := { s with constants := c.constants, families := c.families, familyDigest := c.familyDigest }
  let s := restore (scan s)
  if s.straps.stn = 0 ∨ s.straps.stn = 31 then goLive levels (enterLineFault s) else selfTest s

/-- Start-up from the straps (R196): commissioning mode, CONFIG_FAULT, or run mode. -/
def startUp (straps : Straps) (levels : InputLevels) (s : State) : State :=
  if s.phase = .held then
    let s := { s with straps := straps }
    match straps.commission, checkConfiguration s.life.pages with
    | true, c => { s with phase := .commissioning, configBad := c.isNone }
    | false, none => { s with phase := .configFault, configBad := true }
    | false, some c => runStartUp c levels s
  else s

/-- RESET (R195). -/
def execReset (s : State) : Host.Outcome State Fault Refusal := .next (resetPart s)

/-- START_UP (R196). -/
def execStartUp (straps : Straps) (levels : InputLevels) (s : State) : Host.Outcome State Fault Refusal :=
  .next (startUp straps levels s)

/-- LOOPBACK_SELF_TEST_END (R15). -/
def execLoopbackSelfTestEnd (bitTimes : Nat) (levels : InputLevels) (s : State) :
    Host.Outcome State Fault Refusal := .next (loopbackSelfTestEnd bitTimes levels s)

end Sys2Proof.Machine
end

