-- ==== Sys2Proof/Machine/SwapCommands.lean ====
section
/-! DEFINITION. The commands of the swap units (chapter 9): their timers, CHANGE_POS, frame retries and tag records. -/
namespace Sys2Proof.Machine
open State

/-- The claim lifetime has passed (R156). -/
def claimLifetimeExpire (h : Head) (s : State) : State :=
  let u := s.swap h
  match u.lifetime with
  | some t =>
    if u.state = .await ∧ s.heldClaimed h ∧ t.due s.now then
      swapWant h .releaseExpired (s.mapSwap h fun x => { x with lifetime := none })
    else s
  | none => s

/-- The backoff timer expires (R155). -/
def backoffExpire (h : Head) (s : State) : State :=
  match (s.swap h).backoff with
  | some t => if t.due s.now then endBackoff h s else s
  | none => s

/-- CHANGE_POS rises (R158). -/
def changePosRise (h : Head) (s : State) : State :=
  let s := s.mapLevels h fun l => { l with changePos := true }
  if (s.swap h).state = .delivered then startWindow h s else s

/-- The confirm window expires (R161). -/
def confirmWindowExpire (h : Head) (s : State) : State :=
  let u := s.swap h
  match u.window with
  | .running t =>
    if u.state = .confirming ∧ t.due s.now then
      swapWant h .releaseWindow
        (s.mapSwap h fun x => { x with window := .expired, attempts := min 3 (x.attempts + 1) })
    else s
  | .stopped | .expired => s

/-- A frame submitted again: at once, or when the outstanding one has ended, and a MOUNT when the breakage report is settled
(R152, R162). -/
def swapSubmitAgain (h : Head) (r : SwapRetry) (s : State) : State :=
  let w := Want.again r.frame r.sentIn
  if (s.swap h).outstanding.isNone ∧ !s.wantWaits h w then submitRetryable h r.frame s else swapWant h w s

/-- One roll interval after a *not sent* the frame is submitted again (R152). -/
def swapFrameRetry (h : Head) (s : State) : State :=
  match (s.swap h).retries.find? fun r => r.timer.due s.now with
  | some r =>
    if s.synced then
      let s' := s.mapSwap h fun x => { x with retries := x.retries.erase r }
      if (s.swap h).resends r.frame r.sentIn then swapSubmitAgain h r s' else s'
    else s
  | none => s

/-- A waiting tag record taken by the swap unit its head field names (R159). -/
def swapTagRecord (changePos : Bool) (s : State) : State :=
  match s.waitingRecord with
  | some r =>
    let s := releaseRecord s
    if r.kind = tagHeadRead then
      match headOfByte r.place with
      | some h => takeHeadTag h r changePos (s.mapLevels h fun l => { l with changePos := changePos })
      | none => tagIgnored s
    else tagIgnored s
  | none => s

/-- CLAIM_LIFETIME_EXPIRE (R156). -/
def execClaimLifetimeExpire (h : Head) (s : State) : Host.Outcome State Fault Refusal :=
  .next (if s.headsLive then claimLifetimeExpire h s else s)

/-- BACKOFF_EXPIRE (R155). -/
def execBackoffExpire (h : Head) (s : State) : Host.Outcome State Fault Refusal :=
  .next (if s.headsLive then backoffExpire h s else s)

/-- CHANGE_POS_RISE (R158). -/
def execChangePosRise (h : Head) (s : State) : Host.Outcome State Fault Refusal :=
  .next (if s.headsLive then changePosRise h s else s)

/-- CONFIRM_WINDOW_EXPIRE (R161). -/
def execConfirmWindowExpire (h : Head) (s : State) : Host.Outcome State Fault Refusal :=
  .next (if s.headsLive then confirmWindowExpire h s else s)

/-- SWAP_FRAME_RETRY (R152). -/
def execSwapFrameRetry (h : Head) (s : State) : Host.Outcome State Fault Refusal :=
  .next (if s.headsLive then swapFrameRetry h s else s)

/-- SWAP_TAG_RECORD (R159). -/
def execSwapTagRecord (changePos : Bool) (s : State) : Host.Outcome State Fault Refusal :=
  .next (if s.headsLive then swapTagRecord changePos s else s)

end Sys2Proof.Machine
end

