-- ==== Sys2Proof/Machine/Dispatch.lean ====
section
/-! DEFINITION. The meaning of each command: one arm per constructor of `Instr`. -/
namespace Sys2Proof.Machine

def exec (i : Instr) (s : State) : Host.Outcome State Fault Refusal :=
  match i with
  | .reset => Sys2Proof.Machine.execReset s
  | .startUp straps levels => Sys2Proof.Machine.execStartUp straps levels s
  | .loopbackSelfTestEnd bitTimes levels => Sys2Proof.Machine.execLoopbackSelfTestEnd bitTimes levels s
  | .syncCharacter start measure => Sys2Proof.Machine.execSyncCharacter start measure s
  | .syncTimeout => Sys2Proof.Machine.execSyncTimeout s
  | .framePathCharacter c => Sys2Proof.Machine.execFramePathCharacter c s
  | .dominantRunEnd run => Sys2Proof.Machine.execDominantRunEnd run s
  | .lineFree => Sys2Proof.Machine.execLineFree s
  | .vetoSlotEnd bits runGoing => Sys2Proof.Machine.execVetoSlotEnd bits runGoing s
  | .watchExpectedEnd => Sys2Proof.Machine.execWatchExpectedEnd s
  | .transmitStart dominantSeen => Sys2Proof.Machine.execTransmitStart dominantSeen s
  | .transmitOvertaken => Sys2Proof.Machine.execTransmitOvertaken s
  | .readbackMismatch place sentRecessive => Sys2Proof.Machine.execReadbackMismatch place sentRecessive s
  | .heldRequestAdmit => Sys2Proof.Machine.execHeldRequestAdmit s
  | .stopCallSendComplete => Sys2Proof.Machine.execStopCallSendComplete s
  | .stopCharacter c => Sys2Proof.Machine.execStopCharacter c s
  | .rollTimerExpire => Sys2Proof.Machine.execRollTimerExpire s
  | .roll => Sys2Proof.Machine.execRoll s
  | .peerItem => Sys2Proof.Machine.execPeerItem s
  | .peerSilenceTimeout station => Sys2Proof.Machine.execPeerSilenceTimeout station s
  | .disagreementRecordExpire => Sys2Proof.Machine.execDisagreementRecordExpire s
  | .enter => Sys2Proof.Machine.execEnter s
  | .claim => Sys2Proof.Machine.execClaim s
  | .dispatch => Sys2Proof.Machine.execDispatch s
  | .deliver => Sys2Proof.Machine.execDeliver s
  | .mount => Sys2Proof.Machine.execMount s
  | .declare => Sys2Proof.Machine.execDeclare s
  | .release => Sys2Proof.Machine.execRelease s
  | .quarantine => Sys2Proof.Machine.execQuarantine s
  | .rack => Sys2Proof.Machine.execRack s
  | .remove => Sys2Proof.Machine.execRemove s
  | .imageAsk => Sys2Proof.Machine.execImageAsk s
  | .imagePart => Sys2Proof.Machine.execImagePart s
  | .askTimerExpire => Sys2Proof.Machine.execAskTimerExpire s
  | .imageWatchExpire => Sys2Proof.Machine.execImageWatchExpire s
  | .dressStroke h fell => Sys2Proof.Machine.execDressStroke h s fell
  | .grindRise h => Sys2Proof.Machine.execGrindRise h s
  | .grindFall h => Sys2Proof.Machine.execGrindFall h s
  | .ackEvent fell => Sys2Proof.Machine.execAckEvent s fell
  | .contactRise h => Sys2Proof.Machine.execContactRise h s
  | .contactFall h => Sys2Proof.Machine.execContactFall h s
  | .maximumContactTimerExpire h => Sys2Proof.Machine.execMaximumContactTimerExpire h s
  | .contactTimeoutExpire h => Sys2Proof.Machine.execContactTimeoutExpire h s
  | .loadPulse h => Sys2Proof.Machine.execLoadPulse h s
  | .loadGateEnd h => Sys2Proof.Machine.execLoadGateEnd h s
  | .breakageReportRetry h => Sys2Proof.Machine.execBreakageReportRetry h s
  | .reconciliationDeclareRetry h => Sys2Proof.Machine.execReconciliationDeclareRetry h s
  | .claimLifetimeExpire h => Sys2Proof.Machine.execClaimLifetimeExpire h s
  | .backoffExpire h => Sys2Proof.Machine.execBackoffExpire h s
  | .changePosRise h => Sys2Proof.Machine.execChangePosRise h s
  | .confirmWindowExpire h => Sys2Proof.Machine.execConfirmWindowExpire h s
  | .swapFrameRetry h => Sys2Proof.Machine.execSwapFrameRetry h s
  | .swapTagRecord changePos => Sys2Proof.Machine.execSwapTagRecord changePos s
  | .tagByte b framingError => Sys2Proof.Machine.execTagByte b framingError s
  | .tagGapTimeout => Sys2Proof.Machine.execTagGapTimeout s
  | .storeTagRecord => Sys2Proof.Machine.execStoreTagRecord s
  | .jobStart ready => Sys2Proof.Machine.execJobStart ready s
  | .jobStrobeEnd ready => Sys2Proof.Machine.execJobStrobeEnd ready s
  | .gantryReadyRise => Sys2Proof.Machine.execGantryReadyRise s
  | .gantryDone ready => Sys2Proof.Machine.execGantryDone ready s
  | .gantryFault ready => Sys2Proof.Machine.execGantryFault ready s
  | .claimWatchExpire serial => Sys2Proof.Machine.execClaimWatchExpire serial s
  | .storeFrameRetry => Sys2Proof.Machine.execStoreFrameRetry s
  | .commitStart => Sys2Proof.Machine.execCommitStart s
  | .pageEraseDone content => Sys2Proof.Machine.execPageEraseDone content s
  | .pageProgramDone content => Sys2Proof.Machine.execPageProgramDone content s
  | .commitMarkDone mark => Sys2Proof.Machine.execCommitMarkDone mark s
  | .load count bytes => Sys2Proof.Machine.execLoad count bytes s
  | .clear => Sys2Proof.Machine.execClear s
  | .commitConfig page reads => Sys2Proof.Machine.execCommitConfig page reads s
  | .eraseData reads => Sys2Proof.Machine.execEraseData reads s
  | .readPage page => Sys2Proof.Machine.execReadPage page s
  | .readHead head load dress => Sys2Proof.Machine.execReadHead head load dress s
  | .readPool position => Sys2Proof.Machine.execReadPool position s
  | .readPeer position => Sys2Proof.Machine.execReadPeer position s
  | .readCounters => Sys2Proof.Machine.execReadCounters s
  | .undefinedCommand command => Sys2Proof.Machine.execUndefinedCommand command s
  | .transactionEnd => Sys2Proof.Machine.execTransactionEnd s

end Sys2Proof.Machine
end

