-- ==== Sys2Proof/Machine/Step.lean ====
section
/-! DEFINITION. One step: the command at the front of the queue, or a microsecond of the time base on an empty queue. -/
namespace Sys2Proof.Machine

/-- One microsecond passes: the time base counts, except while the part is held in reset (00_scope 4.1, R195,
notes/assumptions/1.md). -/
def State.tick (s : State) : State :=
  match s.phase with
  | .held => s
  | .selfTest | .live | .commissioning | .configFault => { s with timeBase := s.timeBase + 1 }

/-- One step: the command at the front of the queue acts on the state with the queue's rest; an empty queue lets time
pass. -/
def step (s : State) : Host.Outcome State Fault Refusal :=
  match s.pending with
  | [] => .next s.tick
  | c :: cs => exec c { s with pending := cs }

/-- The state with the command that a word spells at the front of its queue; unchanged where the word spells none. -/
def State.withFetchWord (s : State) (nbits w : Nat) : State :=
  match Sys2Proof.decodeTableWord nbits w with
  | some c => { s with pending := c :: s.pending }
  | none => s

end Sys2Proof.Machine
end

