-- ==== Sys2Proof/Safety.lean ====
section
/-! DEFINITION. What the manual says always holds of a station's state (the laws of the pool table, the bounds of the
queues, the digest, the canonical form of the pages), and what a command of one block leaves as it is. -/
namespace Sys2Proof.Machine
open Sys2Proof.Config

/-! ## The pool table (R62, R64) -/

/-- Two entries differ where R62 and R64 let no two agree: in serial and in slot, in the head a wheel is MOUNTED on, and in
the head a wheel is on its way to. -/
def Entry.apart (a b : Entry) : Prop :=
  a.serial ≠ b.serial ∧ (a.slot.isSome → a.slot ≠ b.slot)
    ∧ (a.state = .mounted → b.state = .mounted → ∀ st h, ¬(a.heldAt st h = true ∧ b.heldAt st h = true))
    ∧ (a.onTheWay = true → b.onTheWay = true → ∀ st h, ¬(a.heldAt st h = true ∧ b.heldAt st h = true))

/-- One entry by itself: a position and a slot in range, a serial, and the optional fields of its state. -/
def Entry.sound (e : Entry) : Prop :=
  e.pos < poolCapacity ∧ e.serial ≠ 0 ∧ (∀ n, e.slot = some n → n.toNat < slotCount) ∧ e.agrees = true

/-- The laws of a pool table: sound entries in ascending position, no two of which claim one thing. -/
def tableLaws (t : Table) : Prop :=
  t.Pairwise (fun a b => a.pos < b.pos) ∧ t.Pairwise Entry.apart ∧ ∀ e ∈ t, e.sound

/-! ## Invariants of a step -/

/-- The transmit queue holds at most 6 frames, the admissions still owed counted in (R31, R32), and the receive queue at
most 4 items (R34). -/
def State.queuesBounded (s : State) : Prop :=
  s.fe.txQueue.length + s.fe.admissionsDue ≤ txCapacity ∧ s.fe.rxQueue.length ≤ rxCapacity

/-- The digest is the one of the table (R66). -/
def State.digestTrue (s : State) : Prop := s.pool.digest = tableDigest s.pool.table

/-- The page that the engine's present step writes is one of the 64. -/
def Engine.inPages : Engine → Bool
  | .idle => true
  | .erasing _ p | .programming _ p _ | .marking _ p | .configErase p | .configProgram p _ | .dataErase p _ =>
    p < pageCount

/-- The pages keep their canonical form, and the engine works on one of them (R181). -/
def State.pagesSound (s : State) : Prop := s.life.pages.wf = true ∧ s.life.engine.inPages = true

/-- The page that the engine's present step writes, if one is under way. -/
def Engine.target : Engine → Option Nat
  | .idle => none
  | .erasing _ p | .programming _ p _ | .marking _ p | .configErase p | .configProgram p _ | .dataErase p _ => some p

/-! ## The order of commits (R186, R187) -/

/-- The id is the one served next (R186): the lowest pending id above the last served one, or the lowest pending id where
there is none above it. -/
def LifeStore.serves (l : LifeStore) (id : Nat) : Prop :=
  id ∈ l.pending
    ∧ if l.lastId < id then ∀ k ∈ l.pending, l.lastId < k → id ≤ k else ∀ k ∈ l.pending, k ≤ l.lastId ∧ id ≤ k

/-- A data page that is neither bad nor holding a current copy (R187). -/
def LifeStore.mayTake (l : LifeStore) (p : Nat) : Prop :=
  4 ≤ p ∧ p ≤ 63 ∧ p ∉ l.badPages ∧ ∀ m ∈ l.map, m.2 ≠ p

/-- The page is the one allocated next (R187): the first after the last written page, going round from 63 to 4. -/
def LifeStore.takes (l : LifeStore) (p : Nat) : Prop :=
  l.mayTake p
    ∧ if l.lastWritten < p then ∀ q, l.mayTake q → l.lastWritten < q → p ≤ q
      else ∀ q, l.mayTake q → q ≤ l.lastWritten ∧ p ≤ q

/-! ## Commands by block -/

/-- The kind of pool frame that a pool command takes. -/
def poolCommandKind : Instr → Option Kind
  | .enter => some .enter
  | .claim => some .claim
  | .dispatch => some .dispatch
  | .deliver => some .deliver
  | .mount => some .mount
  | .declare => some .declare
  | .release => some .release
  | .quarantine => some .quarantine
  | .rack => some .rack
  | .remove => some .remove
  | _ => none

/-- The head of a command of a head unit or of a swap unit. -/
def headCommand : Instr → Option Head
  | .dressStroke h _ | .grindRise h | .grindFall h | .contactRise h | .contactFall h | .maximumContactTimerExpire h
  | .contactTimeoutExpire h | .loadPulse h | .loadGateEnd h | .breakageReportRetry h | .reconciliationDeclareRetry h
  | .claimLifetimeExpire h | .backoffExpire h | .changePosRise h | .confirmWindowExpire h | .swapFrameRetry h => some h
  | _ => none

/-- The commands of the store unit. -/
def isStoreCommand : Instr → Bool
  | .storeTagRecord | .jobStart _ | .jobStrobeEnd _ | .gantryReadyRise | .gantryDone _ | .gantryFault _
  | .claimWatchExpire _ | .storeFrameRetry => true
  | _ => false

/-- The commands that the blocks take once start-up is complete, in either role (R196 step 8). -/
def isLiveCommand : Instr → Bool
  | .roll | .peerItem | .peerSilenceTimeout _ | .disagreementRecordExpire
  | .enter | .claim | .dispatch | .deliver | .mount | .declare | .release | .quarantine | .rack | .remove
  | .imageAsk | .imagePart | .askTimerExpire | .imageWatchExpire | .ackEvent _ | .tagByte _ _ | .tagGapTimeout => true
  | _ => false

/-- The pool engine's next item, with no meeting point ahead of it (R34, R53, R93). -/
def State.nextPoolItem (s : State) (i : RxItem) : Prop :=
  ∃ ahead behind, splitNext (·.forPool) s.fe.rxQueue = some (ahead, i, behind) ∧ poolMayTake s.joining ahead = true

/-! ## Frames -/

/-- What no command of chapters 1 to 10 changes: the clock, the mode, the straps, the configuration, the service port,
and the life store apart from its pending checkpoints. -/
def cellFrame (s t : State) : Prop :=
  t.pending = s.pending ∧ t.timeBase = s.timeBase ∧ t.phase = s.phase ∧ t.straps = s.straps
    ∧ t.configBad = s.configBad ∧ t.constants = s.constants ∧ t.families = s.families
    ∧ t.familyDigest = s.familyDigest ∧ t.service = s.service ∧ t.freeCounter = s.freeCounter
    ∧ t.life = { s.life with pending := t.life.pending }

/-- What no unit of a station changes by itself: all of `cellFrame`, and the line interface, but for a stop call that begins
and makes the line busy (R12, R41), the receive side, the peer table, the pool engine and its refusals. -/
def unitFrame (s t : State) : Prop :=
  cellFrame s t ∧ t.lineFault = s.lineFault
    ∧ (t.line = s.line ∨ t.line = { s.line with free := false, freeTimer := 0, offer := false })
    ∧ t.peers = s.peers ∧ t.pool = s.pool
    ∧ t.counters.refusals = s.counters.refusals
    ∧ t.fe = { s.fe with txQueue := t.fe.txQueue, held := t.fe.held, admissionsDue := t.fe.admissionsDue }

/-- What a command of head `h` leaves: all of `unitFrame`, the other head's units and levels, the store unit and the image
unit. -/
def headFrame (h : Head) (s t : State) : Prop :=
  unitFrame s t ∧ t.store = s.store ∧ t.image = s.image
    ∧ (∀ k, k ≠ h → t.heads.get k = s.heads.get k ∧ t.swaps.get k = s.swaps.get k
        ∧ t.levels.heads.get k = s.levels.heads.get k)
    ∧ t.levels.ack = s.levels.ack

/-- What head unit `h` and swap unit `h` leave where they only tell each other: all of `headFrame`, and the counters, the
levels and the tag port. -/
def quietFrame (h : Head) (s t : State) : Prop :=
  headFrame h s t ∧ t.counters = s.counters ∧ t.levels = s.levels ∧ t.tag = s.tag

/-- What swap unit `h` leaves where it takes no tag record: all of `quietFrame`, and the head units, the stop call unit, the
transmitter and the line interface. -/
def swapFrame (h : Head) (s t : State) : Prop :=
  quietFrame h s t ∧ t.heads = s.heads ∧ t.stop = s.stop ∧ t.transmitter = s.transmitter ∧ t.line = s.line

/-- What a command of the store unit leaves: all of `unitFrame`, the head units, the swap units, the stop call unit, the
transmitter, the line interface and the image unit. -/
def storeFrame (s t : State) : Prop :=
  unitFrame s t ∧ t.heads = s.heads ∧ t.swaps = s.swaps ∧ t.stop = s.stop ∧ t.transmitter = s.transmitter
    ∧ t.line = s.line ∧ t.image = s.image ∧ t.levels.heads = s.levels.heads ∧ t.levels.ack = s.levels.ack

/-- What the store unit leaves where it takes no tag record: all of `storeFrame`, and the counters and the tag port. -/
def depotFrame (s t : State) : Prop := storeFrame s t ∧ t.counters = s.counters ∧ t.tag = s.tag

/-- What a read of the service port leaves: everything but the service port. -/
def serviceFrame (s t : State) : Prop := t = { s with service := t.service }

/-! ## The transmit queue (R30, R33, R47) -/

/-- The transmission on the line is over and its frame stays in place; one withdrawn or purged meanwhile leaves (R30, R33).
No frame received behind it is taken for this station's own. -/
def frameStays (s t : State) : Prop :=
  t.fe.txQueue = ((s.fe.txQueue.filter fun e => !(e.onLine && e.withdrawn)).map fun e => { e with onLine := false })
    ∧ t.ownOnLine = none

/-- The frame on the line keeps its place with an attempt counted (R30), and no outcome is held any more (R47). -/
def attemptCounted (e : TxEntry) (s t : State) : Prop :=
  t.fe.heldOutcome = none
    ∧ ∃ l r, s.fe.txQueue = l ++ e :: r ∧ (∀ x ∈ l, x.onLine = false)
      ∧ t.fe.txQueue = l ++ { e with attempts := e.attempts + 1, onLine := false } :: r

/-! ## DEAF (R37) -/

/-- The IMAGE_ASK of this station stands in the transmit queue, never sent (R94). -/
def State.askQueued (t : State) : Prop := ⟨.imageUnit, .imageAsk, 0, false, false⟩ ∈ t.fe.txQueue

/-- DEAF ends as the last item leaves the receive queue, and the image unit makes an ask where it may (R37, R94). -/
def deafEnds (s t : State) : Prop :=
  t.fe.deaf = false ∧ t.fe.vetoRun = 0 ∧ t.fe.rxQueue = []
    ∧ (s.mayAsk = false → t.pool = s.pool)
    ∧ (s.mayAsk = true → s.lineFault = false → s.fe.held = [] →
        s.fe.txQueue.length + s.fe.admissionsDue < txCapacity →
        t.pool = { s.pool with sync := .joining } ∧ t.askQueued ∧ t.image.askTimer = none
          ∧ t.image.collection = none ∧ t.image.partSinceAsk = false)

/-! ## Pool resync (R105, R108, R148, R166, R179, R180) -/

/-- Swap unit `h` after a pool resync, by its state (R166). Its outstanding frame is forgotten, and with it the frames that
wait for a submission (notes/assumptions/51.md). -/
def swapResynced (h : Head) (s t : State) : Prop :=
  let u : SwapUnit := { s.swap h with outstanding := none, wants := [], retries := [] }
  let family : BitVec 4 :=
    match (s.swap h).outstanding with
    | some ⟨.claim _ f, _, _⟩ => f.setWidth 4
    | _ => s.claimFamily h
  t.swap h =
    match u.state with
    | .claiming =>
      { u with state := .backoff, backoff := some ⟨s.timeBase, 10 * (s.constants.rollIntervalMs * 1000)⟩
               backoffFamily := family, backoffEnded := false }
    | .backoff =>
      { u with tagDeclare := false, backoffEnded := false
               state := if (s.swap h).backoffEnded then .idle else .backoff }
    | .idle => { u with tagDeclare := false }
    | .await | .delivered | .confirming | .mounting =>
      { u with state := .idle, held := none, claimStamp := none, lifetime := none, window := .stopped
               notNeeded := false }
    | .failed => u

/-- Head unit `h` after a pool resync: a reconciliation DECLARE is forgotten (R108), and a report whose outcome is lost is
DUE again, to be submitted at the next entry into SYNCED (R148). -/
def headResynced (h : Head) (s t : State) : Prop :=
  t.head h = { s.head h with
    declare := none
    reportRetry := none
    report := if (s.head h).report = .outstanding then .due else (s.head h).report }

/-- The store unit after a pool resync (R180): its queue, its send list, its claim list and its track scan are empty, the
job in progress goes on by its phase, and the requests for store image pages are withdrawn (R179). -/
def storeResynced (s t : State) : Prop :=
  t.store.queue = [] ∧ t.store.sendList = [] ∧ t.store.claims = [] ∧ t.store.track = none
    ∧ t.store.faultLatch = s.store.faultLatch ∧ t.store.strobe = s.store.strobe
    ∧ t.life.pending = (s.life.pending.filter fun id => id < 16)
    ∧ match s.store.job with
      | none => t.store.job = none ∧ t.store.reservation = s.store.reservation
      | some j =>
        let dropped : Prop := t.store.job = none ∧ t.store.reservation = none ∧ t.store.jobFrame = none
          ∧ t.store.heldCompletion = none
        let goesOn : Prop := t.store.job = some j ∧ t.store.reservation = s.store.reservation
        match j.phase, j.job.kind with
        | .starting, _ | .armed, .fetch => dropped
        | .armed, .ret | .moving, _ => goesOn ∧ t.store.heldCompletion = s.store.heldCompletion
        | .closing, _ =>
          goesOn ∧ t.store.jobFrame = none ∧ t.store.rackWaiting = false
            ∧ t.store.heldCompletion = some (match s.store.heldCompletion, s.store.jobFrame with
                | some c, _ => c
                | none, some ⟨.quarantine _ _ _, _⟩ => .fault
                | none, _ => .done)

/-- The station after a pool resync, whatever its cause (R105): at the pool engine, in the transmit queue (R33), at the peer
table, the image unit, and the units of its role. `asked` says that the image unit may have made an ask behind it, as it
does where the cause is DIVERGENCE (R106). -/
def resynced (asked : Bool) (s t : State) : Prop :=
  t.pool.table = [] ∧ t.pool.generation = 0 ∧ t.pool.digest = 0xFFFF ∧ t.pool.sync ≠ .synced
    ∧ t.pool.headRefusal = s.pool.headRefusal ∧ t.pool.storeRefusal = s.pool.storeRefusal
    ∧ t.fe.doubtful = false ∧ t.peers.disagreement = none
    ∧ (∀ e ∈ t.fe.txQueue, e.payload.isPool = true ∨ e.origin = .imageUnit →
        (e.onLine = true ∧ e.withdrawn = true) ∨ (asked = true ∧ e = ⟨.imageUnit, .imageAsk, 0, false, false⟩))
    ∧ (∀ e ∈ s.fe.txQueue, e.payload.isPool = false → e.origin ≠ .imageUnit → e ∈ t.fe.txQueue)
    ∧ (∀ r ∈ t.fe.held, r.2.isPool = false ∧ (r.1 = .imageUnit → asked = true ∧ r.2 = .imageAsk))
    ∧ t.image.collection = none ∧ t.image.watch = none ∧ t.image.responder = .idle ∧ t.image.buffer = none
    ∧ t.image.repeatPending = false ∧ t.image.part0Sent = false ∧ t.image.askTimer = none ∧ t.image.askCount = 0
    ∧ t.image.partSinceAsk = false ∧ t.image.deferred = none
    ∧ (s.headsLive = true → ∀ h, swapResynced h s t ∧ headResynced h s t)
    ∧ (s.storeLive = true → storeResynced s t)

/-- A station that found itself divergent (R57, R106): a pool resync, and an ask where the image unit may make one (R94). -/
def divergentResynced (s t : State) : Prop :=
  resynced true s t
    ∧ (s.peers.familyMismatch = false → s.peers.roleClash = false → s.image.askingStopped = false → s.lineFault = false →
        t.pool.sync = .joining ∧ (t.askQueued ∨ (.imageUnit, .imageAsk) ∈ t.fe.held))

/-! ## Stop call requests (R39 to R43) -/

/-- This station's stop call as its sending begins (R39). -/
def State.ownCall (s : State) : Transmitter :=
  .stopCall ((List.replicate 3 0xAA#8 ++ List.replicate 6 s.constants.cellCode
    ++ [s.straps.stn.setWidth 8, 255 - s.straps.stn.setWidth 8]).map fun b => ⟨b, true⟩) false

/-- Request `q`, with `rs` behind it, is sent (R41): the latch is set, and the line is busy with the call (R12). -/
def requestSent (s : State) (q : StopRequest) (rs : List StopRequest) (t : State) : Prop :=
  t.stop.requests = ⟨q.sends + 1, false⟩ :: rs ∧ t.stop.latch = true ∧ t.transmitter = s.ownCall
    ∧ t.line.free = false ∧ t.line.freeTimer = 0 ∧ t.line.offer = false

/-- The first request is removed, with `rs` behind it (R40): the next one is sent at once; where there is none, the
transmitter is `still`. -/
def requestRemoved (s : State) (still : Transmitter) (rs : List StopRequest) (t : State) : Prop :=
  match rs with
  | [] => t.stop.requests = [] ∧ t.transmitter = still
  | q :: qs => requestSent s q qs t

/-- The attempt fails, or line free comes with none (R42, R43): a request that awaits resolution is sent again, or removed
after its fourth sending. -/
def attemptFails (s : State) (still : Transmitter) (t : State) : Prop :=
  (s.awaitingResolution = false → t.stop = { s.stop with matcher := .idle } ∧ t.transmitter = still)
    ∧ ∀ q rs, s.stop.requests = q :: rs → q.awaiting = true →
        t.stop.matcher = .idle ∧ t.stop.failHeld = false ∧ t.stop.event = s.stop.event
          ∧ (q.sends < 4 → requestSent s q rs t)
          ∧ (4 ≤ q.sends → requestRemoved s still rs t ∧ (rs = [] → t.stop.latch = s.stop.latch))

/-- The attempt completes with a stop event (R43, R45): a request that awaits resolution is satisfied (R42). -/
def attemptCompletes (s : State) (still : Transmitter) (event : StopEvent) (t : State) : Prop :=
  (s.awaitingResolution = false →
      t.stop = { s.stop with matcher := .idle, event := some event } ∧ t.transmitter = still)
    ∧ ∀ q rs, s.stop.requests = q :: rs → q.awaiting = true →
        t.stop.matcher = .idle ∧ t.stop.event = some event ∧ requestRemoved s still rs t
          ∧ (rs = [] → t.stop.latch = s.stop.latch)

/-- What a break, a disturbance or line free does to the matcher's attempt (R43): it fails before recognition. Behind it,
it completes with the sender unknown; `recognised` says which attempts in CODE are. -/
def attemptEnds (recognised : Nat → Bool) (s : State) (still : Transmitter) (t : State) : Prop :=
  match s.stop.matcher with
  | .idle => True
  | .sync _ _ => attemptFails s still t
  | .code stamp _ matched _ =>
    if recognised matched then attemptCompletes s still ⟨stamp, none⟩ t else attemptFails s still t
  | .sender stamp | .complement stamp _ _ => attemptCompletes s still ⟨stamp, none⟩ t

/-! ## Reconciliation (R107 to R111) -/

/-- The premises of the reconciliation statements: a loaded table of distinct serials, a station that may send pool frames,
room in its transmit queue, and no frame called for at a swap unit (R166). -/
def State.mayReconcile (s t : State) : Prop :=
  (t.pool.table.map Entry.serial).Nodup ∧ s.fe.deaf = false ∧ s.peers.familyMismatch = false
    ∧ s.peers.roleClash = false ∧ s.lineFault = false ∧ s.fe.held = []
    ∧ s.fe.txQueue.length + s.fe.admissionsDue ≤ 2 ∧ ∀ h, (s.swap h).wants = []

/-- The frame is in the transmit queue, behind no other attempt. -/
def State.queued (t : State) (o : Origin) (f : PoolFrame) : Prop := ⟨o, .pool f, 0, false, false⟩ ∈ t.fe.txQueue

/-- Head `h` has been reconciled with the table loaded in `t` (R107, R109), and its breakage report taken up (R148). -/
def headReconciled (h : Head) (s t : State) : Prop :=
  let u := s.head h
  let here : PoolState → Entry → Prop := fun st e => e ∈ t.pool.table ∧ e.state = st ∧ e.heldAt s.station h = true
  match u.record with
  | some r =>
    let declare : PoolFrame := .declare (headByte h) r.serial (familyByte r.family) r.diameter
    let report : PoolFrame := .quarantine r.serial u.reportReason 1
    let known : Prop := ∃ e, (here .mounted e ∨ here .quarantined e) ∧ e.serial = r.serial
    let reported : Prop := ∃ e, here .quarantined e ∧ e.serial = r.serial
    (u.report ≠ .due → r.condition = .broken ∨ known → t.head h = u)
      ∧ (u.report ≠ .due → r.condition ≠ .broken → ¬known →
          t.head h = { u with declare := some ⟨declare, none⟩ } ∧ t.queued (.headUnit h) declare)
      ∧ (u.report = .due → r.condition = .broken → reported →
          t.head h = { u with report := .none, reportRetry := none })
      ∧ (u.report = .due → r.condition = .broken → ¬reported →
          t.head h = { u with report := .outstanding, reportRetry := none } ∧ t.queued (.headUnit h) report)
  | none =>
    (∀ e, here .mounted e → (∀ x, here .mounted x → x = e) →
        t.head h = { u with
            record := some (HeadRecord.evaluated s.families ⟨e.serial, e.family, e.diameter, 0, 0, none, .serving⟩)
            cycle := none, report := .none, reportRetry := none }
          ∧ (s.life.fault = false → headId h ∈ t.life.pending))
      ∧ ((∀ e, ¬here .mounted e) → t.head h = u)

/-- Swap unit `h`, which holds nothing and has no frame in hand, has been reconciled with the table loaded in `t`
(R109, R153, R165). -/
def swapReconciled (h : Head) (s t : State) : Prop :=
  let u := s.swap h
  let onItsWay : Entry → Prop := fun e =>
    e ∈ t.pool.table ∧ (e.state = .claimed ∨ e.state = .transit ∨ e.state = .delivered)
      ∧ e.heldAt s.station h = true ∧ ∀ r, (t.head h).record = some r → r.serial ≠ e.serial
  let adopted : Entry → SwapUnit := fun e =>
    if e.state = .delivered then
      { u with state := .delivered, held := some e.serial, heldFamily := e.family, window := .stopped }
    else
      { u with state := .await, held := some e.serial, heldFamily := e.family, claimStamp := some s.timeBase
               lifetime := if e.state = .claimed then
                 some ⟨s.timeBase, s.constants.claimLifetimeS * 1000000⟩ else u.lifetime }
  u.held = none → u.notNeeded = false → u.outstanding = none → u.retries = [] →
    (∀ e, u.state = .idle → onItsWay e → (∀ x, onItsWay x → x = e) →
        (e.family = t.claimFamily h → t.swap h = adopted e)
        ∧ (e.family ≠ t.claimFamily h →
          (e.state = .transit → t.swap h = { adopted e with notNeeded := true })
          ∧ (e.state ≠ .transit → t.swap h = { adopted e with
              notNeeded := true
              outstanding := some ⟨.release e.serial releaseNotNeeded, false, (adopted e).state⟩ })))
      ∧ (u.state = .idle → (∀ e, ¬onItsWay e) →
          let needs : Prop := needsSister (t.condition h) = true ∧ s.fe.doubtful = false ∧ (t.head h).declare = none
          (¬needs → t.swap h = u)
          ∧ (needs → (∀ x ∈ s.fe.txQueue, ∀ family, x.payload ≠ .pool (.claim (headByte h) family)) →
              t.swap h = { u with
                state := .claiming
                outstanding := some ⟨.claim (headByte h) (familyByte (t.claimFamily h)), false, .claiming⟩ }))
      ∧ (u.state = .backoff ∨ u.state = .failed → t.swap h = u)

/-- The store unit, with its queues and its frames empty, has been reconciled with the table loaded in `t` (R110), and a
completion held through a pool resync has been taken (R111). The jobs are those of `sorted`, the table by serial. -/
def storeReconciled (s t : State) : Prop :=
  let inProgress : Serial → Bool := fun x => s.store.job.any fun j => j.job.serial == x
  let fetching : Serial → Bool := fun x => s.store.job.any fun j => j.job.kind == .fetch && j.job.serial == x
  let waits : Entry → Bool := fun e =>
    e.state == .returning || (e.state == .quarantined && e.holder.any fun x => x.atChange)
  let returns : List Entry → List Job := List.filterMap fun e =>
    match e.holder with
    | some x =>
      if waits e && !inProgress e.serial then some ⟨.ret, e.serial, .change x.station x.head, none, s.timeBase⟩ else none
    | none => none
  let fetches : List Entry → List Job := List.filterMap fun e =>
    match e.slot, e.holder with
    | some n, some x =>
      if e.state == .claimed && !inProgress e.serial then
        some ⟨.fetch, e.serial, .slot n, some (.change x.station x.head), s.timeBase⟩
      else none
    | _, _ => none
  let lost : Entry → Bool := fun e => e.state == .transit && !fetching e.serial
  let tracked : Serial → PoolFrame := fun x => .quarantine x quarantineLostTrack 0
  s.store.queue = [] → s.store.sendList = [] → s.store.jobFrame = none →
    ∃ sorted : List Entry, sorted.Perm t.pool.table ∧ sorted.Pairwise (fun x y => x.serial.toNat ≤ y.serial.toNat)
      ∧ (s.life.fault = false → ∀ id ∈ [16, 17, 18, 19, 20, 21], id ∈ t.life.pending)
      ∧ ((returns sorted).length + (fetches sorted).length ≤ 16 →
        t.store.claims = ((sorted.filter fun e => e.state == .claimed).map fun e =>
            ⟨e.serial, (e.holder.map Holder.station).getD 0, s.timeBase, false, false⟩)
          ∧ (s.store.heldCompletion = none →
              t.store.queue = returns sorted ++ fetches sorted ∧ t.store.job = s.store.job)
          ∧ (sorted.find? lost = none → t.store.track = none)
          ∧ (∀ e, sorted.find? lost = some e →
              t.store.track = some ⟨tracked e.serial, .submitted⟩ ∧ t.queued .storeUnit (tracked e.serial))
          ∧ (∀ j c, s.store.job = some j → s.store.heldCompletion = some c →
              let x := j.job.serial
              let ended : Prop := t.store.job = none ∧ t.store.reservation = none ∧ t.store.jobFrame = none
                ∧ t.store.heldCompletion = none
              let sends : PoolFrame → Prop := fun f =>
                t.store.job = some j ∧ t.store.heldCompletion = none ∧ t.store.jobFrame = some ⟨f, .submitted⟩
                  ∧ t.queued .storeUnit f
              ((∀ e ∈ t.pool.table, e.serial ≠ x) → ended)
              ∧ ∀ e ∈ t.pool.table, e.serial = x →
                (c = .fault → sends (.quarantine x quarantineGantryFault 0))
                ∧ (c = .done → j.job.kind = .fetch →
                    let there : Prop := e.state = .transit
                      ∧ (e.holder.map fun y => Place.change y.station y.head) = j.job.dest
                    (there → sends (.deliver x)) ∧ (¬there → ended))
                ∧ (c = .done → j.job.kind = .ret →
                    (e.holder.isSome = true → waits e = true →
                      (∀ n, j.job.dest = some (.slot n) → sends (.rack x (n.setWidth 8)))
                      ∧ (j.job.dest = some .chute → sends (.remove x removeSpentOut))
                      ∧ (j.job.dest = some .inspection → sends (.remove x removeInspected)))
                    ∧ (waits e = false → ended))))

/-- The station that enters SYNCED has been reconciled with its table, by its role (6.7). -/
def reconciled (s t : State) : Prop :=
  s.mayReconcile t →
    (s.isStore = false → ∀ h, headReconciled h s t ∧ swapReconciled h s t)
    ∧ (s.isStore = true → storeReconciled s t)

end Sys2Proof.Machine
end

