-- ==== Sys2Proof/Certificates/Slice0/Obligations.lean ====
section
/-! DEFINITION. The statements for the provers: what each command does, what it leaves, and what every step keeps. A
statement that rests on a choice of the model says so and names its log entry. -/
open Sys2Proof Sys2Proof.Machine

/-! ## The machine -/

/-- A step with a command at the front of the queue is that command's `exec` on the state with the queue's rest.

The model's choice (notes/assumptions/1.md): on an empty queue a step lets one microsecond of the time base pass, and
changes nothing else; a part held in reset stands still. -/
def Obligations.StepTakesFrontCommandOrTicks : Prop :=
  (∀ (c : Instr) (cs : List Instr) (s : State), s.pending = c :: cs → step s = exec c { s with pending := cs })
  ∧ (∀ s : State, s.pending = [] →
      step s = .next (if s.phase = .held then s else { s with timeBase := s.timeBase + 1 }))

/-- No command stops the part: every step answers a next state.

The model's reading of the manual (notes/assumptions/43.md). -/
def Obligations.EveryStepAnswersNext : Prop :=
  ∀ s : State, ∃ t, step s = .next t

/-- RESET (R191, R193, R195): every volatile state takes its reset value, and the queue of waiting commands stays. A page
that no write was at work on keeps its bytes; a data page cut off in its erase or its programming reads with its commit mark
unprogrammed, and one cut off in a re-program is not blank; a COMMIT_CONFIG cut off leaves the configuration invalid.

The model's choices: what a cut-off write leaves are free bytes, and the statement holds for all of them
(notes/assumptions/5.md); the reset values that the manual does not give (notes/assumptions/2.md). -/
def Obligations.ResetKeepsPagesAlone : Prop :=
  ∀ s : State, s.pagesSound → ∃ t, exec .reset s = .next t
    ∧ { t with pending := [], freeCounter := 0, life := { t.life with pages := [] } } = State.reset
    ∧ t.pending = s.pending
    ∧ (∀ a, (∀ p, s.life.engine.target = some p → a < 128 * p ∨ 128 * p + 128 ≤ a) →
        t.life.pages.read a = s.life.pages.read a)
    ∧ (∀ id p, (s.life.engine = .erasing id p ∨ ∃ n, s.life.engine = .programming id p n) →
        t.life.pages.read (128 * p + 127) ≠ 0)
    ∧ (∀ id p n, s.life.engine = .programming id p n → 2 ≤ n →
        ∃ a, 128 * p ≤ a ∧ a < 128 * p + 128 ∧ t.life.pages.read a ≠ 0xFF)
    ∧ (∀ p, p ≤ 3 → (s.life.engine = .configErase p ∨ ∃ n, s.life.engine = .configProgram p n) →
        checkConfiguration t.life.pages = none)
    ∧ (∀ id p a, s.life.engine = .marking id p → a ≠ 128 * p + 127 →
        t.life.pages.read a = s.life.pages.read a)

/-- The machine right after reset (R64 to R67, R195, R198): no input is taken as high, every role pin is an input, every
output is low, the pool copy is UNSYNCED and empty, the pages are blank, and the queues and the digest are as the manual's
invariants ask.

The model's choice (notes/assumptions/4.md): the pages are blank. -/
def Obligations.ResetStateIsSound : Prop :=
  State.reset.queuesBounded ∧ State.reset.digestTrue ∧ State.reset.pagesSound ∧ tableLaws State.reset.pool.table
    ∧ State.reset.pool.generation = 0 ∧ State.reset.pool.digest = 0xFFFF ∧ State.reset.pool.sync = .unsynced
    ∧ State.reset.timeBase = 0 ∧ State.reset.code = 0 ∧ State.reset.ready = false ∧ State.reset.feedHold = false
    ∧ (∀ h, State.reset.toolOk h = false ∧ State.reset.swapReq h = false)
    ∧ State.reset.jobStrobe = false ∧ State.reset.pinInUse = false
    ∧ State.reset.rolePins = List.replicate 16 .unusedInput
    ∧ State.reset.levels.ack = false ∧ State.reset.levels.gantryReady = false
    ∧ State.reset.levels.gantryDone = false ∧ State.reset.levels.gantryFault = false
    ∧ (∀ h, State.reset.headLevels h = ⟨false, false, false, false, false⟩)
    ∧ (∀ a, State.reset.life.pages.read a = 0xFF) ∧ (∀ n, State.reset.spDo n = .released)

/-- START_UP (R196 steps 1 to 6, R16, R197) for a part held in reset: commissioning mode by its strap, CONFIG_FAULT for
a bad configuration, LINE_FAULT for a station number of 0 or 31, and otherwise the loopback self-test over the internal
loop with the configuration taken and the pin released.

The scan and the restore (R184, R133): the map holds the valid page of the highest sequence of each id, the lower page
where two carry it, and the journal sequence is the highest of all, that of the last written page, which is the lower
one where two pages carry it (the model's choice, notes/assumptions/33.md); a head takes the record of its current copy,
evaluated in a working condition, and none where there is no copy or an invalid one, which requests a checkpoint; a head
restored BROKEN has its report DUE. -/
def Obligations.StartUpTakesItsMode : Prop :=
  ∀ (straps : Straps) (levels : InputLevels) (s : State), s.phase = .held →
    ∃ t, exec (.startUp straps levels) s = .next t ∧ t.straps = straps ∧ t.pending = s.pending
      ∧ t.life.pages = s.life.pages
      ∧ (straps.commission = true → t.phase = .commissioning
          ∧ t.configBad = (checkConfiguration s.life.pages).isNone ∧ t.line = s.line)
      ∧ (straps.commission = false → checkConfiguration s.life.pages = none →
          t.phase = .configFault ∧ t.code = 15 ∧ t.ready = false ∧ t.line = s.line)
      ∧ (∀ c, straps.commission = false → checkConfiguration s.life.pages = some c →
          t.constants = c.constants ∧ t.families = c.families ∧ t.familyDigest = c.familyDigest
          ∧ t.life.badPages = [] ∧ t.life.engine = .idle
          ∧ (∀ id q, (id, q) ∈ t.life.map → 4 ≤ q ∧ q ≤ 63
              ∧ ∃ seq, validPage (s.life.pages.readPage q) = some (id, seq)
              ∧ ∀ p seq', 4 ≤ p → p ≤ 63 → validPage (s.life.pages.readPage p) = some (id, seq') →
                  seq'.toNat < seq.toNat ∨ (seq' = seq ∧ q ≤ p))
          ∧ (∀ id p seq, 4 ≤ p → p ≤ 63 → validPage (s.life.pages.readPage p) = some (id, seq) →
              (∃ q, (id, q) ∈ t.life.map) ∧ seq.toNat ≤ t.life.sequence.toNat)
          ∧ ((∀ p, 4 ≤ p → p ≤ 63 → validPage (s.life.pages.readPage p) = none) →
              t.life.sequence = 0 ∧ t.life.lastWritten = 63)
          ∧ ((∃ p, 4 ≤ p ∧ p ≤ 63 ∧ (validPage (s.life.pages.readPage p)).isSome = true) →
              4 ≤ t.life.lastWritten ∧ t.life.lastWritten ≤ 63
              ∧ (∃ id, validPage (s.life.pages.readPage t.life.lastWritten) = some (id, t.life.sequence))
              ∧ ∀ p id, 4 ≤ p → p ≤ 63 → validPage (s.life.pages.readPage p) = some (id, t.life.sequence) →
                  t.life.lastWritten ≤ p)
          ∧ (straps.storeRole = false → ∀ h,
              ((∀ q, (headId h, q) ∉ t.life.map) → (t.head h).record = none ∧ (t.head h).report = .none)
              ∧ ∀ q, (headId h, q) ∈ t.life.map →
                match parseRecord (pageBody (headId h) (s.life.pages.readPage q)) with
                | .noWheel => (t.head h).record = none
                | .invalid => (t.head h).record = none ∧ (s.life.fault = false → headId h ∈ t.life.pending)
                | .wheel r =>
                  (r.condition ∈ [Condition.serving, .wornSoon, .lastParts] →
                      (t.head h).record = some (r.evaluated c.families))
                  ∧ (r.condition ∉ [Condition.serving, .wornSoon, .lastParts] → (t.head h).record = some r)
                  ∧ (r.condition = .broken → (t.head h).report = .due ∧ (t.head h).reportReason = quarantineCrash))
          ∧ (straps.stn = 0 ∨ straps.stn = 31 →
              t.phase = .live ∧ t.lineFault = true ∧ t.line.rx = .faultListen ∧ t.transmitter = .idle)
          ∧ (straps.stn ≠ 0 → straps.stn ≠ 31 →
              t.phase = .selfTest ∧ t.line.rx = .loopback ∧ t.line.loopInternal = true ∧ t.ready = false
              ∧ (s.line.vetoDriving = false → t.pinInUse = false)))

/-- The looped test frame (R10, R11, R14, R15). In LOOPBACK the receiver takes it as one from the line: a confirmed start
edge is the frame stamp, a good measurement begins the frame on the measured bit-time, each character goes to the frame
engine as in FRAME, and the second check character ends it, with no slot. A bad or missing measurement, a framing mark and
a header it does not follow fail it; a mismatch ends the transmission. No counter rises.

LOOPBACK_SELF_TEST_END (R15, R196 steps 7 and 8): the self-test passes when the receiver has taken the frame to its second
check character, its check fits, no mismatch has ended the transmission, and it came within 700 bit-times. The station
then goes live: after a pass with its receiver SETTLING, its ask timer at 2 roll intervals and its first ROLL in the
transmit queue, after a failure in LINE_FAULT.

The model's choice (notes/assumptions/37.md): the bit-times come with the command, and the loop switch is back at the pin
after a failure. -/
def Obligations.LoopbackSelfTestDecides : Prop :=
  -- Only the looped frame's own registers change.
  let looped : State → State → Prop := fun s t =>
    t = { s with
      fe := { s.fe with rxState := t.fe.rxState, rxFrame := t.fe.rxFrame }
      line := { s.line with loop := t.line.loop, syncStamp := t.line.syncStamp, bitTime := t.line.bitTime } }
  let failed : State → Prop := fun t => t.line.loop = .failed ∧ t.line.bitTime = 128 ∧ t.fe.rxState = .none
  (∀ (x : SyncStart) (m : SyncMeasure) (s : State), s.line.rx = .loopback →
      let sound : Prop := 112 ≤ m.span ∧ m.span ≤ 144 ∧ majority m.pos8 = false ∧ majority m.pos9 = true
        ∧ majority m.pos10 = true
      (s.line.loop = .awaitSync → startConfirmed x.recessiveBefore x.start = true →
        ∃ t, exec (.syncCharacter (some x) (some m)) s = .next t ∧ looped s t
          ∧ (sound → t.line.loop = .frame ∧ t.line.bitTime = m.span ∧ t.fe.rxState = .header
              ∧ t.fe.rxFrame.stamp = x.stamp)
          ∧ (¬sound → failed t))
      ∧ (s.line.loop = .sync → ∃ t, exec .syncTimeout s = .next t ∧ looped s t ∧ failed t))
  ∧ (∀ (c : CharSamples) (ch : Character) (s : State), s.line.rx = .loopback → s.line.loop = .frame →
      decideCharacter c = some ch →
      -- What the same character does in FRAME.
      ∃ u t, exec (.framePathCharacter c) { s with line := { s.line with rx := .frame } } = .next u
        ∧ exec (.framePathCharacter c) s = .next t ∧ looped s t
        ∧ (u.fe.rxState = .header ∨ u.fe.rxState = .body ∨ u.fe.rxState = .check →
            t.line.loop = .frame ∧ t.line.bitTime = s.line.bitTime ∧ t.fe.rxState = u.fe.rxState
            ∧ t.fe.rxFrame = u.fe.rxFrame)
        ∧ (u.fe.rxState = .sleep ∨ u.fe.rxState = .watch → failed t)
        ∧ (∀ a, ch.framing = false → s.fe.rxState = .check → s.fe.rxFrame.check = [a] →
            ∃ fits, t.line.loop = .checked fits ∧ (fits = true ↔ s.fe.rxFrame.crc = a ++ ch.data)
              ∧ t.fe.rxState = .none))
  ∧ (∀ (part : FramePart) (sentRecessive : Bool) (chars : List WireChar) (breaking : Bool) (s : State),
      s.line.loopInternal = true → s.transmitter = .frame chars breaking → part ≠ .vetoSlot →
      exec (.readbackMismatch (.frame part) sentRecessive) s = .next { s with transmitter := .idle })
  ∧ (∀ (bitTimes : Nat) (levels : InputLevels) (s : State), s.phase = .selfTest →
      let passes : Prop := s.line.rx = .loopback ∧ s.line.loop = .checked true
        ∧ (∃ chars breaking, s.transmitter = .frame chars breaking) ∧ bitTimes ≤ 700
      ∃ t, exec (.loopbackSelfTestEnd bitTimes levels) s = .next t ∧ t.phase = .live ∧ t.line.loopInternal = false
        ∧ t.transmitter = .idle
        ∧ (passes →
          t.line.rx = .settling ∧ t.lineFault = s.lineFault
            ∧ t.image.askTimer = some ⟨s.timeBase, 2 * (s.constants.rollIntervalMs * 1000)⟩
            ∧ (s.lineFault = false → s.fe.txQueue = [] → s.fe.admissionsDue = 0 →
                t.fe.txQueue = [⟨.peerTable, .roll, 0, false, false⟩]))
        ∧ (¬passes → t.line.rx = .faultListen ∧ t.lineFault = true ∧ t.fe.txQueue = [] ∧ t.fe.held = []))

/-- Step 8 of start-up and the role decide what the blocks take (R118, R167, R196, R197): outside run mode with start-up
complete, and for the units of the other role, their commands change nothing.

The model's choice (notes/assumptions/3.md): such a command is taken and has no effect. -/
def Obligations.CommandsBeforeLiveChangeNothing : Prop :=
  ∀ (i : Instr) (s : State),
    ((isLiveCommand i = true ∧ s.isLive = false)
      ∨ (((headCommand i).isSome = true ∨ ∃ b, i = .swapTagRecord b) ∧ s.headsLive = false)
      ∨ (isStoreCommand i = true ∧ s.storeLive = false)) →
    exec i s = .next s

/-- The outputs as functions of the state (R118, R158, R174, R196 to R199). In run mode with start-up complete READY is high;
TOOL_OK of a head is high in SERVING, WORN_SOON and LAST_PARTS; SWAP_REQ while its swap unit is DELIVERED, CONFIRMING or
MOUNTING and the head is SPENT, BROKEN or NO_WHEEL; FEED_HOLD while a head is BROKEN or the peer-stop latch is set; CODE
shows the highest value whose condition holds; the 16 role pins are those of the role, and an input has its filtered level.
The job lines carry the place codes of the job in MOVING, and are 0 otherwise.

Before that, in commissioning mode and in CONFIG_FAULT READY, FEED_HOLD, TOOL_OK and SWAP_REQ are low, and CODE is 0, but 15
in CONFIG_FAULT and where commissioning mode has found the configuration invalid.

The model's choice (notes/assumptions/40.md): an output is a function of the state and is not held beside it. -/
def Obligations.OutputsFollowState : Prop :=
  ∀ s : State,
    let cond : Head → Option Condition := fun h => (s.head h).record.map HeadRecord.condition
    let grinder : Prop := s.straps.storeRole = false
    let delivered : Head → Prop := fun h => (s.swap h).state ∈ [SwapState.delivered, .confirming, .mounting]
    let asks : Head → Prop := fun h =>
      grinder ∧ delivered h ∧ cond h ∈ [none, some Condition.spent, some .broken]
    let code : List (Nat × Prop) :=
      [(14, s.lineFault = true), (13, s.life.fault = true), (12, grinder ∧ ∃ h, cond h = some .broken),
        (11, s.stop.latch = true), (10, grinder ∧ ∃ h reason, cond h = some (.hold reason)),
        (9, grinder ∧ ∃ h, (s.swap h).state = .failed), (8, grinder ∧ ∃ h, cond h = some .spent ∧ ¬delivered h),
        (7, grinder ∧ ∃ h, cond h = none ∧ ¬delivered h),
        (6, s.peers.roleClash = true ∨ s.peers.familyMismatch = true), (5, s.pool.sync ≠ .synced),
        (4, ∃ h, asks h), (3, grinder ∧ ∃ h, cond h = some .lastParts),
        (2, grinder ∧ ∃ h, cond h = some .wornSoon),
        (1, ∃ j, s.store.job = some ⟨j, .armed⟩ ∨ s.store.job = some ⟨j, .moving⟩)]
    let place : Place → Nat := fun p =>
      match p with
      | .slot n => n.toNat
      | .chute => 48
      | .inspection => 49
      | .change st h => 2 * (st.toNat - 1) + h.toBit.toNat
    (s.phase = .live →
      s.ready = true
      ∧ (∀ h, s.toolOk h = true ↔ grinder ∧ cond h ∈ [some Condition.serving, some .wornSoon, some .lastParts])
      ∧ (∀ h, s.swapReq h = true ↔ asks h)
      ∧ (s.feedHold = true ↔ s.stop.latch = true ∨ (grinder ∧ ∃ h, cond h = some .broken))
      ∧ (∀ r ∈ code, r.2 → r.1 ≤ s.code.toNat)
      ∧ (s.code = 0 ∨ ∃ r ∈ code, r.2 ∧ r.1 = s.code.toNat)
      ∧ (grinder → s.rolePins =
          (([Head.h0, .h1].map fun h =>
              [.input (s.headLevels h).grind, .input (s.headLevels h).changePos, .input (s.headLevels h).contact,
                .input (s.headLevels h).load, .input (s.headLevels h).dress, RolePin.output (s.toolOk h),
                .output (s.swapReq h)]).flatten ++ [.unusedInput, .unusedInput]))
      ∧ (¬grinder → s.rolePins =
          [.input s.levels.gantryReady, .input s.levels.gantryDone, .input s.levels.gantryFault,
              .output s.store.strobe.isSome]
            ++ ((List.range 6).map fun k => RolePin.output (s.jobFrom.getLsbD k))
            ++ (List.range 6).map fun k => .output (s.jobTo.getLsbD k)))
    ∧ (∀ j, s.store.job = some ⟨j, .moving⟩ → s.jobFrom = BitVec.ofNat 6 (place j.source)
        ∧ ∀ d, j.dest = some d → s.jobTo = BitVec.ofNat 6 (place d))
    ∧ ((∀ j, s.store.job ≠ some ⟨j, .moving⟩) → s.jobFrom = 0 ∧ s.jobTo = 0)
    ∧ (s.phase ≠ .live → s.ready = false ∧ s.feedHold = false ∧ (∀ h, s.toolOk h = false ∧ s.swapReq h = false)
        ∧ s.code = if s.phase = .configFault ∨ (s.phase = .commissioning ∧ s.configBad = true) then 15 else 0)

/-! ## The cell line (chapters 1 and 2) -/

/-- DOMINANT_RUN_END (R7, R8, R27, R28, R42, R43, R48) while the transmitter is idle and no outcome of a frame waits for
the run. Content lies within a character that the frame path in SYNC or FRAME or the stop path in an attempt is
assembling, up to the stop-bit decision; veto activity lies in the slot, or began there. Neither is classified, but for
veto activity of 24 bit-times. A run of the line is, below 4 bit-times a glitch, a framing error where it covered a
stop-bit decision; 4 to 10 a disturbance, which takes a receiver in SYNC or FRAME to IDLE and a frame under reception to
its watch; 11 to 23 a break, which begins the search for a sync character and turns a watch into the doubtful flag; from
24 on a long break, which leaves the doubtful flag and starts the stop call matcher. A frame of this station that no
outcome has reached stays in place at a break and at a long break, and no frame behind them is its own (R30). A
disturbance and a break end the matcher's attempt, and a request that awaits resolution is sent again, removed or
satisfied.

Where the matcher has failed on a character of this run with a request awaiting resolution, a long break leaves the
request awaiting the later call, and any other run sends it again.

While a frame of this station is sent, the end of its own break lets it go on, and a long break there overtakes it
(R13); any other break or long break ends the transmission with the frame in place. A bit error or a veto held for the
run is decided by it (R26, R47): a long break leaves the frame in place, and any other run counts the attempt.

The model's choices: whole bit-times (notes/assumptions/9.md), a line-free timer of 0 or 12 (notes/assumptions/8.md),
the request held until the run is classed (notes/assumptions/55.md), the transmission that a break ends
(notes/assumptions/13.md), an attempt counted by a run of content too (notes/assumptions/45.md), and by the next run
where its own is past (notes/assumptions/65.md). -/
def Obligations.DominantRunsByLength : Prop :=
  ∀ (r : Run) (s : State),
    let n := r.slots / 16
    let assembling : Prop := (s.line.rx = .sync ∧ r.slots < 191)
      ∨ (s.line.rx = .frame ∧ r.slots < 170 * s.line.bitTime / 128) ∨ (s.stop.matcher ≠ .idle ∧ r.slots < 170)
    let content : Prop := s.line.slotRun = false ∧ r.context = .content ∧ r.coveredStop = false ∧ assembling
    let veto : Prop := s.line.slotRun = true ∨ (r.context = .veto ∧ s.line.rx = .slot)
    let ofLine : Prop := ¬content ∧ ¬veto
    let followed : Prop := s.line.rx ≠ .faultListen
    (s.line.rx = .off → exec (.dominantRunEnd r) s = .next s)
    ∧ (s.line.rx ≠ .off → s.line.rx ≠ .loopback → s.transmitter = .idle → s.fe.heldOutcome = none →
      ∃ t, exec (.dominantRunEnd r) s = .next t ∧ t.line.free = false ∧ t.line.freeTimer = 0 ∧ t.line.slotRun = false
        ∧ t.stop.failHeld = false
        ∧ cellFrame s t ∧ t.pool = s.pool ∧ t.peers = s.peers ∧ t.fe.rxQueue = s.fe.rxQueue
        ∧ (content ∨ (veto ∧ n < 24) →
          t.counters = s.counters ∧ t.line.rx = s.line.rx ∧ t.fe = s.fe
            ∧ (s.stop.failHeld = false → t.stop = s.stop ∧ t.transmitter = .idle))
        ∧ (ofLine → n < 4 →
          t.counters = { s.counters with
              framing := if r.coveredStop then satInc s.counters.framing else s.counters.framing }
            ∧ t.line.rx = s.line.rx ∧ t.fe = s.fe
            ∧ (s.stop.failHeld = false → t.stop = s.stop ∧ t.transmitter = .idle))
        ∧ (ofLine → 4 ≤ n → n ≤ 10 →
          t.counters = { s.counters with disturbance := satInc s.counters.disturbance }
            ∧ t.fe.doubtful = s.fe.doubtful
            ∧ (s.line.rx = .sync ∨ s.line.rx = .frame → t.line.rx = .idle ∧ t.line.bitTime = 128)
            ∧ (s.line.rx ≠ .sync → s.line.rx ≠ .frame → t.line.rx = s.line.rx)
            ∧ (s.fe.rxState.receiving = true → t.fe.rxState = .watch ∧ t.fe.watch.isSome = true)
            ∧ (s.fe.rxState.receiving = false → t.fe = s.fe)
            ∧ (s.stop.failHeld = false → (s.stop.matcher = .idle → t.stop = s.stop ∧ t.transmitter = .idle)
                ∧ attemptEnds (fun _ => false) s .idle t))
        ∧ (ofLine → 11 ≤ n → n ≤ 23 →
          t.counters = s.counters
            ∧ (followed → t.line.rx = .awaitSync ∧ t.line.bitTime = 128 ∧ t.fe.rxState = .none ∧ t.fe.watch = none
                ∧ t.fe.doubtful = (s.fe.doubtful || s.fe.watch.isSome)
                ∧ (s.fe.watch = none → frameStays s t))
            ∧ (¬followed → t.line.rx = .faultListen ∧ t.fe = s.fe)
            ∧ (s.stop.failHeld = false → (s.stop.matcher = .idle → t.stop = s.stop ∧ t.transmitter = .idle)
                ∧ attemptEnds (fun _ => false) s .idle t))
        ∧ (¬content → 24 ≤ n →
          t.counters = s.counters
            ∧ (followed → t.line.rx = .ignore ∧ t.fe.rxState = .none ∧ t.fe.watch = none
                ∧ t.fe.doubtful = s.fe.doubtful ∧ frameStays s t)
            ∧ (¬followed → t.line.rx = .faultListen ∧ t.fe = s.fe)
            ∧ t.stop = { s.stop with matcher := .sync r.stamp 0, failHeld := false } ∧ t.transmitter = .idle)
        ∧ (s.stop.failHeld = true → s.stop.matcher = .idle → ¬(¬content ∧ 24 ≤ n) →
          attemptFails { s with stop := { s.stop with failHeld := false } } .idle t))
    ∧ (s.line.rx ≠ .off → s.line.rx ≠ .loopback → followed → s.fe.watch = none → s.stop.matcher = .idle →
        s.stop.failHeld = false →
      let long : Prop := ¬content ∧ 24 ≤ n
      (∀ chars breaking, s.transmitter = .frame chars breaking → s.fe.heldOutcome = none →
        let isOver : Prop := long ∨ (breaking = false ∧ ofLine ∧ 11 ≤ n)
        ∃ t, exec (.dominantRunEnd r) s = .next t ∧ cellFrame s t ∧ t.pool = s.pool ∧ t.peers = s.peers
          ∧ (isOver → t.transmitter = .idle ∧ frameStays s t)
          ∧ (¬isOver → t.transmitter = .frame chars false ∧ t.fe.txQueue = s.fe.txQueue))
      ∧ (∀ e, s.transmitter = .idle → s.fe.heldOutcome.isSome = true → s.lineEntry = some e → e.withdrawn = false →
          e.attempts < 3 →
        ∃ t, exec (.dominantRunEnd r) s = .next t ∧ cellFrame s t ∧ t.pool = s.pool ∧ t.peers = s.peers
          ∧ (long → t.fe.heldOutcome = none ∧ frameStays s t)
          ∧ (¬long → attemptCounted e s t)))

/-- SYNC_CHARACTER and SYNC_TIMEOUT (R10): a confirmed start edge in AWAIT_SYNC is the frame stamp; a span of 112 to 144
slots with position 8 dominant and positions 9 and 10 recessive begins a frame with that stamp, and any other measurement
is a SYNC_FAULT, as is a sync character that never comes to its fifth edge.

The model's choice (notes/assumptions/39.md): one command carries both moments. -/
def Obligations.SyncCharacterIsJudged : Prop :=
  ∀ (x : SyncStart) (m : SyncMeasure) (s : State),
    (s.line.rx = .awaitSync → startConfirmed x.recessiveBefore x.start = true →
      ∃ t, exec (.syncCharacter (some x) (some m)) s = .next t ∧ cellFrame s t ∧ t.pool = s.pool
        ∧ t.fe.txQueue = s.fe.txQueue ∧ t.fe.rxQueue = s.fe.rxQueue
        ∧ (112 ≤ m.span ∧ m.span ≤ 144 ∧ majority m.pos8 = false ∧ majority m.pos9 = true ∧ majority m.pos10 = true →
            t.line.rx = .frame ∧ t.line.bitTime = m.span ∧ t.fe.rxState = .header ∧ t.fe.rxFrame.stamp = x.stamp
            ∧ t.counters = s.counters)
        ∧ (¬(112 ≤ m.span ∧ m.span ≤ 144 ∧ majority m.pos8 = false ∧ majority m.pos9 = true ∧ majority m.pos10 = true) →
            t.line.rx = .ignore ∧ t.line.bitTime = 128 ∧ t.fe = s.fe
            ∧ t.counters = { s.counters with syncFault := satInc s.counters.syncFault }))
    ∧ (s.line.rx = .sync →
      ∃ t, exec .syncTimeout s = .next t ∧ t.line.rx = .ignore ∧ t.fe = s.fe ∧ t.pool = s.pool
        ∧ t.counters = { s.counters with syncFault := satInc s.counters.syncFault })

/-- FRAME_PATH_CHARACTER (R5, R11, R17, R21, R22, R27, R28) in FRAME: a framing mark abandons the frame to WATCH with its
expected end; the first header character of an undefined kind puts the receive side to sleep; one of a defined kind is kept
and taken into the running check, and so are the sender's character and a length that the kind allows, which begins the
data or, where it is 0, the check; a header character of mark 0 or another length puts the receive side to sleep. A data
character is added to the data, the last one begins the check, and the first check character is kept.

The model's choice (notes/assumptions/62.md): a framing mark decides first, also on a header character of mark 0, of an
undefined kind or of a length that the kind does not allow, and raises no UNKNOWN_KIND. -/
def Obligations.FrameCharactersAreTaken : Prop :=
  ∀ (c : CharSamples) (ch : Character) (s : State), s.line.rx = .frame → decideCharacter c = some ch →
    ∃ t, exec (.framePathCharacter c) s = .next t ∧ t.line.free = false ∧ cellFrame s t ∧ t.pool = s.pool
      ∧ t.peers = s.peers ∧ t.fe.txQueue = s.fe.txQueue ∧ t.fe.rxQueue = s.fe.rxQueue
      ∧ t.counters.noise = (if ch.noise then satInc s.counters.noise else s.counters.noise)
      ∧ (ch.framing = true → s.fe.rxState.receiving = true →
          t.fe.rxState = .watch ∧ t.counters.unknownKind = s.counters.unknownKind
          ∧ t.fe.watch = some ⟨s.fe.rxFrame.stamp,
              11 * (7 + (s.fe.rxFrame.h2.map BitVec.toNat).getD 0) * s.line.bitTime / (8 * 2 ^ s.straps.rate.toNat)⟩)
      ∧ (ch.framing = false → s.fe.rxState = .header → s.fe.rxFrame.h0 = none →
          (ch.mark = true → (kindOfH0 ch.data).isSome = true →
            t.fe.rxState = .header ∧ t.fe.rxFrame.h0 = some ch.data
            ∧ t.fe.rxFrame.crc = BitVec.ofNat 16 (crcByte s.fe.rxFrame.crc.toNat ch.data)
            ∧ t.line.rx = .frame)
          ∧ (ch.mark = false ∨ kindOfH0 ch.data = none →
            t.fe.rxState = .sleep ∧ t.line.rx = .ignore
            ∧ t.counters.unknownKind = satInc s.counters.unknownKind))
      ∧ (ch.framing = false → s.fe.rxState = .body →
          s.fe.rxFrame.data.length + 1 ≤ (s.fe.rxFrame.h2.map BitVec.toNat).getD 0 →
          t.fe.rxState = (if s.fe.rxFrame.data.length + 1 = (s.fe.rxFrame.h2.map BitVec.toNat).getD 0 then .check
            else .body)
          ∧ t.fe.rxFrame.data = s.fe.rxFrame.data ++ [ch.data]
          ∧ t.fe.rxFrame.crc = BitVec.ofNat 16 (crcByte s.fe.rxFrame.crc.toNat ch.data)
          ∧ t.fe.rxFrame.badMark = (s.fe.rxFrame.badMark || ch.mark) ∧ t.line.rx = .frame)
      ∧ (∀ a, ch.framing = false → s.fe.rxState = .header → s.fe.rxFrame.h0 = some a →
          (ch.mark = false →
            t.fe.rxState = .sleep ∧ t.line.rx = .ignore
            ∧ t.counters.unknownKind = satInc s.counters.unknownKind)
          ∧ (ch.mark = true → s.fe.rxFrame.h1 = none →
            t.fe.rxState = .header ∧ t.fe.rxFrame.h0 = some a ∧ t.fe.rxFrame.h1 = some ch.data ∧ t.line.rx = .frame
            ∧ t.fe.rxFrame.crc = BitVec.ofNat 16 (crcByte s.fe.rxFrame.crc.toNat ch.data))
          ∧ (∀ b, ch.mark = true → s.fe.rxFrame.h1 = some b →
            let allowed : Prop := ∃ k, kindOfH0 a = some k ∧ allowedLength k ch.data.toNat = true
            (allowed → t.fe.rxState = (if ch.data = 0 then .check else .body) ∧ t.fe.rxFrame.h0 = some a
              ∧ t.fe.rxFrame.h1 = some b ∧ t.fe.rxFrame.h2 = some ch.data ∧ t.line.rx = .frame
              ∧ t.fe.rxFrame.crc = BitVec.ofNat 16 (crcByte s.fe.rxFrame.crc.toNat ch.data))
            ∧ (¬allowed → t.fe.rxState = .sleep ∧ t.line.rx = .ignore
              ∧ t.counters.unknownKind = satInc s.counters.unknownKind)))
      ∧ (ch.framing = false → s.fe.rxState = .check → s.fe.rxFrame.check = [] →
          t.fe.rxState = .check ∧ t.fe.rxFrame.check = [ch.data] ∧ t.line.rx = .frame
          ∧ t.fe.rxFrame.crc = s.fe.rxFrame.crc ∧ t.fe.rxFrame.badMark = (s.fe.rxFrame.badMark || ch.mark))

/-- The check point (R18, R22, R23, R24): at the second check character the slot opens. The frame is bad when a data or
check character carried a mark or when the check does not fit, and the station vetoes a bad frame and one it has no room
for, unless it is DEAF. -/
def Obligations.SecondCheckCharacterOpensSlot : Prop :=
  ∀ (c : CharSamples) (ch : Character) (a : Byte) (s : State), s.line.rx = .frame → decideCharacter c = some ch →
    ch.framing = false → s.fe.rxState = .check → s.fe.rxFrame.check = [a] →
    ∃ t bad, exec (.framePathCharacter c) s = .next t
      ∧ (bad = true ↔ s.fe.rxFrame.badMark = true ∨ ch.mark = true ∨ s.fe.rxFrame.crc ≠ a ++ ch.data)
      ∧ t.fe.rxState = .slot bad (!s.fe.deaf && (bad || decide (4 ≤ s.fe.rxQueue.length)))
      ∧ t.line.rx = .slot ∧ t.line.vetoDriving = (!s.fe.deaf && (bad || decide (4 ≤ s.fe.rxQueue.length)))
      ∧ t.counters.checkErrors = (if bad then satInc s.counters.checkErrors else s.counters.checkErrors)
      ∧ t.counters.vetoesSent =
          (if t.line.vetoDriving then satInc s.counters.vetoesSent else s.counters.vetoesSent)
      ∧ t.fe.vetoRun = (if t.line.vetoDriving then s.fe.vetoRun + 1 else s.fe.vetoRun)
      ∧ t.fe.rxQueue = s.fe.rxQueue ∧ t.fe.txQueue = s.fe.txQueue ∧ t.pool = s.pool ∧ cellFrame s t

/-- VETO_SLOT_END (R24, R25, R26, R30, R34, R36 to R38) for a frame of another station at a station that is not DEAF. A
clear slot accepts it: it enters the receive queue at the tail if it is good and there is room, and a frame that carries
this station's own number puts the station into LINE_FAULT. A slot in which a veto was seen discards it.

An own frame that is accepted leaves the transmit queue and enters the receive queue with the mark of its originator,
which is told: the peer table starts its roll timer, and a swap unit's frame is marked sent. One that was vetoed counts
an attempt, once the run in the slot has ended.

The eighth veto running makes the station DEAF with a pool resync, carried out at the pool engine, in the transmit
queue, at the peer table, the image unit, and the swap, head or store units (R105, R108, R148, R166, R179, R180). DEAF
ends at a slot's end with nothing waiting in the receive queue, whether the slot's frame is accepted or not, and the
station asks for an image where it may.

The model's reading (notes/assumptions/41.md): a bad frame that is accepted is checked for a clash too. The model's
choice (notes/assumptions/51.md): a swap unit's frame that waits for its next submission is forgotten at a pool resync
with the outstanding one. -/
def Obligations.VetoSlotDecidesAcceptance : Prop :=
  (∀ (bits : List Slot3) (going bad vetoed : Bool) (i : RxItem) (s : State),
    s.fe.rxState = .slot bad vetoed → s.fe.deaf = false → (vetoed = true → s.fe.vetoRun < 8) → s.ownOnLine = none →
    acceptedItem s.fe.rxFrame none = some i →
    ∃ t, exec (.vetoSlotEnd bits going) s = .next t ∧ cellFrame s t ∧ t.pool = s.pool ∧ t.peers = s.peers
      ∧ t.fe.rxState = .none
      ∧ t.fe.vetoRun = (if vetoed then s.fe.vetoRun else 0)
      ∧ (classifySlot bits = .vetoSeen →
          t.fe.rxQueue = s.fe.rxQueue ∧ t.line.rx = .idle
          ∧ t.counters.vetoesSeen = satInc s.counters.vetoesSeen ∧ t.fe.txQueue = s.fe.txQueue)
      ∧ (classifySlot bits = .clear → i.sender ≠ s.station →
          t.fe.rxQueue = (if bad = false ∧ s.fe.rxQueue.length < 4 then s.fe.rxQueue ++ [i] else s.fe.rxQueue)
          ∧ t.line.rx = .idle ∧ t.fe.doubtful = s.fe.doubtful ∧ t.fe.txQueue = s.fe.txQueue
          ∧ t.counters = s.counters)
      ∧ (classifySlot bits = .ambiguous → i.sender ≠ s.station → t.fe.doubtful = true ∧ t.line.rx = .idle)
      ∧ (classifySlot bits ≠ .vetoSeen → i.sender = s.station →
          t.lineFault = true ∧ t.line.rx = .faultListen ∧ t.fe.rxQueue = s.fe.rxQueue))
  ∧ (∀ (bits : List Slot3) (going : Bool) (e : TxEntry) (i : RxItem) (s : State),
      s.fe.rxState = .slot false false → s.fe.deaf = false → s.fe.heldOutcome = none → s.lineEntry = some e →
      e.withdrawn = false → acceptedItem s.fe.rxFrame (some e.origin) = some i →
      (classifySlot bits = .clear →
        ∃ t, exec (.vetoSlotEnd bits going) s = .next t ∧ cellFrame s t ∧ t.pool = s.pool ∧ t.line.rx = .idle
          ∧ i.own = some e.origin
          ∧ t.fe.rxQueue = (if s.fe.rxQueue.length < 4 then s.fe.rxQueue ++ [i] else s.fe.rxQueue)
          ∧ (e.origin ≠ .imageUnit → t.fe.txQueue = s.fe.txQueue.filter (fun x => !x.onLine))
          ∧ (e.origin = .peerTable →
              t.peers = { s.peers with rollTimer := some ⟨s.timeBase, s.constants.rollIntervalMs * 1000⟩ })
          ∧ (∀ h f st, e.origin = .swapUnit h → e.payload = .pool f → (s.swap h).outstanding = some ⟨f, false, st⟩ →
              t.swap h = { s.swap h with outstanding := some ⟨f, true, st⟩ }))
      ∧ (classifySlot bits = .vetoSeen →
        ∃ t, exec (.vetoSlotEnd bits going) s = .next t ∧ cellFrame s t ∧ t.pool = s.pool ∧ t.line.rx = .idle
          ∧ t.fe.rxQueue = s.fe.rxQueue ∧ t.counters.vetoesSeen = satInc s.counters.vetoesSeen
          ∧ (going = true → t.fe.heldOutcome = some .vetoed ∧ t.fe.txQueue = s.fe.txQueue)
          ∧ (going = false → e.attempts < 3 → ∃ l r, s.fe.txQueue = l ++ e :: r ∧ (∀ x ∈ l, x.onLine = false)
              ∧ t.fe.txQueue = l ++ { e with attempts := e.attempts + 1, onLine := false } :: r)))
  ∧ (∀ (bits : List Slot3) (going bad vetoed : Bool) (s : State), s.fe.rxState = .slot bad vetoed →
      s.ownOnLine = none →
      (s.fe.deaf = false → vetoed = true → 8 ≤ s.fe.vetoRun → classifySlot bits = .vetoSeen →
        ∃ t, exec (.vetoSlotEnd bits going) s = .next t ∧ cellFrame s t ∧ t.fe.deaf = true ∧ t.fe.vetoRun = 0
          ∧ t.pool.sync = .unsynced ∧ t.peers = { s.peers with disagreement := none } ∧ resynced false s t)
      ∧ (s.fe.deaf = true → s.fe.rxQueue = [] → (∀ i, acceptedItem s.fe.rxFrame none = some i → i.sender ≠ s.station) →
        ∃ t, exec (.vetoSlotEnd bits going) s = .next t ∧ cellFrame s t ∧ t.fe.deaf = false ∧ t.fe.vetoRun = 0
          ∧ (s.mayAsk = true → s.lineFault = false → t.pool = { s.pool with sync := .joining })
          ∧ (∀ i, acceptedItem s.fe.rxFrame none = some i → bad = false → classifySlot bits ≠ .vetoSeen →
              t.fe.rxQueue = [i]))
      ∧ (s.fe.deaf = true → s.fe.rxQueue ≠ [] → classifySlot bits = .vetoSeen →
        ∃ t, exec (.vetoSlotEnd bits going) s = .next t ∧ cellFrame s t ∧ t.fe.deaf = true ∧ t.fe.vetoRun = 0
          ∧ t.pool = s.pool ∧ t.fe.rxQueue = s.fe.rxQueue))

/-- LINE_FREE (R12, R20, R27, R28, R42, R43): the line becomes free with its timer at 12; a receiver in AWAIT_SYNC,
FRAME or SETTLING goes to IDLE and one in IGNORE stays; a frame before its check point is abandoned, and a watch ends
with the doubtful flag as it was. The matcher's attempt fails before recognition and completes with the sender unknown
behind it, and with no attempt or a failed one a request that awaits resolution is sent again, or removed after its
fourth sending, and nothing is held for a run any more; a completion satisfies it (R42, R43). A call that is sent makes
the line busy again.

A transmission that no outcome has reached is over, with its frame in place; a bit error or a veto still held counts its
attempt (R30, R47).

WATCH_EXPECTED_END (R28): the expected end of an abandoned frame passes with the line busy, and the station is doubtful.

The model's choices: the line-free timer is held as 0 or 12 (notes/assumptions/8.md), a frame without an outcome stays
in place (notes/assumptions/13.md), a held outcome is resolved at line free (notes/assumptions/65.md), and so is a
request held for a run (notes/assumptions/67.md). -/
def Obligations.LineFreeAndWatchEnd : Prop :=
  (∀ s : State, s.freeCounts = true → s.line.free = false →
      let still : Transmitter := match s.transmitter with
        | .frame _ _ => .idle
        | .idle => .idle
        | .stopCall chars late => .stopCall chars late
      ∃ t, exec .lineFree s = .next t ∧ cellFrame s t
        ∧ (s.awaitingResolution = false ∨ t.transmitter ≠ s.ownCall → t.line.free = true ∧ t.line.freeTimer = 12)
        ∧ (s.stop.matcher = .idle → attemptFails s still t)
        ∧ attemptEnds (fun matched => decide (5 ≤ matched)) s still t
        ∧ t.pool = s.pool ∧ t.fe.rxQueue = s.fe.rxQueue ∧ t.fe.doubtful = s.fe.doubtful
        ∧ (s.fe.heldOutcome = none → t.peers = s.peers)
        ∧ (s.fe.heldOutcome = none → (∀ chars late, s.transmitter ≠ .stopCall chars late) → frameStays s t)
        ∧ (∀ e, s.transmitter = .idle → s.fe.heldOutcome.isSome = true → s.lineEntry = some e → e.withdrawn = false →
            e.attempts < 3 → t.peers = s.peers ∧ attemptCounted e s t)
        ∧ (s.line.rx = .awaitSync ∨ s.line.rx = .frame ∨ s.line.rx = .settling → t.line.rx = .idle)
        ∧ (s.line.rx = .ignore ∨ s.line.rx = .faultListen → t.line.rx = s.line.rx)
        ∧ t.fe.watch = none
        ∧ (s.fe.rxState.receiving = true ∨ s.fe.rxState = .watch → t.fe.rxState = .none)
        ∧ (s.fe.rxState = .sleep → t.fe.rxState = .sleep))
  ∧ (∀ (w : Watch) (s : State), s.fe.watch = some w → w.lengthUs ≤ (s.timeBase - w.stamp).toNat →
      ∃ t, exec .watchExpectedEnd s = .next t ∧ t.fe.doubtful = true ∧ t.fe.watch = none ∧ t.fe.rxState = .none
        ∧ cellFrame s t ∧ t.pool = s.pool ∧ t.peers = s.peers ∧ t.line = s.line ∧ t.fe.rxQueue = s.fe.rxQueue)

/-- TRANSMIT_START (R13, R17, R18, R31): on a free line the first eligible frame of the queue is driven: the sync character
and the header with mark 1, the data and the check with mark 0. The line is busy, and no other frame moves. The header is
the kind's H0 (R19), the sender's flags and number, and the length. A ROLL carries the values of this moment (R50, 13.2), an
IMAGE_ASK nothing, a pool frame its fields, and an image part the generation, its index, the part count, the entry count,
at most four entries (13.3), and on the last part the digest, all from the buffer, which part 0 of a QUEUED responder fills
with the table in ascending serials (R98).

Before a ROLL, a part 0 that takes its image and a later part (R50, R98) the consumers take every waiting item: commands
that take items lead to a state with an empty receive queue, whose first eligible frame is driven with its values.

A dominant sample seen since line free leaves every frame where it is.

The model's choices: where the items change the head of the queue, the new head is the frame sent
(notes/assumptions/49.md); the order of the consumers is the model's (notes/assumptions/17.md). -/
def Obligations.TransmitStartDrivesHead : Prop :=
  let condition : Option Condition → Byte := fun c =>
    match c with
    | none => 0
    | some .serving => 1
    | some .wornSoon => 2
    | some .lastParts => 3
    | some .spent => 4
    | some (.hold _) => 5
    | some .broken => 6
  let stateCode : PoolState → BitVec 3 := fun st =>
    match st with
    | .free => 0
    | .claimed => 1
    | .transit => 2
    | .delivered => 3
    | .mounted => 4
    | .returning => 5
    | .quarantined => 6
  let record : Entry → List Byte := fun e =>
    be32 e.serial ++ [e.family ++ stateCode e.state ++ BitVec.ofBool e.spent]
      ++ [match e.holder with
          | none => 0
          | some x => 1#1 ++ BitVec.ofBool x.atChange ++ BitVec.ofBool (x.head == .h1) ++ x.station]
      ++ be24 e.diameter ++ [match e.slot with
          | none => 255
          | some n => n.setWidth 8]
  let part : ImageBuffer → Nat → List Byte := fun b k =>
    let n := b.entries.length
    let count := max 1 ((n + 3) / 4)
    be16 b.generation ++ [BitVec.ofNat 8 k, BitVec.ofNat 8 count, BitVec.ofNat 8 n]
      ++ ((b.entries.drop (4 * k)).take 4).flatMap record ++ (if k + 1 = count then be16 b.digest else [])
  let cond : State → Head → Byte := fun s h => condition ((s.head h).record.map HeadRecord.condition)
  -- The data that a frame carries as its transmission begins in a state, and the image unit it leaves.
  let carries : State → Payload → List Byte → ImageUnit → Prop := fun s p data image =>
    match p with
    | .pool f => data = f.data ∧ image = s.image
    | .imageAsk => data = [] ∧ image = s.image
    | .roll =>
      data = [BitVec.ofBool s.straps.storeRole ++ BitVec.ofBool (s.pool.sync == .synced) ++ 0#5 ++ BitVec.ofBool s.stop.latch]
          ++ be16 s.pool.generation ++ be16 s.pool.digest ++ be16 s.familyDigest ++ [cond s .h0, cond s .h1]
        ∧ image = s.image
    | .imagePart k =>
      (k = 0 → s.image.responder = .queued → ∃ b,
        image = { s.image with responder := .running, buffer := some b } ∧ b.generation = s.pool.generation
          ∧ b.digest = s.pool.digest ∧ b.entries.Perm s.pool.table
          ∧ b.entries.Pairwise (fun x y => x.serial.toNat ≤ y.serial.toNat) ∧ data = part b 0)
      ∧ (¬(k = 0 ∧ s.image.responder = .queued) → image = s.image ∧ ∀ b, s.image.buffer = some b → data = part b k)
  -- The frame is driven.
  let driven : State → TxEntry → State → Prop := fun s e t =>
    ∃ data header, carries s e.payload data t.image
      ∧ header = [e.payload.kind.h0, BitVec.ofBool s.straps.storeRole ++ BitVec.ofBool (s.pool.sync == .synced)
          ++ BitVec.ofBool s.fe.doubtful ++ s.station, BitVec.ofNat 8 data.length]
      ∧ t.transmitter = .frame (((0xAA#8 :: header).map fun b => ⟨b, true⟩)
          ++ ((data ++ be16 (crc16 (header ++ data))).map fun b => ⟨b, false⟩)) true
      ∧ t.line.free = false
      ∧ (∃ l r, s.fe.txQueue = l ++ e :: r ∧ (∀ x ∈ l, s.fe.eligible x = false)
          ∧ t.fe.txQueue = l ++ { e with onLine := true } :: r)
      ∧ t.fe.rxQueue = s.fe.rxQueue ∧ cellFrame s t ∧ t.pool = s.pool ∧ t.peers = s.peers ∧ t.counters = s.counters
  (∀ (e : TxEntry) (s : State), s.mayTransmit = true → s.txHead = some e →
      s.fe.rxQueue = [] ∨ e.payload = .imageAsk ∨ (∃ f, e.payload = .pool f) →
      ∃ t, exec (.transmitStart false) s = .next t ∧ driven s e t ∧ t.lineEntry = some { e with onLine := true })
  ∧ (∀ (e : TxEntry) (s : State), s.isLive = true → s.mayTransmit = true → s.txHead = some e →
      e.payload = .roll ∨ (∃ k, e.payload = .imagePart k ∧ (k ≠ 0 ∨ s.image.responder = .queued)) →
      s.fe.rxQueue.length ≤ 4 →
      (∀ i ∈ s.fe.rxQueue, (i.forPool = true → i.kind.isPool = true)
        ∧ (i.forImage = true → i.kind = .imageAsk ∨ i.kind = .imagePart)) →
      (∀ i, s.fe.rxQueue.head? = some i → i.forPeers = true ∨ i.forPool = true ∨ i.forImage = true) →
      ∃ u t,
        Relation.ReflTransGen (fun a b => ∃ c, c ∈ [Instr.roll, .peerItem, .enter, .claim, .dispatch, .deliver, .mount,
          .declare, .release, .quarantine, .rack, .remove, .imageAsk, .imagePart] ∧ exec c a = .next b) s u
        ∧ u.fe.rxQueue = [] ∧ exec (.transmitStart false) s = .next t
        ∧ (u.txHead = none → t = u) ∧ ∀ e', u.txHead = some e' → driven u e' t)
  ∧ (∀ s : State, ∃ t, exec (.transmitStart true) s = .next t ∧ t.fe = s.fe ∧ t.transmitter = s.transmitter
      ∧ t.line.free = false ∧ t.line.offer = false ∧ t.pool = s.pool)
  ∧ [Kind.enter, .claim, .dispatch, .deliver, .mount, .declare, .release, .quarantine, .rack, .remove, .imageAsk,
      .imagePart, .roll].map Kind.h0
    = [0x48, 0x49, 0x4A, 0x4B, 0x4C, 0x4D, 0x4E, 0x4F, 0x50, 0x51, 0x62, 0x63, 0xA1]

/-- TRANSMIT_OVERTAKEN, and READBACK_MISMATCH in the arbitration field (R13, R29, R30): the transmitter is idle, and the
frame stays at its place in the queue with its attempt count as it was; a lost arbitration is counted.

READBACK_MISMATCH as a bit error (R14, R30, R47): outside arbitration a recessive bit read dominant holds its
outcome until the run is classed; a dominant bit read recessive counts an attempt at once: an earlier one than the fourth
leaves the frame at its place, and the fourth removes it, raises TX_FAIL and tells its originator *not sent*: the peer table
starts its roll timer, a swap unit in CLAIMING enters BACKOFF, a breakage report is DUE again, and the store's job frame
waits a roll interval. -/
def Obligations.MismatchKeepsOrCountsAttempt : Prop :=
  (∀ (chars : List WireChar) (breaking : Bool) (s : State), s.transmitter = .frame chars breaking →
      (∀ e ∈ s.fe.txQueue, e.withdrawn = false) →
      (breaking = true → ∃ t, exec .transmitOvertaken s = .next t ∧ t.transmitter = .idle
        ∧ t.fe.txQueue = s.fe.txQueue.map (fun e => { e with onLine := false }) ∧ t.counters = s.counters
        ∧ cellFrame s t ∧ t.pool = s.pool ∧ t.line = s.line)
      ∧ (s.line.loopInternal = false →
        ∃ t, exec (.readbackMismatch (.frame .arbitrationData) true) s = .next t ∧ t.transmitter = .idle
          ∧ t.fe.txQueue = s.fe.txQueue.map (fun e => { e with onLine := false })
          ∧ t.counters = { s.counters with arbLosses := satInc s.counters.arbLosses }
          ∧ cellFrame s t ∧ t.pool = s.pool ∧ t.line = s.line))
  ∧ (∀ (part : FramePart) (chars : List WireChar) (breaking : Bool) (e : TxEntry) (s : State),
      s.transmitter = .frame chars breaking → s.line.loopInternal = false → s.lineEntry = some e → e.withdrawn = false →
      part ≠ .vetoSlot →
      (part ≠ .arbitrationData → ∃ t, exec (.readbackMismatch (.frame part) true) s = .next t ∧ t.transmitter = .idle
        ∧ t.fe = { s.fe with heldOutcome := some .bitError } ∧ t.counters = s.counters ∧ t.pool = s.pool)
      ∧ (e.attempts < 3 → ∃ t, exec (.readbackMismatch (.frame part) false) s = .next t ∧ t.transmitter = .idle
        ∧ (∃ l r, s.fe.txQueue = l ++ e :: r ∧ (∀ x ∈ l, x.onLine = false)
            ∧ t.fe.txQueue = l ++ { e with attempts := e.attempts + 1, onLine := false } :: r)
        ∧ t.counters = s.counters ∧ t.pool = s.pool ∧ t.peers = s.peers ∧ t.fe.rxQueue = s.fe.rxQueue)
      ∧ (3 ≤ e.attempts → ∃ t, exec (.readbackMismatch (.frame part) false) s = .next t ∧ t.transmitter = .idle
        ∧ t.counters = { s.counters with txFail := satInc s.counters.txFail }
        ∧ t.pool = s.pool ∧ t.fe.rxQueue = s.fe.rxQueue
        ∧ (e.origin = .peerTable → t.fe.txQueue = s.fe.txQueue.filter (fun x => !x.onLine)
            ∧ (s.lineFault = false →
                t.peers = { s.peers with rollTimer := some ⟨s.timeBase, s.constants.rollIntervalMs * 1000⟩ }))
        ∧ (∀ h head family st, e.origin = .swapUnit h → e.payload = .pool (.claim head family) →
            (s.swap h).outstanding = some ⟨.claim head family, false, st⟩ → (s.swap h).state = .claiming →
            (s.swap h).wants = [] →
            t.swap h = { s.swap h with outstanding := none, state := .backoff, backoffEnded := false,
                                       backoff := some ⟨s.timeBase, 10 * (s.constants.rollIntervalMs * 1000)⟩,
                                       backoffFamily := family.setWidth 4 })
        ∧ (∀ h record reason, e.origin = .headUnit h → (s.head h).record = some record → (s.head h).report = .outstanding →
            e.payload = .pool (.quarantine record.serial reason 1) →
            t.head h = { s.head h with report := .due,
                                       reportRetry := some ⟨s.timeBase, s.constants.rollIntervalMs * 1000⟩ })
        ∧ (∀ f, e.origin = .storeUnit → e.payload = .pool f → s.store.jobFrame = some ⟨f, .submitted⟩ →
            s.store.track = none → s.store.sendList = [] →
            t.store = { s.store with
              jobFrame := some ⟨f, .waiting ⟨s.timeBase, s.constants.rollIntervalMs * 1000⟩⟩ })))

/-- Submission to the transmit queue by the first row of R32 that applies: answered *not sent*, admitted behind the frames
of its class, or held.

HELD_REQUEST_ADMIT (R32): a removal admits the held request of lowest class, the one held longest among those of one
class, of any block. A block with nothing else to submit then submits nothing; a DUE breakage report of a head unit
(R148), a send-list request of the store unit (R168) and a frame kept by the image unit are submitted behind it.

A held request that the first three rows now bar is dropped, and its block hears *not sent*: a swap unit's CLAIM leads to
BACKOFF (R154), and its RELEASE or MOUNT waits a roll interval (R152), as do a breakage report (R148), a reconciliation
DECLARE (R108) and the store's job frame and track scan's frame (R168); a send-list request is dropped, and a
RELEASE(EXPIRED) is no longer pending (R178); a ROLL leaves its timer stopped in LINE_FAULT (R49).

The model's choices: an admission is a step of its own, and the room counts the admissions owed (notes/assumptions/10.md);
a frame of the image unit waits for its held request (notes/assumptions/11.md). -/
def Obligations.SubmissionAndAdmission : Prop :=
  (∀ (o : Origin) (p : Payload) (s : State),
      (s.lineFault = true → submit o p s = (s, .notSent))
      ∧ (p.isPool = true → (s.pool.sync ≠ .synced ∨ s.fe.deaf = true ∨ s.peers.familyMismatch = true
          ∨ s.peers.roleClash = true) → submit o p s = (s, .notSent))
      ∧ (∀ head family, p = .pool (.claim head family) →
          (∃ e ∈ s.fe.txQueue, ∃ g, e.payload = .pool (.claim head g)) → submit o p s = (s, .notSent))
      ∧ (s.refusedAtOnce p = false → s.fe.txQueue.length + s.fe.admissionsDue < 6 →
          (submit o p s).2 = .admitted
          ∧ ∃ l r, s.fe.txQueue = l ++ r ∧ (submit o p s).1.fe.txQueue = l ++ ⟨o, p, 0, false, false⟩ :: r
            ∧ (∀ e ∈ l, e.payload.cls ≤ p.cls) ∧ (∀ e, r.head? = some e → p.cls < e.payload.cls))
      ∧ (s.refusedAtOnce p = false → 6 ≤ s.fe.txQueue.length + s.fe.admissionsDue →
          (submit o p s).2 = .held ∧ (submit o p s).1.fe = { s.fe with held := s.fe.held ++ [(o, p)] }))
  ∧ (∀ (p : Payload) (o : Origin) (before after : List (Origin × Payload)) (s : State), 0 < s.fe.admissionsDue →
      s.fe.held = before ++ (o, p) :: after → (∀ r ∈ before, p.cls < r.2.cls) → (∀ r ∈ after, p.cls ≤ r.2.cls) →
      (∀ r ∈ before ++ after, r.1 ≠ o) → 0 < s.constants.rollIntervalMs →
      let again : Timer := ⟨s.timeBase, s.constants.rollIntervalMs * 1000⟩
      let submitted : Origin → Payload → State → Prop := fun o q t =>
        (⟨o, q, 0, false, false⟩ : TxEntry) ∈ t.fe.txQueue ∨ (o, q) ∈ t.fe.held
      -- The block has nothing that waits to be submitted.
      let quiet : Prop := match o with
        | .peerTable => True
        | .swapUnit h => (s.swap h).wants = []
            ∧ ∀ head family, p = .pool (.claim head family) → head = headByte h
        | .headUnit h => (s.head h).report ≠ .due ∧ ∀ f tm, (s.head h).declare ≠ some ⟨f, some tm⟩
        | .imageUnit => s.image.deferred = none
        | .storeUnit => (∀ f, s.store.jobFrame ≠ some ⟨f, .due⟩) ∧ (∀ f, s.store.track ≠ some ⟨f, .due⟩)
            ∧ s.store.sendList = []
      ∃ t, exec .heldRequestAdmit s = .next t ∧ cellFrame s t ∧ t.pool = s.pool ∧ t.fe.rxQueue = s.fe.rxQueue
        ∧ (s.refusedAtOnce p = false → quiet →
            t.fe.held = before ++ after ∧ t.fe.admissionsDue = s.fe.admissionsDue - 1
            ∧ t.heads = s.heads ∧ t.swaps = s.swaps ∧ t.store = s.store ∧ t.image = s.image ∧ t.peers = s.peers
            ∧ ∃ l r, s.fe.txQueue = l ++ r ∧ t.fe.txQueue = l ++ ⟨o, p, 0, false, false⟩ :: r
              ∧ (∀ e ∈ l, e.payload.cls ≤ p.cls) ∧ (∀ e, r.head? = some e → p.cls < e.payload.cls))
        -- What waits behind the admitted request is submitted.
        ∧ (∀ h r, s.refusedAtOnce p = false → p.isPool = true → o = .headUnit h → (s.head h).record = some r →
            (s.head h).report = .due → (s.head h).reportRetry = none → (s.head h).declare = none →
            submitted o p t ∧ submitted o (.pool (.quarantine r.serial (s.head h).reportReason 1)) t
            ∧ t.head h = { s.head h with report := .outstanding })
        ∧ (∀ f, s.refusedAtOnce p = false → p.isPool = true → o = .storeUnit → s.store.jobFrame = none →
            s.store.track = none → s.store.sendList = [f] → f.kind ≠ .claim →
            submitted o p t ∧ submitted o (.pool f) t ∧ t.store = { s.store with sendList := [] })
        ∧ (∀ q, s.refusedAtOnce p = false → o = .imageUnit → s.image.deferred = some q → q.isPool = false →
            submitted o p t ∧ submitted o q t ∧ t.image = { s.image with deferred := none })
        -- The request is dropped.
        ∧ (s.refusedAtOnce p = true → quiet →
            t.fe.held = before ++ after ∧ (o ≠ .imageUnit → t.fe.txQueue = s.fe.txQueue)
            ∧ (o = .peerTable → s.lineFault = true → t.peers = s.peers)
            ∧ (∀ h head family, o = .swapUnit h → p = .pool (.claim head family) →
                (s.swap h).outstanding = some ⟨.claim head family, false, .claiming⟩ → (s.swap h).state = .claiming →
                t.swap h = { s.swap h with outstanding := none, state := .backoff, backoffEnded := false,
                                           backoff := some ⟨s.timeBase, 10 * (s.constants.rollIntervalMs * 1000)⟩,
                                           backoffFamily := family.setWidth 4 })
            ∧ (∀ h f st, o = .swapUnit h → p = .pool f → f.kind = .release ∨ f.kind = .mount ∨ f.kind = .quarantine →
                (s.swap h).outstanding = some ⟨f, false, st⟩ → (s.swap h).state ≠ .idle →
                t.swap h = { s.swap h with outstanding := none, retries := (s.swap h).retries ++ [⟨f, again, st⟩] })
            ∧ (∀ h f, o = .headUnit h → p = .pool f → (s.head h).declare = some ⟨f, none⟩ → f.kind = .declare →
                t.head h = { s.head h with declare := some ⟨f, some again⟩ })
            ∧ (∀ h r reason, o = .headUnit h → p = .pool (.quarantine r.serial reason 1) →
                (s.head h).record = some r → (s.head h).report = .outstanding →
                t.head h = { s.head h with report := .due, reportRetry := some again })
            ∧ (∀ f, o = .storeUnit → p = .pool f → s.store.jobFrame = some ⟨f, .submitted⟩ →
                t.store = { s.store with jobFrame := some ⟨f, .waiting again⟩ })
            ∧ (∀ f, o = .storeUnit → p = .pool f → s.store.jobFrame ≠ some ⟨f, .submitted⟩ →
                s.store.track = some ⟨f, .submitted⟩ →
                t.store = { s.store with track := some ⟨f, .waiting again⟩ })
            ∧ (∀ f, o = .storeUnit → p = .pool f → s.store.jobFrame ≠ some ⟨f, .submitted⟩ →
                s.store.track ≠ some ⟨f, .submitted⟩ →
                t.store.sendList = []
                ∧ t.store = { s.store with claims := t.store.claims }
                ∧ (∀ x, f = .release x releaseExpired → t.store.claims = s.store.claims.map fun c =>
                    if c.serial = x then { c with releasePending := false } else c)
                ∧ ((∀ x, f ≠ .release x releaseExpired) → t.store.claims = s.store.claims))))

/-! ## Stop calls (chapter 3) -/

/-- STOP_CALL_SEND_COMPLETE, and READBACK_MISMATCH in a stop call (R40, R41, R42): at the end the request is removed and
the pin released; a second request is sent at once, with the latch set and the line busy. A mismatch up to the cell code
ends the sending with its request awaiting resolution; one in the sender or the complement lets it go on. -/
def Obligations.StopCallCompletes : Prop :=
  ∀ (chars : List WireChar) (late : Bool) (r : StopRequest) (s : State), s.transmitter = .stopCall chars late →
    (s.stop.requests = [r] → ∃ t, exec .stopCallSendComplete s = .next t ∧ t.transmitter = .idle
      ∧ t.stop = { s.stop with requests := [] } ∧ t.fe = s.fe ∧ t.pool = s.pool ∧ cellFrame s t
      ∧ t.counters = s.counters)
    ∧ (∀ r', s.stop.requests = [r, r'] → ∃ t, exec .stopCallSendComplete s = .next t
      ∧ requestSent s r' [] t
      ∧ t.stop = { s.stop with requests := [⟨r'.sends + 1, false⟩], latch := true }
      ∧ t.fe = s.fe ∧ t.pool = s.pool ∧ cellFrame s t)
    ∧ (∀ part b rs, s.line.loopInternal = false → late = false → s.stop.requests = r :: rs →
        ∃ t, exec (.readbackMismatch (.stopCall part) b) s = .next t ∧ t.fe = s.fe ∧ t.pool = s.pool ∧ cellFrame s t
          ∧ (part ≠ .sender → part ≠ .complement → t.transmitter = .idle
              ∧ t.stop = { s.stop with requests := { r with awaiting := true } :: rs })
          ∧ (part = .sender ∨ part = .complement → t.transmitter = .stopCall chars true ∧ t.stop = s.stop))

/-- STOP_CHARACTER (R42 to R46): three good sync characters lead to the cell code; a fifth match recognises the call and
sets the latch where the station obeys peers, and the cell-code character that remains is taken whatever it is; a second
miss ends the attempt; the sender's character is kept, and the complement's completes the attempt with a stop event. A
matcher that is idle takes no character.

A request of this station that awaits resolution (R42) is satisfied by a recognition and by a completion, and sent again
by a failed attempt, or removed after its fourth sending; a second request is sent once the first is removed.

The model's choice (notes/assumptions/55.md, and 67.md where that run is past): where the attempt fails on a character
with a framing mark, what follows for the request is held until the run that spoils the character is classed
(DOMINANT_RUN_END). -/
def Obligations.StopCharacterIsMatched : Prop :=
  (∀ (c : CharSamples) (s : State), s.stop.matcher = .idle ∨ decideCharacter c = none →
      exec (.stopCharacter c) s = .next s)
  ∧ ∀ (c : CharSamples) (ch : Character) (s : State), decideCharacter c = some ch →
    let good : Prop := ch.mark = true ∧ ch.framing = false
    let hit : Prop := ch.data = s.constants.cellCode ∧ good
    let event : Time → Byte → Bool → StopEvent := fun stamp data sound => ⟨stamp,
      if sound = true ∧ good ∧ 1 ≤ data.toNat ∧ data.toNat ≤ 30 ∧ data.toNat + ch.data.toNat = 255
      then some (data.setWidth 5) else none⟩
    let after : Time → Nat → Nat → Matcher := fun stamp taken missed =>
      if taken + 1 = 6 then .sender stamp else .code stamp (taken + 1) 5 missed
    let fails : Prop :=
      (∃ stamp n, s.stop.matcher = .sync stamp n ∧ ¬(ch.data = 0xAA#8 ∧ good))
        ∨ (∃ stamp taken matched missed, s.stop.matcher = .code stamp taken matched missed ∧ matched < 5 ∧ 1 ≤ missed
            ∧ ¬hit)
    -- The characters that decide nothing yet.
    (∀ stamp n, s.stop.matcher = .sync stamp n → ch.data = 0xAA#8 ∧ good →
      ∃ t, exec (.stopCharacter c) s = .next t ∧ t.fe = s.fe ∧ t.pool = s.pool ∧ cellFrame s t
        ∧ t.stop = { s.stop with matcher := if 2 ≤ n then .code stamp 0 0 0 else .sync stamp (n + 1) })
    ∧ (∀ stamp taken matched missed, s.stop.matcher = .code stamp taken matched missed → matched < 4 → hit →
      ∃ t, exec (.stopCharacter c) s = .next t ∧ t.fe = s.fe ∧ t.pool = s.pool ∧ cellFrame s t
        ∧ t.stop = { s.stop with matcher := .code stamp (taken + 1) (matched + 1) missed })
    ∧ (∀ stamp taken matched, s.stop.matcher = .code stamp taken matched 0 → matched < 5 → ¬hit →
      ∃ t, exec (.stopCharacter c) s = .next t ∧ t.fe = s.fe ∧ t.pool = s.pool ∧ cellFrame s t
        ∧ t.stop = { s.stop with matcher := .code stamp (taken + 1) matched 1 })
    ∧ (∀ stamp taken missed, s.stop.matcher = .code stamp taken 5 missed →
      ∃ t, exec (.stopCharacter c) s = .next t ∧ t.fe = s.fe ∧ t.pool = s.pool ∧ cellFrame s t
        ∧ t.stop = { s.stop with matcher := .sender stamp })
    ∧ (∀ stamp, s.stop.matcher = .sender stamp →
      ∃ t sound, exec (.stopCharacter c) s = .next t ∧ t.fe = s.fe ∧ t.pool = s.pool ∧ cellFrame s t
        ∧ t.stop = { s.stop with matcher := .complement stamp ch.data sound } ∧ (sound = true ↔ good))
    -- Recognition, completion and failure, with no request awaiting resolution.
    ∧ (s.awaitingResolution = false →
      (∀ stamp taken missed, s.stop.matcher = .code stamp taken 4 missed → hit →
        ∃ t, exec (.stopCharacter c) s = .next t ∧ t.fe = s.fe ∧ t.pool = s.pool ∧ cellFrame s t
          ∧ t.stop = { s.stop with matcher := after stamp taken missed
                                   latch := s.stop.latch || s.constants.obeyPeerStop })
      ∧ (∀ stamp data sound, s.stop.matcher = .complement stamp data sound →
        ∃ t, exec (.stopCharacter c) s = .next t ∧ t.fe = s.fe ∧ t.pool = s.pool ∧ cellFrame s t
          ∧ t.stop = { s.stop with matcher := .idle, event := some (event stamp data sound) })
      ∧ (fails → ch.framing = false →
        ∃ t, exec (.stopCharacter c) s = .next t ∧ t.fe = s.fe ∧ t.pool = s.pool ∧ cellFrame s t
          ∧ attemptFails s s.transmitter t))
    -- Failure on a character that a run still going on has spoiled.
    ∧ (fails → ch.framing = true →
      ∃ t, exec (.stopCharacter c) s = .next t ∧ t.fe = s.fe ∧ t.pool = s.pool ∧ cellFrame s t
        ∧ t.transmitter = s.transmitter ∧ t.line = s.line
        ∧ t.stop = { s.stop with matcher := .idle, failHeld := s.awaitingResolution })
    -- The same with this station's own request awaiting resolution.
    ∧ (∀ r rs, s.stop.requests = r :: rs → r.awaiting = true →
      let removed : State → Prop := fun t => requestRemoved s s.transmitter rs t ∧ (rs = [] → t.fe = s.fe)
      (∀ stamp taken missed, s.stop.matcher = .code stamp taken 4 missed → hit →
        ∃ t, exec (.stopCharacter c) s = .next t ∧ t.pool = s.pool ∧ cellFrame s t ∧ removed t
          ∧ t.stop.matcher = after stamp taken missed
          ∧ (rs = [] → t.stop.latch = (s.stop.latch || s.constants.obeyPeerStop)))
      ∧ (∀ stamp data sound, s.stop.matcher = .complement stamp data sound →
        ∃ t, exec (.stopCharacter c) s = .next t ∧ t.pool = s.pool ∧ cellFrame s t ∧ (rs = [] → t.fe = s.fe)
          ∧ attemptCompletes s s.transmitter (event stamp data sound) t)
      ∧ (fails → ch.framing = false →
        ∃ t, exec (.stopCharacter c) s = .next t ∧ t.pool = s.pool ∧ cellFrame s t
          ∧ (4 ≤ r.sends → rs = [] → t.fe = s.fe) ∧ attemptFails s s.transmitter t))

/-! ## The peer table (chapter 4) -/

/-- ROLL_TIMER_EXPIRE (R31, R49): the running timer expires and stops, and a ROLL joins the transmit queue, behind every
frame of its class or a lower one; in LINE_FAULT none does. A timer that has not come to its length goes on.

The model's choices: an expiry that is not due changes nothing (notes/assumptions/3.md); the room for a frame counts the
admissions owed (notes/assumptions/10.md). -/
def Obligations.RollTimerSubmitsRoll : Prop :=
  ∀ (tm : Timer) (s : State), s.peers.rollTimer = some tm →
    (tm.length ≤ (s.timeBase - tm.start).toNat →
      ∃ t, exec .rollTimerExpire s = .next t ∧ t.peers = { s.peers with rollTimer := none } ∧ t.pool = s.pool
        ∧ t.fe.rxQueue = s.fe.rxQueue ∧ t.counters = s.counters ∧ cellFrame s t
        ∧ (s.lineFault = true → t.fe = s.fe)
        ∧ (s.lineFault = false → s.fe.txQueue.length + s.fe.admissionsDue < 6 →
            ∃ l r, s.fe.txQueue = l ++ r ∧ t.fe.txQueue = l ++ ⟨.peerTable, .roll, 0, false, false⟩ :: r
              ∧ ∀ e, r.head? = some e → 5 < e.payload.cls)
        ∧ (s.lineFault = false → 6 ≤ s.fe.txQueue.length + s.fe.admissionsDue →
            t.fe = { s.fe with held := s.fe.held ++ [(.peerTable, .roll)] }))
    ∧ ((s.timeBase - tm.start).toNat < tm.length → exec .rollTimerExpire s = .next s)

/-- ROLL (R51, R53) for a sender that has a record: the record takes the item's stamp and role and the values of the
ROLL, and is LIVE; one that was SILENT leaves the silent order; the item's other records stay. An own ROLL is passed
over; as the last item of a DEAF station's receive queue it ends DEAF, with the ask that follows (R37, R94). A sender
without a record is learned by the rows of R52 with the values of the ROLL, or counted as not learned.

ROLL compared (R56, R57, R106) for a sender that has a record or is learned at a free position: at a SYNCED station that
is not doubtful and a ROLL of a synced, certain sender of the other role, a fitting generation and digest clear the
sender's disagreement, and a grinder that disagrees with the store carries out a pool resync and asks for an image where
it may. A disagreement with a grinder is recorded, and one with a second station while another's is recorded is such a
divergence too.

A store's ROLL with another family digest puts a grinder into FAMILY_MISMATCH, and a grinder's is counted (R58); a
store's ROLL from a lower number puts a store into ROLE_CLASH (R59). Each is a pool resync without an ask. A pool resync
is carried out at the pool engine, in the transmit queue, at the peer table, the image unit, and the swap, head or store
units (R105, R108, R148, R166, R179, R180).

The model's choice (notes/assumptions/51.md): a swap unit's frame that waits for its next submission is forgotten at a
pool resync with the outstanding one. -/
def Obligations.RollIsTakenAndCompared : Prop :=
  (∀ (i : RxItem) (v : RollValues) (r : PeerRecord) (rest : List RxItem) (s : State), s.isLive = true →
      s.fe.rxQueue = i :: rest → i.kind = .roll → i.forPeers = true → rollValues i = some v →
      (i.own = none → s.peer i.sender = some r →
        ∃ t, exec .roll s = .next t ∧ cellFrame s t
          ∧ t.peers.records = s.peers.records.map (fun x => if x.station = i.sender then
              { x with lastHeard := i.stamp, role := i.role, silent := false, roll := some v } else x)
          ∧ (r.silent = true → t.peers.silentOrder = s.peers.silentOrder.filter fun x => x != i.sender)
          ∧ (r.silent = false → t.peers.silentOrder = s.peers.silentOrder)
          ∧ t.peers.rollTimer = s.peers.rollTimer)
      ∧ (i.own.isSome = true → s.fe.deaf = false →
        ∃ t, exec .roll s = .next t ∧ t.peers = s.peers ∧ t.pool = s.pool ∧ t.fe.txQueue = s.fe.txQueue)
      ∧ (i.own.isSome = true → s.fe.deaf = true → rest = [] → i.forPool = false → i.forImage = false →
        ∃ t, exec .roll s = .next t ∧ cellFrame s t ∧ t.peers = s.peers ∧ deafEnds s t)
      ∧ (∀ pos, i.own = none → s.peer i.sender = none → (∀ r ∈ s.peers.records, r.pos ≠ pos) → pos < 16 →
          (∀ k < pos, ∃ r ∈ s.peers.records, r.pos = k) →
        ∃ t, exec .roll s = .next t ∧ cellFrame s t ∧ t.counters.unlearned = s.counters.unlearned
          ∧ t.peers.silentOrder = s.peers.silentOrder
          ∧ ∀ x, x ∈ t.peers.records ↔ x = ⟨pos, i.sender, i.role, i.stamp, false, some v⟩ ∨ x ∈ s.peers.records)
      ∧ (i.own = none → s.peer i.sender = none → (∀ k < 16, ∃ x ∈ s.peers.records, x.pos = k) →
        (∀ r, (∃ rest, s.peers.silentOrder = r.station :: rest ∧ s.peer r.station = some r)
            ∨ (s.peers.silentOrder = [] ∧ i.role = .store ∧ r ∈ s.peers.records ∧ r.role = .grinder ∧ r.silent = false
                ∧ ∀ x ∈ s.peers.records, x ≠ r → x.role = .grinder → x.silent = false →
                    (s.timeBase - x.lastHeard).toNat < (s.timeBase - r.lastHeard).toNat) →
          ∃ t, exec .roll s = .next t ∧ cellFrame s t ∧ t.counters.unlearned = s.counters.unlearned
            ∧ t.peers.silentOrder = s.peers.silentOrder.filter (fun x => x != r.station)
            ∧ ∀ x, x ∈ t.peers.records ↔ x = ⟨r.pos, i.sender, i.role, i.stamp, false, some v⟩
                ∨ (x ∈ s.peers.records ∧ x.station ≠ r.station))
        ∧ (s.peers.silentOrder = [] → i.role = .grinder ∨ (∀ r ∈ s.peers.records, r.role = .store ∨ r.silent = true) →
          ∃ t, exec .roll s = .next t ∧ cellFrame s t ∧ t.counters.unlearned = satInc s.counters.unlearned
            ∧ t.peers.records = s.peers.records ∧ t.peers.silentOrder = s.peers.silentOrder)))
  ∧ (∀ (i : RxItem) (v : RollValues) (s : State), s.isLive = true → s.fe.rxQueue = [i] → i.kind = .roll →
      i.forPeers = true → rollValues i = some v → i.own = none →
      ((s.peer i.sender).isSome = true ∨ ∃ k < 16, ∀ r ∈ s.peers.records, r.pos ≠ k) → s.synced = true →
      i.synced = true → i.doubtful = false → i.role = .store → s.isStore = false → v.familyDigest = s.familyDigest →
      s.fe.deaf = false →
      (v.generation = s.pool.generation → v.digest = s.pool.digest →
        ∃ t, exec .roll s = .next t ∧ t.pool = s.pool ∧ t.fe.doubtful = false
          ∧ t.peers.disagreement = s.peers.disagreement.filter fun d => d.station != i.sender)
      ∧ (¬(v.generation = s.pool.generation ∧ v.digest = s.pool.digest) →
        ∃ t, exec .roll s = .next t ∧ cellFrame s t ∧ divergentResynced s t))
  ∧ (∀ (i : RxItem) (v : RollValues) (s : State), s.isLive = true → s.fe.rxQueue = [i] → i.kind = .roll →
      i.forPeers = true → rollValues i = some v → i.own = none →
      ((s.peer i.sender).isSome = true ∨ ∃ k < 16, ∀ r ∈ s.peers.records, r.pos ≠ k) → s.fe.deaf = false →
      (i.role = .grinder → s.synced = true → i.synced = true → i.doubtful = false →
          ¬(v.generation = s.pool.generation ∧ v.digest = s.pool.digest) →
        (s.peers.disagreement = none ∨ (∃ d, s.peers.disagreement = some d ∧ d.station = i.sender) →
          ∃ t, exec .roll s = .next t ∧ cellFrame s t ∧ t.pool = s.pool
            ∧ t.peers.disagreement = some ⟨i.sender, i.stamp⟩)
        ∧ (∀ d, s.peers.disagreement = some d → d.station ≠ i.sender →
          ∃ t, exec .roll s = .next t ∧ cellFrame s t ∧ t.peers.familyMismatch = s.peers.familyMismatch
            ∧ t.peers.roleClash = s.peers.roleClash ∧ divergentResynced s t))
      ∧ (v.familyDigest ≠ s.familyDigest →
        (i.role = .grinder → ∃ t, exec .roll s = .next t ∧ cellFrame s t
          ∧ t.counters.familyDiff = satInc s.counters.familyDiff
          ∧ t.peers.familyMismatch = s.peers.familyMismatch)
        ∧ (i.role = .store → s.isStore = false → s.peers.familyMismatch = false →
          ∃ t, exec .roll s = .next t ∧ cellFrame s t ∧ t.peers.familyMismatch = true ∧ t.pool.sync = .unsynced
            ∧ resynced false s t))
      ∧ (i.role = .store → s.isStore = true → s.peers.roleClash = false →
        (i.sender.toNat < s.station.toNat → ∃ t, exec .roll s = .next t ∧ cellFrame s t ∧ t.peers.roleClash = true
          ∧ t.pool.sync = .unsynced ∧ resynced false s t)
        ∧ (s.station.toNat ≤ i.sender.toNat → ∃ t, exec .roll s = .next t ∧ cellFrame s t ∧ t.peers.roleClash = false
          ∧ t.pool = s.pool)))

/-- PEER_ITEM (R51, R52, R53): a known sender's record is refreshed; an unknown sender is learned at the lowest free
position, LIVE and without roll values, while there is one. With 16 records it takes the place of the record that has
been SILENT longest, whose place in the silent order and disagreement go; with 16 LIVE ones a store takes that of the
LIVE grinder heard longest ago, and a grinder, or a store where there is no grinder, is not learned, and counted. An own
item is passed over. The last item of a DEAF station's receive queue, whoever sent it, ends DEAF as it leaves, and the
image unit asks where it may (R37, R94). -/
def Obligations.PeerItemLearnsSender : Prop :=
  ∀ (i : RxItem) (rest : List RxItem) (s : State), s.isLive = true → s.fe.rxQueue = i :: rest → i.kind ≠ .roll →
    i.forPeers = true →
    (∀ pos, i.own = none → s.peer i.sender = none → (∀ r ∈ s.peers.records, r.pos ≠ pos) → pos < 16 →
        (∀ k < pos, ∃ r ∈ s.peers.records, r.pos = k) →
      ∃ t, exec .peerItem s = .next t ∧ cellFrame s t
        ∧ (⟨pos, i.sender, i.role, i.stamp, false, none⟩ : PeerRecord) ∈ t.peers.records
        ∧ (∀ r ∈ s.peers.records, r ∈ t.peers.records) ∧ t.peers.records.length = s.peers.records.length + 1
        ∧ t.peers.silentOrder = s.peers.silentOrder ∧ t.pool.table = s.pool.table)
    ∧ (∀ r, i.own = none → s.peer i.sender = some r →
      ∃ t, exec .peerItem s = .next t ∧ cellFrame s t ∧ t.pool.table = s.pool.table
        ∧ t.peers.records = s.peers.records.map (fun x => if x.station = i.sender then
            { x with lastHeard := i.stamp, role := i.role, silent := false } else x))
    ∧ (i.own = none → s.peer i.sender = none → (∀ k < 16, ∃ r ∈ s.peers.records, r.pos = k) →
        s.peers.silentOrder = [] → i.role = .grinder ∨ (∀ r ∈ s.peers.records, r.role = .store ∨ r.silent = true) →
      ∃ t, exec .peerItem s = .next t ∧ cellFrame s t ∧ t.peers = s.peers
        ∧ t.counters.unlearned = satInc s.counters.unlearned)
    ∧ (∀ r, i.own = none → s.peer i.sender = none → (∀ k < 16, ∃ x ∈ s.peers.records, x.pos = k) →
        (∃ rest, s.peers.silentOrder = r.station :: rest ∧ s.peer r.station = some r)
          ∨ (s.peers.silentOrder = [] ∧ i.role = .store ∧ r ∈ s.peers.records ∧ r.role = .grinder ∧ r.silent = false
              ∧ ∀ x ∈ s.peers.records, x ≠ r → x.role = .grinder → x.silent = false →
                  (s.timeBase - x.lastHeard).toNat < (s.timeBase - r.lastHeard).toNat) →
      ∃ t, exec .peerItem s = .next t ∧ cellFrame s t ∧ t.pool.table = s.pool.table
        ∧ (∀ x, x ∈ t.peers.records ↔ x = ⟨r.pos, i.sender, i.role, i.stamp, false, none⟩
            ∨ (x ∈ s.peers.records ∧ x.station ≠ r.station))
        ∧ t.peers.silentOrder = s.peers.silentOrder.filter (fun x => x != r.station)
        ∧ t.peers.disagreement = s.peers.disagreement.filter (fun d => d.station != r.station)
        ∧ t.counters.unlearned = s.counters.unlearned)
    ∧ (i.own.isSome = true → ∃ t, exec .peerItem s = .next t ∧ t.peers = s.peers ∧ t.pool.table = s.pool.table
        ∧ cellFrame s t)
    ∧ (s.fe.deaf = true → rest = [] → i.forPool = false → i.forImage = false →
      ∃ t, exec .peerItem s = .next t ∧ cellFrame s t ∧ deafEnds s t)

/-- PEER_SILENCE_TIMEOUT and DISAGREEMENT_RECORD_EXPIRE (R54, R57): four roll intervals after its last-heard stamp a LIVE
record is SILENT, at the tail of the silent order and without a disagreement record; four after its stamp a disagreement
record is forgotten. -/
def Obligations.PeerTimersExpire : Prop :=
  ∀ (st : Station) (s : State), s.isLive = true →
    (∀ r, s.peer st = some r → r.silent = false →
        4 * (s.constants.rollIntervalMs * 1000) ≤ (s.timeBase - r.lastHeard).toNat →
      ∃ t, exec (.peerSilenceTimeout st) s = .next t ∧ cellFrame s t ∧ t.pool = s.pool ∧ t.line = s.line
        ∧ t.fe.rxQueue = s.fe.rxQueue
        ∧ t.peers = { s.peers with
            records := s.peers.records.map fun x => if x.station = st then { x with silent := true } else x
            silentOrder := s.peers.silentOrder ++ [st]
            disagreement := s.peers.disagreement.filter fun d => d.station != st })
    ∧ (∀ d, s.peers.disagreement = some d →
        4 * (s.constants.rollIntervalMs * 1000) ≤ (s.timeBase - d.stamp).toNat →
      exec .disagreementRecordExpire s = .next { s with peers := { s.peers with disagreement := none } })

/-! ## The sister pool (chapter 5) -/

/-- The role check (R69): store kinds from a grinder and grinder kinds from a store are refused ROLE, and no other frame is.

The field check (R70): a frame of a role that may send it is refused BAD_FIELD exactly when a data field lies outside
its range. -/
def Obligations.RoleAndFieldChecks : Prop :=
  (∀ (fams : List Family) (t : Table) (st : Station) (role : Role) (f : PoolFrame),
      applyFrame fams t st role f = .refused .role ↔
        (f.kind ∈ [Kind.enter, .dispatch, .deliver, .rack, .remove] ∧ role ≠ .store)
        ∨ (f.kind ∈ [Kind.claim, .mount, .declare] ∧ role ≠ .grinder))
  ∧ (∀ (fams : List Family) (t : Table) (st : Station) (role : Role) (f : PoolFrame), roleAllowed f.kind role = true →
      (applyFrame fams t st role f = .refused .badField ↔
        match f with
        | .enter serial family diameter slot => serial = 0 ∨ 15 < family.toNat ∨ diameter = 0 ∨ 47 < slot.toNat
        | .claim head family => 1 < head.toNat ∨ 15 < family.toNat
        | .dispatch serial | .deliver serial => serial = 0
        | .mount head new old _ spent => 1 < head.toNat ∨ new = 0 ∨ old = new ∨ ¬(spent = 0 ∨ spent = 1)
        | .declare head serial family _ => 1 < head.toNat ∨ serial = 0 ∨ 15 < family.toNat
        | .release serial reason => serial = 0 ∨ reason ∉ ([1, 2, 3, 4, 5] : List Byte)
        | .quarantine serial reason keep =>
          serial = 0 ∨ reason ∉ ([1, 2, 3, 4, 5] : List Byte) ∨ ¬(keep = 0 ∨ keep = 1)
        | .rack serial slot => serial = 0 ∨ 47 < slot.toNat
        | .remove serial reason => serial = 0 ∨ reason ∉ ([1, 2, 3] : List Byte)))

/-- ENTER (R72): refused DUPLICATE, SLOT_TAKEN or TABLE_FULL in that order, and otherwise a FREE entry at the lowest free
position with the fields of the frame. -/
def Obligations.EnterAddsFreeEntry : Prop :=
  ∀ (fams : List Family) (t : Table) (st : Station) (serial : Serial) (family : Byte) (diameter : Diameter)
      (slot : Byte), badField (.enter serial family diameter slot) = false → tableLaws t →
    (∀ e ∈ t, e.serial = serial →
      applyFrame fams t st .store (.enter serial family diameter slot) = .refused .duplicate)
    ∧ ((∀ e ∈ t, e.serial ≠ serial) → (∃ e ∈ t, e.slot = some (slot.setWidth 6)) →
      applyFrame fams t st .store (.enter serial family diameter slot) = .refused .slotTaken)
    ∧ ((∀ e ∈ t, e.serial ≠ serial) → (∀ e ∈ t, e.slot ≠ some (slot.setWidth 6)) → t.length = 64 →
      applyFrame fams t st .store (.enter serial family diameter slot) = .refused .tableFull)
    ∧ ((∀ e ∈ t, e.serial ≠ serial) → (∀ e ∈ t, e.slot ≠ some (slot.setWidth 6)) → t.length < 64 →
      ∃ t' e, applyFrame fams t st .store (.enter serial family diameter slot) = .applied t' none
        ∧ (∀ x, x ∈ t' ↔ x ∈ t ∨ x = e)
        ∧ e = ⟨e.pos, serial, family.setWidth 4, .free, false, diameter, none, some (slot.setWidth 6)⟩
        ∧ (∀ x ∈ t, x.pos ≠ e.pos) ∧ ∀ k < e.pos, ∃ x ∈ t, x.pos = k)

/-- CLAIM (R73, R74, R75): HEAD_BUSY while a wheel is on its way to the head, NO_SISTER without an eligible one, and
otherwise the smallest eligible wheel, of equal ones that of the lowest serial, is CLAIMED for the sender's head with its
slot kept; every other entry stays. -/
def Obligations.ClaimSelectsSmallest : Prop :=
  ∀ (fams : List Family) (t : Table) (st : Station) (head family : Byte),
    badField (.claim head family) = false → tableLaws t →
    let h := Head.ofBit (head == 1)
    let fam := familyAt fams (family.setWidth 4)
    let eligibleHere : Entry → Prop := fun e =>
      e.state = .free ∧ e.family = family.setWidth 4
        ∧ fam.minDiameter.toNat + (fam.reserve + 1) * fam.depth < e.diameter.toNat
    ((∃ e ∈ t, e.state ∈ [PoolState.claimed, .transit, .delivered] ∧ e.heldAt st h = true) →
      applyFrame fams t st .grinder (.claim head family) = .refused .headBusy)
    ∧ ((∀ e ∈ t, e.state ∈ [PoolState.claimed, .transit, .delivered] → e.heldAt st h = false) →
        (∀ e ∈ t, ¬eligibleHere e) →
      applyFrame fams t st .grinder (.claim head family) = .refused .noSister)
    ∧ ((∀ e ∈ t, e.state ∈ [PoolState.claimed, .transit, .delivered] → e.heldAt st h = false) →
        (∃ e ∈ t, eligibleHere e) →
      ∃ e ∈ t, eligibleHere e
        ∧ (∀ x ∈ t, eligibleHere x → e.diameter.toNat < x.diameter.toNat
            ∨ (e.diameter = x.diameter ∧ e.serial.toNat ≤ x.serial.toNat))
        ∧ applyFrame fams t st .grinder (.claim head family)
          = .applied (t.map fun x =>
              if x.serial = e.serial then { x with state := .claimed, holder := some ⟨st, h, false⟩ } else x)
            (some { e with state := .claimed, holder := some ⟨st, h, false⟩ }))

/-- DISPATCH (R76): a CLAIMED entry becomes TRANSIT, its holder kept with at-change-position clear and its slot removed.

DELIVER (R77): a TRANSIT entry becomes DELIVERED, its holder kept and at-change-position set. -/
def Obligations.DispatchAndDeliver : Prop :=
  (∀ (fams : List Family) (t : Table) (st : Station) (serial : Serial), serial ≠ 0 → tableLaws t →
      ((∀ e ∈ t, e.serial ≠ serial) → applyFrame fams t st .store (.dispatch serial) = .refused .unknownWheel)
      ∧ (∀ e ∈ t, e.serial = serial → e.state ≠ .claimed →
          applyFrame fams t st .store (.dispatch serial) = .refused .wrongState)
      ∧ (∀ e ∈ t, e.serial = serial → e.state = .claimed →
          applyFrame fams t st .store (.dispatch serial) = .applied (t.map fun x =>
            if x.serial = serial then
              { x with state := .transit, slot := none, holder := x.holder.map fun k => { k with atChange := false } }
            else x) none))
  ∧ (∀ (fams : List Family) (t : Table) (st : Station) (serial : Serial), serial ≠ 0 → tableLaws t →
      ((∀ e ∈ t, e.serial ≠ serial) → applyFrame fams t st .store (.deliver serial) = .refused .unknownWheel)
      ∧ (∀ e ∈ t, e.serial = serial → e.state ≠ .transit →
          applyFrame fams t st .store (.deliver serial) = .refused .wrongState)
      ∧ (∀ e ∈ t, e.serial = serial → e.state = .transit →
          applyFrame fams t st .store (.deliver serial) = .applied (t.map fun x =>
            if x.serial = serial then
              { x with state := .delivered, holder := x.holder.map fun k => { k with atChange := true } }
            else x) none))

/-- MOUNT (R78, R79) of a wheel on its way to the sender's head: the old wheel by its row, every other wheel MOUNTED at the
head QUARANTINED without a holder, and the new wheel MOUNTED there without a slot. -/
def Obligations.MountChangesWheels : Prop :=
  ∀ (fams : List Family) (t : Table) (st : Station) (head : Byte) (new old : Serial) (diameter : Diameter)
      (spent : Byte), badField (.mount head new old diameter spent) = false → tableLaws t →
    let h := Head.ofBit (head == 1)
    ((∀ e ∈ t, e.serial ≠ new) →
      applyFrame fams t st .grinder (.mount head new old diameter spent) = .refused .unknownWheel)
    ∧ ∀ e ∈ t, e.serial = new →
    (e.state ∉ [PoolState.claimed, .transit, .delivered] →
      applyFrame fams t st .grinder (.mount head new old diameter spent) = .refused .wrongState)
    ∧ (e.state ∈ [PoolState.claimed, .transit, .delivered] → e.heldAt st h = false →
      applyFrame fams t st .grinder (.mount head new old diameter spent) = .refused .notHolder)
    ∧ (e.state ∈ [PoolState.claimed, .transit, .delivered] → e.heldAt st h = true →
      applyFrame fams t st .grinder (.mount head new old diameter spent) = .applied (t.map fun x =>
        if x.serial = new then
          { x with state := .mounted, slot := none, holder := some ⟨st, h, false⟩ }
        else if x.state = .mounted ∧ x.heldAt st h = true then
          (if x.serial = old then
            { x with state := .returning, diameter := diameter, spent := spent == 1, holder := some ⟨st, h, true⟩ }
          else { x with state := .quarantined, holder := none })
        else if x.serial = old ∧ x.state = .quarantined ∧ x.heldAt st h = true then
          { x with holder := some ⟨st, h, true⟩ }
        else x) none)

/-- DECLARE (R80, R81): refused for a wheel MOUNTED elsewhere or QUARANTINED, and for a new one in a full table; otherwise
every other wheel MOUNTED at the head is QUARANTINED without a holder and the declared wheel is MOUNTED there with the
family and the diameter of the frame, in its place or as a new entry. -/
def Obligations.DeclareStatesMountedWheel : Prop :=
  ∀ (fams : List Family) (t : Table) (st : Station) (head : Byte) (serial : Serial) (family : Byte)
      (diameter : Diameter), badField (.declare head serial family diameter) = false → tableLaws t →
    let h := Head.ofBit (head == 1)
    let stale : Entry → Entry := fun x =>
      if x.state = .mounted ∧ x.heldAt st h = true then { x with state := .quarantined, holder := none } else x
    (∀ e ∈ t, e.serial = serial → (e.state = .mounted ∧ e.heldAt st h = false) ∨ e.state = .quarantined →
      applyFrame fams t st .grinder (.declare head serial family diameter) = .refused .wrongState)
    ∧ (∀ e ∈ t, e.serial = serial → ¬(e.state = .mounted ∧ e.heldAt st h = false) → e.state ≠ .quarantined →
      applyFrame fams t st .grinder (.declare head serial family diameter) = .applied (t.map fun x =>
        if x.serial = serial then
          ⟨x.pos, serial, family.setWidth 4, .mounted, false, diameter, some ⟨st, h, false⟩, none⟩
        else stale x) none)
    ∧ ((∀ e ∈ t, e.serial ≠ serial) → t.length = 64 →
      applyFrame fams t st .grinder (.declare head serial family diameter) = .refused .tableFull)
    ∧ ((∀ e ∈ t, e.serial ≠ serial) → t.length < 64 →
      ∃ t' pos, applyFrame fams t st .grinder (.declare head serial family diameter) = .applied t' none
        ∧ (∀ x, x ∈ t' ↔ x ∈ t.map stale
            ∨ x = ⟨pos, serial, family.setWidth 4, .mounted, false, diameter, some ⟨st, h, false⟩, none⟩)
        ∧ (∀ x ∈ t, x.pos ≠ pos) ∧ ∀ k < pos, ∃ x ∈ t, x.pos = k)

/-- RELEASE (R82), by its checks in their order: a CLAIMED entry becomes FREE in its slot, and a DELIVERED one RETURNING,
not spent, at the change position of its holder. -/
def Obligations.ReleaseByItsChecks : Prop :=
  ∀ (fams : List Family) (t : Table) (st : Station) (role : Role) (serial : Serial) (reason : Byte),
    badField (.release serial reason) = false → tableLaws t →
    ((∀ e ∈ t, e.serial ≠ serial) → applyFrame fams t st role (.release serial reason) = .refused .unknownWheel)
    ∧ ∀ e ∈ t, e.serial = serial →
      applyFrame fams t st role (.release serial reason) =
        if e.state ≠ .claimed ∧ e.state ≠ .delivered then .refused .wrongState
        else if e.state = .claimed ∧ role = .grinder ∧ e.heldByStation st = false then .refused .notHolder
        else if e.state = .delivered ∧ (role = .store ∨ e.heldByStation st = false) then .refused .notHolder
        else if e.state = .delivered ∧ reason ≠ releaseWindow ∧ reason ≠ releaseNotNeeded then .refused .wrongState
        else .applied (t.map fun x => if x.serial = serial then
            (if e.state = .claimed then { x with state := .free, holder := none }
             else { x with state := .returning, spent := false,
                           holder := x.holder.map fun k => { k with atChange := true } })
          else x) none

/-- QUARANTINE (R83): any entry from the store, and from a grinder one it holds, becomes QUARANTINED without a slot and not
spent; its holder stays as it was where the frame keeps its location.

RACK (R84): a RETURNING entry that is not spent becomes FREE in the given slot, which no entry may name.

REMOVE (R85): a wheel that is claimed, on its way or mounted cannot be removed; any other is deleted. -/
def Obligations.QuarantineRackRemove : Prop :=
  (∀ (fams : List Family) (t : Table) (st : Station) (role : Role) (serial : Serial) (reason keep : Byte),
      badField (.quarantine serial reason keep) = false → tableLaws t →
      ((∀ e ∈ t, e.serial ≠ serial) →
        applyFrame fams t st role (.quarantine serial reason keep) = .refused .unknownWheel)
      ∧ (∀ e ∈ t, e.serial = serial → role = .grinder → e.heldByStation st = false →
        applyFrame fams t st role (.quarantine serial reason keep) = .refused .notHolder)
      ∧ (∀ e ∈ t, e.serial = serial → role = .store ∨ e.heldByStation st = true →
        applyFrame fams t st role (.quarantine serial reason keep) = .applied (t.map fun x =>
          if x.serial = serial then
            { x with state := .quarantined, spent := false, slot := none, holder := if keep = 1 then x.holder else none }
          else x) none))
  ∧ (∀ (fams : List Family) (t : Table) (st : Station) (serial : Serial) (slot : Byte),
      badField (.rack serial slot) = false → tableLaws t →
      ((∀ e ∈ t, e.serial ≠ serial) → applyFrame fams t st .store (.rack serial slot) = .refused .unknownWheel)
      ∧ ∀ e ∈ t, e.serial = serial →
        (e.state ≠ .returning ∨ e.spent = true →
          applyFrame fams t st .store (.rack serial slot) = .refused .wrongState)
        ∧ (e.state = .returning → e.spent = false → (∃ x ∈ t, x.slot = some (slot.setWidth 6)) →
          applyFrame fams t st .store (.rack serial slot) = .refused .slotTaken)
        ∧ (e.state = .returning → e.spent = false → (∀ x ∈ t, x.slot ≠ some (slot.setWidth 6)) →
          applyFrame fams t st .store (.rack serial slot) = .applied (t.map fun x =>
            if x.serial = serial then
              { x with state := .free, spent := false, holder := none, slot := some (slot.setWidth 6) }
            else x) none))
  ∧ (∀ (fams : List Family) (t : Table) (st : Station) (serial : Serial) (reason : Byte),
      badField (.remove serial reason) = false → tableLaws t →
      ((∀ e ∈ t, e.serial ≠ serial) → applyFrame fams t st .store (.remove serial reason) = .refused .unknownWheel)
      ∧ (∀ e ∈ t, e.serial = serial → e.state ∈ [PoolState.claimed, .transit, .delivered, .mounted] →
        applyFrame fams t st .store (.remove serial reason) = .refused .wrongState)
      ∧ (∀ e ∈ t, e.serial = serial → e.state ∈ [PoolState.free, .returning, .quarantined] →
        applyFrame fams t st .store (.remove serial reason) = .applied (t.filter fun x => x.serial ≠ serial) none))

/-- ENTER, CLAIM, DISPATCH, DELIVER, MOUNT, DECLARE, RELEASE, QUARANTINE, RACK and REMOVE at a SYNCED station (R34, R53,
R65, R66, R68, R71): the pool engine's next item, with no ROLL ahead of it that the peer table has still to take, is
taken, and leaves the receive queue once every consumer has taken it and it has come to the head; an applied frame's
table is taken with its digest and the generation rises by one; a refused one leaves table, generation and digest, is
counted, and fills the last-refusal record of the unit that sent it. The pool engine changes in nothing else.

The pool commands at a station that is not SYNCED (R68): the item is taken and ignored; the table, the generation and
the digest stay, and no refusal is counted. The last item of a DEAF station's receive queue ends DEAF as it leaves, and
the image unit asks where it may (R37, R94).

The model's choice (notes/assumptions/66.md): the last-refusal record of a MOUNT holds the serial of its new wheel. -/
def Obligations.PoolCommandBySyncState : Prop :=
  (∀ (c : Instr) (k : Kind) (i : RxItem) (f : PoolFrame) (ahead behind : List RxItem) (s : State),
      (c, k) ∈ [(Instr.enter, Kind.enter), (.claim, .claim), (.dispatch, .dispatch), (.deliver, .deliver),
        (.mount, .mount), (.declare, .declare), (.release, .release), (.quarantine, .quarantine), (.rack, .rack),
        (.remove, .remove)] →
      s.isLive = true → s.synced = true → s.fe.rxQueue = ahead ++ i :: behind →
      (∀ j ∈ ahead, j.forPool = false ∧ (j.kind = .roll → j.forPeers = false)) → i.forPool = true → i.kind = k →
      parsePool i.kind i.data = some f →
      ∃ t, exec c s = .next t ∧ cellFrame s t ∧ t.line = s.line ∧ t.peers = s.peers ∧ t.lineFault = s.lineFault
        ∧ t.fe.rxQueue = (ahead ++ { i with forPool := false } :: behind).dropWhile
            (fun j => !j.forPeers && !j.forPool && !j.forImage)
        ∧ (∀ tab sel, applyFrame s.families s.pool.table i.sender i.role f = .applied tab sel →
            t.pool = { s.pool with table := tab, generation := s.pool.generation + 1, digest := tableDigest tab }
            ∧ t.counters.refusals = s.counters.refusals)
        ∧ (∀ reason, applyFrame s.families s.pool.table i.sender i.role f = .refused reason →
            t.counters.refusals = satInc s.counters.refusals
            ∧ t.pool = { s.pool with
                headRefusal :=
                  match i.own with
                  | some (.headUnit h) | some (.swapUnit h) =>
                    s.pool.headRefusal.set h (some ⟨k, f.named, reason, i.stamp⟩)
                  | _ => s.pool.headRefusal
                storeRefusal :=
                  match i.own with
                  | some .storeUnit => some ⟨k, f.named, reason, i.stamp⟩
                  | _ => s.pool.storeRefusal }))
  ∧ (∀ (c : Instr) (k : Kind) (s : State), poolCommandKind c = some k → s.synced = false →
      ∃ t, exec c s = .next t ∧ cellFrame s t ∧ t.line = s.line ∧ t.peers = s.peers
        ∧ t.pool.table = s.pool.table ∧ t.pool.generation = s.pool.generation ∧ t.pool.digest = s.pool.digest
        ∧ t.pool.headRefusal = s.pool.headRefusal ∧ t.pool.storeRefusal = s.pool.storeRefusal
        ∧ t.counters.refusals = s.counters.refusals ∧ t.heads = s.heads ∧ t.swaps = s.swaps ∧ t.store = s.store
        ∧ (∀ i ahead behind, s.isLive = true → s.fe.rxQueue = ahead ++ i :: behind →
            (∀ j ∈ ahead, j.forPool = false ∧ (j.kind = .roll → j.forPeers = false)
              ∧ (j.kind = .imagePart → j.forImage = false)) → i.forPool = true → i.kind = k →
            t.fe.rxQueue = (ahead ++ { i with forPool := false } :: behind).dropWhile
              (fun j => !j.forPeers && !j.forPool && !j.forImage))
        ∧ (∀ i, s.isLive = true → s.fe.deaf = true → s.fe.rxQueue = [i] → i.forPool = true → i.forPeers = false →
            i.forImage = false → i.kind = k → deafEnds s t))

/-- The notices of a pool frame (R86 to R91) at a SYNCED station that may make pool frames; a doubtful station makes
them too, but tests no claim (R153).

At a grinder: the outcome of the swap unit's own frame (R87) gives AWAIT or BACKOFF for a CLAIM (R154), CLAIMING or
FAILED for its RELEASE of a lost wheel (R156, R161), the given-up wheel for one that is not needed (R165), and a new
head record, with its checkpoint, or FAILED for a MOUNT (R130, R162); a tag DECLARE makes a record (R164). A holding
notice (R88) of a frame that is not of this head's units stops the lifetime at DISPATCH, gives DELIVERED or CONFIRMING
at DELIVER, and takes the wheel from the unit at RELEASE, QUARANTINE and DECLARE (R157, R158, R162). A family notice
(R89) ends a backoff of its family. The outcome of the head unit's own frame settles its breakage report, and the MOUNT
that waited for it goes (R148, R162); it ends its reconciliation DECLARE, and a refused one puts a head that is not
BROKEN in HOLD for a CONFLICT (R108, R129).

At a store (R90): each changed position's page is requested (R179); the claim list holds the claims (R178); a FETCH
arises from a CLAIM and a RETURN from a MOUNT or a RELEASE, and a FETCH of a wheel that is no longer CLAIMED goes (R170,
R171); the outcome of the job frame moves the job (R172, R174, R176); an applied RELEASE, QUARANTINE or DECLARE that
ends the claim of a job in STARTING drops it with its DISPATCH, and any other frame leaves both (R172); a refused
RELEASE is no longer pending (R178).

At both the responder of a running transfer takes the generation notice (R91, R99).

The model's choices: a MOUNT that takes the wheel leaves the job to the refusal of its DISPATCH
(notes/assumptions/35.md), an own RELEASE that is applied in MOUNTING gives FAILED (notes/assumptions/25.md), a
QUARANTINE by this station's other units takes the wheel as LOST_TRACK does (58.md), and a job that becomes ARMED by its
DISPATCH reads the GANTRY_READY level last told (6.md). -/
def Obligations.NoticesReachTheirUnits : Prop :=
  ∀ (c : Instr) (i : RxItem) (f : PoolFrame) (s : State), s.isLive = true → poolCommandKind c = some i.kind →
    s.nextPoolItem i → parsePool i.kind i.data = some f → s.poolBarred = false → s.lineFault = false →
    let out := applyFrame s.families s.pool.table i.sender i.role f
    let newClaim : Head → State → Prop := fun h t =>
      let claim := PoolFrame.claim (headByte h) (familyByte (s.claimFamily h))
      (t.swap h).state = .claiming ∧ (t.swap h).held = none
        ∧ (t.swap h).outstanding = some ⟨claim, false, .claiming⟩
        ∧ (⟨.swapUnit h, .pool claim, 0, false, false⟩ ∈ t.fe.txQueue ∨ (Origin.swapUnit h, .pool claim) ∈ t.fe.held)
    let free : Head → Prop := fun h => (s.head h).declare = none ∧ s.claimQueued (headByte h) = false
    -- The outcome of the swap unit's own frame.
    (∀ (h : Head) (st : SwapState), s.headsLive = true → i.own = some (.swapUnit h) →
        (s.swap h).outstanding = some ⟨f, true, st⟩ → (s.swap h).wants = [] → (s.swap h).retries = [] →
      (∀ head family, f = .claim head family →
        (∀ tab e, out = .applied tab (some e) →
          ∃ t, exec c s = .next t ∧ (t.swap h).state = .await ∧ (t.swap h).held = some e.serial
            ∧ (t.swap h).heldFamily = e.family ∧ (t.swap h).claimStamp = some i.stamp
            ∧ (t.swap h).lifetime = some ⟨i.stamp, s.constants.claimLifetimeS * 1000000⟩
            ∧ (t.swap h).attempts = (s.swap h).attempts
            ∧ (e.family = s.claimFamily h → (t.swap h).notNeeded = false ∧ (t.swap h).outstanding = none)
            ∧ (e.family ≠ s.claimFamily h → (t.swap h).notNeeded = true
                ∧ (t.swap h).outstanding = some ⟨.release e.serial releaseNotNeeded, false, .await⟩))
        ∧ (∀ reason, out = .refused reason → (s.swap h).state = .claiming →
          ∃ t, exec c s = .next t ∧ (t.swap h).state = .backoff ∧ (t.swap h).outstanding = none
            ∧ (t.swap h).backoff = some ⟨s.timeBase, 10 * (s.constants.rollIntervalMs * 1000)⟩
            ∧ (t.swap h).backoffFamily = family.setWidth 4 ∧ (t.swap h).attempts = (s.swap h).attempts))
      ∧ (∀ x reason tab sel, f = .release x reason → out = .applied tab sel → (s.swap h).held = some x →
        ((s.swap h).state = .mounting →
          ∃ t, exec c s = .next t ∧ (t.swap h).state = .failed ∧ (t.swap h).held = none)
        ∧ (∀ n, (s.swap h).state ≠ .mounting → reason = releaseExpired ∨ reason = releaseWindow →
            n = (if reason = releaseExpired then (s.swap h).attempts + 1 else (s.swap h).attempts) →
          (n < 3 → free h → ∃ t, exec c s = .next t ∧ newClaim h t ∧ (t.swap h).attempts = n)
          ∧ (n = 3 → ∃ t, exec c s = .next t ∧ (t.swap h).state = .failed ∧ (t.swap h).held = none
              ∧ (t.swap h).attempts = 3))
        ∧ ((s.swap h).state ≠ .mounting → reason = releaseNotNeeded →
          (needsSister (s.condition h) = false →
            ∃ t, exec c s = .next t ∧ (t.swap h).state = .idle ∧ (t.swap h).held = none
              ∧ (t.swap h).notNeeded = false ∧ (t.swap h).attempts = (s.swap h).attempts)
          ∧ (needsSister (s.condition h) = true → free h → s.fe.doubtful = false →
            ∃ t, exec c s = .next t ∧ newClaim h t ∧ (t.swap h).notNeeded = false
              ∧ (t.swap h).attempts = (s.swap h).attempts)
          ∧ (s.fe.doubtful = true →
            ∃ t, exec c s = .next t ∧ (t.swap h).state = .idle ∧ (t.swap h).held = none)))
      ∧ (∀ head new old diameter spent, f = .mount head new old diameter spent → (s.swap h).held = some new →
        (∀ tab sel e, out = .applied tab sel → findSerial tab new = some e →
          ∃ t r, exec c s = .next t ∧ (t.head h).record = some r
            ∧ r = HeadRecord.evaluated s.families ⟨new, e.family, e.diameter, 0, 0, none, .serving⟩
            ∧ (t.head h).cycle = none ∧ (t.head h).report = .none ∧ (s.life.fault = false → headId h ∈ t.life.pending)
            ∧ (t.swap h).held = none ∧ (t.swap h).attempts = 0
            ∧ (needsSister (some r.condition) = false → (t.swap h).state = .idle))
        ∧ (∀ reason, out = .refused reason →
          ∃ t, exec c s = .next t ∧ (t.swap h).state = .failed ∧ (t.swap h).held = none ∧ t.head h = s.head h))
      ∧ (∀ head x family diameter tab sel e, f = .declare head x family diameter → out = .applied tab sel →
          findSerial tab x = some e → s.claimQueued (headByte h) = false →
        ∃ t, exec c s = .next t ∧ (t.swap h).tagDeclare = false ∧ (t.swap h).backoff = none
          ∧ (t.head h).record
            = some (HeadRecord.evaluated s.families ⟨x, e.family, e.diameter, 0, 0, none, .serving⟩)
          ∧ (s.life.fault = false → headId h ∈ t.life.pending)))
    -- The holding notice of a frame that is not of this head's units, and the family notice.
    ∧ (∀ (h : Head) (x : Serial) (tab : Table) (sel : Option Entry), s.headsLive = true →
        i.own ≠ some (.swapUnit h) → i.own ≠ some (.headUnit h) →
        (s.swap h).outstanding = none → (s.swap h).wants = [] → out = .applied tab sel →
      ((s.swap h).held = some x → f = .dispatch x →
        ∃ t, exec c s = .next t ∧ t.swap h = { s.swap h with lifetime := none, claimStamp := none })
      ∧ ((s.swap h).held = some x → f = .deliver x → (s.swap h).state = .await → (s.swap h).notNeeded = false →
        ∃ t, exec c s = .next t ∧ (t.swap h).held = some x ∧ (t.swap h).claimStamp = none
          ∧ (t.swap h).lifetime = none ∧ (t.swap h).attempts = (s.swap h).attempts
          ∧ (exchangeDue (s.condition h) = false → (t.swap h).state = .delivered ∧ (t.swap h).window = .stopped)
          ∧ (exchangeDue (s.condition h) = true → (t.swap h).state = .confirming
              ∧ (t.swap h).window = .running ⟨s.timeBase, s.constants.confirmWindowS * 1000000⟩))
      ∧ (∀ reason n, (s.swap h).held = some x →
          (∃ y, f = .release x y) ∨ (∃ keep, f = .quarantine x reason keep)
            ∨ (∃ head family diameter, f = .declare head x family diameter
                ∧ ¬(i.sender = s.station ∧ head = headByte h)) →
          n = (if f.kind = .quarantine ∧ i.role = .store ∧ reason = quarantineGantryFault
            then (s.swap h).attempts + 1 else (s.swap h).attempts) →
        ((s.swap h).state = .mounting →
          ∃ t, exec c s = .next t ∧ (t.swap h).state = .failed ∧ (t.swap h).held = none ∧ t.head h = s.head h)
        ∧ ((s.swap h).state ≠ .mounting →
          (needsSister (s.condition h) = true → n < 3 → free h →
            ∃ t, exec c s = .next t ∧ newClaim h t ∧ (t.swap h).attempts = n)
          ∧ (needsSister (s.condition h) = true → n = 3 →
            ∃ t, exec c s = .next t ∧ (t.swap h).state = .failed ∧ (t.swap h).held = none
              ∧ (t.swap h).attempts = 3)
          ∧ (needsSister (s.condition h) = false → n < 3 →
            ∃ t, exec c s = .next t ∧ (t.swap h).state = .idle ∧ (t.swap h).held = none
              ∧ (t.swap h).attempts = n)))
      ∧ (∀ e, (∃ family diameter slot, f = .enter x family diameter slot) ∨ (∃ slot, f = .rack x slot) →
          findSerial tab x = some e → (s.swap h).state = .backoff → (s.swap h).held = none → (s.swap h).retries = [] →
        (e.family ≠ (s.swap h).backoffFamily → ∃ t, exec c s = .next t ∧ t.swap h = s.swap h)
        ∧ (e.family = (s.swap h).backoffFamily → (s.swap h).tagDeclare = false →
          (needsSister (s.condition h) = false →
            ∃ t, exec c s = .next t ∧ (t.swap h).state = .idle ∧ (t.swap h).backoff = none)
          ∧ (needsSister (s.condition h) = true → free h → s.fe.doubtful = false →
            ∃ t, exec c s = .next t ∧ newClaim h t)
          ∧ (s.fe.doubtful = true →
            ∃ t, exec c s = .next t ∧ (t.swap h).state = .idle ∧ (t.swap h).backoff = none))))
    -- The outcome of the head unit's own frame.
    ∧ (∀ (h : Head) (w : HeadRecord), s.headsLive = true → i.own = some (.headUnit h) → (s.head h).record = some w →
      (∀ reason keep, f = .quarantine w.serial reason keep → (s.head h).report = .outstanding →
        ∃ t, exec c s = .next t ∧ t.head h = { s.head h with report := .none, reportRetry := none }
          ∧ ∀ head new old d sp, (s.swap h).state = .mounting → (s.swap h).held = some new → new ≠ w.serial →
              (s.swap h).wants = [.mount (.mount head new old d sp)] → (s.swap h).outstanding = none →
              (t.swap h).outstanding = some ⟨.mount head new old d sp, false, .mounting⟩ ∧ (t.swap h).wants = [])
      ∧ (∀ head family diameter, f = .declare head w.serial family diameter → (s.head h).declare = some ⟨f, none⟩ →
        ((∃ tab sel, out = .applied tab sel) ∨ ((∃ reason, out = .refused reason) ∧ w.condition = .broken) →
          ∃ t, exec c s = .next t ∧ t.head h = { s.head h with declare := none })
        ∧ (∀ reason, out = .refused reason → w.condition ≠ .broken →
          ∃ t, exec c s = .next t ∧ (t.head h).declare = none ∧ t.toolOk h = false
            ∧ (t.head h).record = some { w with condition := .hold .conflict }
            ∧ (s.life.fault = false → headId h ∈ t.life.pending))))
    -- The store notice.
    ∧ (∀ (tab : Table) (sel : Option Entry), s.storeLive = true → out = .applied tab sel →
      (∃ t, exec c s = .next t
        ∧ (s.life.fault = false → ∀ e, findSerial tab e.serial = some e → findSerial s.pool.table e.serial ≠ some e →
            e ∈ tab → 16 + e.pos / 11 ∈ t.life.pending)
        ∧ (s.life.fault = false → ∀ e ∈ s.pool.table, findSerial tab e.serial = none →
            16 + e.pos / 11 ∈ t.life.pending)
        ∧ (f.kind ≠ .claim → ∀ k ∈ t.store.claims, ∃ e, findSerial tab k.serial = some e ∧ e.state = .claimed)
        ∧ (f.kind ≠ .claim → ∀ j ∈ t.store.queue, j.kind = .fetch →
            ∃ e, findSerial tab j.serial = some e ∧ e.state = .claimed ∧ e.place = j.dest))
      ∧ (i.own = none → s.store.job = none → s.store.jobFrame = none → s.store.sendList = [] →
          s.store.queue.length < 16 →
        (∀ e k n, sel = some e → f.kind = .claim → e.holder = some k → e.slot = some n →
            (∀ j ∈ s.store.queue, j.serial ≠ e.serial) →
          ∃ t, exec c s = .next t ∧ ⟨e.serial, k.station, i.stamp, false, false⟩ ∈ t.store.claims
            ∧ ⟨.fetch, e.serial, .slot n, some (.change k.station k.head), i.stamp⟩ ∈ t.store.queue)
        ∧ (∀ x e e' k, findSerial s.pool.table x = some e → findSerial tab x = some e' → e ≠ e' → e'.holder = some k →
            ((∃ y, f = .release x y) ∧ e'.state = .returning)
              ∨ ((∃ head new d sp, f = .mount head new x d sp)
                ∧ (e'.state = .returning ∨ (e'.state = .quarantined ∧ k.atChange = true))) →
            (∀ j ∈ s.store.queue, j.serial ≠ x) →
          ∃ t, exec c s = .next t ∧ ⟨.ret, x, .change k.station k.head, none, i.stamp⟩ ∈ t.store.queue)))
    ∧ (∀ j, s.storeLive = true → i.own = some .storeUnit → s.store.jobFrame = some ⟨f, .submitted⟩ →
        s.store.sendList = [] → s.store.rackWaiting = false →
      (f = .dispatch j.serial → s.store.job = some ⟨j, .starting⟩ →
        (∀ tab sel, out = .applied tab sel → s.levels.gantryReady = false ∨ s.store.faultLatch = true →
          ∃ t, exec c s = .next t ∧ t.store.job = some ⟨j, .armed⟩ ∧ t.store.jobFrame = none
            ∧ t.store.strobe = s.store.strobe)
        ∧ (∀ tab sel, out = .applied tab sel → s.levels.gantryReady = true → s.store.faultLatch = false →
            j.kind = .fetch →
          ∃ t, exec c s = .next t ∧ t.store.job = some ⟨j, .moving⟩ ∧ t.store.jobFrame = none
            ∧ t.store.strobe = some ⟨s.timeBase, 1000⟩)
        ∧ (∀ reason, out = .refused reason →
          ∃ t, exec c s = .next t ∧ t.store.job = none ∧ t.store.jobFrame = none))
      ∧ (f.kind ≠ .dispatch → s.store.job = some ⟨j, .closing⟩ →
        ((∃ tab sel, out = .applied tab sel) ∨ (∃ reason, out = .refused reason ∧ reason ≠ .slotTaken) →
          ∃ t, exec c s = .next t ∧ t.store.job = none ∧ t.store.reservation = none ∧ t.store.jobFrame = none)
        ∧ (∀ x slot, f = .rack x slot → out = .refused .slotTaken →
          (∀ n : BitVec 6, n.toNat < 48 → slotNamed s.pool.table n = false →
              (∀ k : BitVec 6, k.toNat < n.toNat → slotNamed s.pool.table k = true) →
            ∃ t, exec c s = .next t ∧ t.store.job = some ⟨{ j with dest := some (.slot n) }, .closing⟩
              ∧ t.store.reservation = some n
              ∧ (s.holdsRequest .storeUnit = false →
                  t.store.jobFrame = some ⟨.rack x (n.setWidth 8), .submitted⟩))
          ∧ ((∀ n : BitVec 6, n.toNat < 48 → slotNamed s.pool.table n = true) →
            ∃ t, exec c s = .next t ∧ t.store.job = some ⟨j, .closing⟩ ∧ t.store.jobFrame = none
              ∧ t.store.rackWaiting = true))))
    -- The job in STARTING, by a frame that is not its DISPATCH.
    ∧ (∀ (j : Job) (st : SubmitStatus) (tab : Table) (sel : Option Entry), s.storeLive = true → out = .applied tab sel →
        s.store.job = some ⟨j, .starting⟩ → s.store.jobFrame = some ⟨.dispatch j.serial, st⟩ →
        s.store.rackWaiting = false → s.store.sendList = [] → s.store.track = none →
        (i.own = some .storeUnit → f.kind ≠ .dispatch) →
      let claimed : Table → Prop := fun t => ∃ e, findSerial t j.serial = some e ∧ e.state = .claimed
      let takes : Prop := (f.kind = .release ∨ f.kind = .quarantine ∨ f.kind = .declare)
        ∧ claimed s.pool.table ∧ ¬claimed tab
      ∃ t, exec c s = .next t ∧ cellFrame s t
        ∧ (takes → t.store.job = none ∧ t.store.reservation = none ∧ t.store.jobFrame = none
            ∧ (∀ e ∈ t.fe.txQueue, e.origin = .storeUnit → e.payload = .pool (.dispatch j.serial) →
                e.onLine = true ∧ e.withdrawn = true)
            ∧ (Origin.storeUnit, Payload.pool (.dispatch j.serial)) ∉ t.fe.held)
        ∧ (¬takes → t.store.job = s.store.job ∧ t.store.reservation = s.store.reservation
            ∧ (∃ st', t.store.jobFrame = some ⟨.dispatch j.serial, st'⟩)
            ∧ (∀ e ∈ s.fe.txQueue, e.origin = .storeUnit → e ∈ t.fe.txQueue)
            ∧ ∀ r ∈ s.fe.held, r.1 = .storeUnit → r ∈ t.fe.held))
    ∧ (∀ x reason, s.storeLive = true → i.own = some .storeUnit → f = .release x releaseExpired →
        out = .refused reason → s.store.jobFrame ≠ some ⟨f, .submitted⟩ → s.store.track ≠ some ⟨f, .submitted⟩ →
      ∃ t, exec c s = .next t ∧ t.store = { s.store with
        claims := s.store.claims.map fun k => if k.serial = x then { k with releasePending := false } else k })
    -- The generation notice.
    ∧ (∀ tab sel, out = .applied tab sel → s.image.responder = .running →
      (s.image.restarts < 3 →
        ∃ t, exec c s = .next t ∧ t.image.responder = .queued ∧ t.image.buffer = none
          ∧ t.image.restarts = s.image.restarts + 1)
      ∧ (3 ≤ s.image.restarts → ∃ t, exec c s = .next t ∧ t.image.responder = .idle ∧ t.image.buffer = none))

/-- Every frame keeps the laws of the pool table (R62, R64): sound entries in ascending position, with one serial, one slot
and one head's place for one wheel. -/
def Obligations.EveryFrameKeepsTableLaws : Prop :=
  ∀ (fams : List Family) (t : Table) (st : Station) (role : Role) (f : PoolFrame) (t' : Table) (sel : Option Entry),
    tableLaws t → applyFrame fams t st role f = .applied t' sel → tableLaws t'

/-! ## The image unit (chapter 6) -/

/-- IMAGE_ASK of another station (R96, R99): an IDLE responder that may respond begins a transfer, with part 0 in the
transmit queue; a QUEUED one goes on; a RUNNING one notes the repeat. An IMAGE_ASK that is the last item of a DEAF
station's receive queue ends DEAF as it leaves, and the image unit asks where it may (R37, R94). -/
def Obligations.ImageAskIsAnswered : Prop :=
  ∀ (i : RxItem) (s : State), s.isLive = true → s.fe.rxQueue = [i] → i.kind = .imageAsk → i.forImage = true →
    i.forPeers = false → i.forPool = false →
    (s.fe.deaf = true → ∃ t, exec .imageAsk s = .next t ∧ cellFrame s t ∧ t.peers = s.peers ∧ deafEnds s t)
    ∧ (i.own = none → s.fe.deaf = false → ∃ t, exec .imageAsk s = .next t ∧ cellFrame s t ∧ t.pool = s.pool ∧ t.peers = s.peers ∧ t.line = s.line
      ∧ t.fe.rxQueue = []
      ∧ (s.image.responder = .idle → s.mayRespond = true → s.lineFault = false → s.fe.held = [] →
          s.fe.txQueue.length + s.fe.admissionsDue < 6 →
          t.image = { s.image with responder := .queued, buffer := none, restarts := 0, part0Sent := false }
          ∧ ⟨.imageUnit, .imagePart 0, 0, false, false⟩ ∈ t.fe.txQueue
          ∧ t.fe.txQueue.length = s.fe.txQueue.length + 1)
      ∧ (s.image.responder = .idle → s.mayRespond = false → t.image = s.image)
      ∧ (s.image.responder = .queued → t.image = s.image)
      ∧ (s.image.responder = .running → t.image = { s.image with repeatPending := true }))

/-- IMAGE_PART of another station (R97, R101, R102).

In every sync state a part 0 sets the watch on its sender and its generation, unless it is the last part too, and ends a
transfer of this station whose part 0 has not been reported *sent*; one whose part 0 has been goes on, and sets no watch.
A later part of the watched station restarts the watch timer, and the last one ends the watch. At a station that is not
JOINING nothing is collected.

At a JOINING station a well-formed part 0 opens a collection with its sender and its entries, and a later part of that
sender that fits it is appended; each restarts the ask timer where it runs. A part 0 that is not well formed and a later
part that is ill-formed or does not fit discard the collection; a later part without one or from another sender changes
nothing. The part that completes the collection, a part 0 too, loads the table in ascending serials where the digest is
right, with the image's generation, and the station is SYNCED; where it is not, the collection goes and the station asks
again.

At the entry into SYNCED the station is reconciled with the table (R107 to R111; `headReconciled`, `swapReconciled`,
`storeReconciled` of Safety.lean): a grinder's heads declare or adopt their wheels and take up their breakage reports, and
its swap units adopt what is on its way to them; a store requests its six pages, queues its jobs in order, lists its
claims, quarantines what is lost on the way and takes a held completion.

The model's choices: the digest is compared in the order collected (notes/assumptions/32.md), and stored for the canonical
order (notes/assumptions/59.md); a part does not start an ask timer that stands still (notes/assumptions/27.md); the wheel
adopted at a head without a record is held against the head family (notes/assumptions/60.md). -/
def Obligations.ImagePartIsCollected : Prop :=
  ∀ (i : RxItem) (p : ImagePartHead) (s : State), s.isLive = true →
    s.fe.rxQueue = [i] → i.kind = .imagePart → i.forImage = true → i.forPeers = false → i.forPool = false →
    i.own = none → s.fe.deaf = false → imagePartHead i.data = some p →
    let last : Prop := p.index + 1 = p.count
    let watch : ImageWatch := ⟨i.sender, p.generation, ⟨s.timeBase, 3 * (s.constants.rollIntervalMs * 1000)⟩⟩
    let started : Prop := s.image.responder = .running ∧ s.image.part0Sent = true
    let collected : Collection → State → Prop := fun c t =>
      t.image.collection = some c ∧ t.image.partSinceAsk = true ∧ t.image.askCount = s.image.askCount ∧ t.pool = s.pool
        ∧ t.image.askTimer = s.image.askTimer.map fun _ =>
            ⟨s.timeBase, (if s.image.askCount < 3 then 3 else 5) * (s.constants.rollIntervalMs * 1000)⟩
    let completed : List Entry → Word16 → State → Prop := fun es digest t =>
      (crc16 (es.flatMap Entry.bytes) = digest →
        t.pool.sync = .synced ∧ t.pool.generation = p.generation ∧ t.pool.digest = tableDigest t.pool.table
          ∧ (∃ sorted : List Entry, sorted.Perm es ∧ sorted.Pairwise (fun x y => x.serial.toNat ≤ y.serial.toNat)
              ∧ t.pool.table = sorted.mapIdx fun k e => { e with pos := k })
          ∧ t.image.collection = none ∧ t.image.askCount = 0 ∧ t.image.askTimer = none ∧ reconciled s t)
      ∧ (crc16 (es.flatMap Entry.bytes) ≠ digest → s.mayAsk = true → s.lineFault = false → s.fe.held = [] →
          s.fe.txQueue.length + s.fe.admissionsDue < 6 →
        t.pool = s.pool ∧ t.image.collection = none ∧ t.image.askCount = s.image.askCount ∧ t.image.askTimer = none
          ∧ t.image.partSinceAsk = false ∧ ⟨.imageUnit, .imageAsk, 0, false, false⟩ ∈ t.fe.txQueue)
    ∃ t, exec .imagePart s = .next t ∧ cellFrame s t ∧ t.peers = s.peers ∧ t.fe.rxQueue = []
      -- The watch and the responder (R97).
      ∧ (p.index = 0 → ¬started →
          t.image.responder = .idle ∧ (last → t.image.watch = none) ∧ (¬last → t.image.watch = some watch)
          ∧ (s.image.responder ≠ .idle → t.image.buffer = none ∧ t.image.repeatPending = false
              ∧ ∀ x ∈ t.fe.txQueue, x.origin = .imageUnit → (∃ k, x.payload = .imagePart k) →
                  x.onLine = true ∧ x.withdrawn = true))
      ∧ (p.index = 0 → started → s.image.watch = none →
          t.image.watch = none ∧ t.image.responder = .running ∧ t.image.buffer = s.image.buffer)
      ∧ (p.index ≠ 0 → t.image.responder = s.image.responder ∧ t.image.buffer = s.image.buffer
          ∧ (∀ w, s.image.watch = some w → w.station = i.sender →
              (last → t.image.watch = none) ∧ (¬last → t.image.watch = some { w with timer := watch.timer }))
          ∧ ((∀ w, s.image.watch = some w → w.station ≠ i.sender) → t.image.watch = s.image.watch))
      -- The collection (R101, R102).
      ∧ (s.pool.sync ≠ .joining → t.pool = s.pool ∧ t.image.collection = s.image.collection
          ∧ t.image.partSinceAsk = s.image.partSinceAsk ∧ t.image.askTimer = s.image.askTimer
          ∧ t.image.askCount = s.image.askCount)
      ∧ (s.pool.sync = .joining →
        (p.index = 0 → wellFormedPart p = none → t.pool = s.pool ∧ t.image.collection = none
          ∧ t.image.partSinceAsk = s.image.partSinceAsk ∧ t.image.askTimer = s.image.askTimer)
        ∧ (∀ es d, p.index = 0 → wellFormedPart p = some (es, d) →
          (d = none → collected ⟨i.sender, p.generation, p.count, p.entryCount, 1, es⟩ t)
          ∧ ∀ digest, d = some digest → completed es digest t)
        ∧ (p.index ≠ 0 → (∀ c, s.image.collection = some c → c.responder ≠ i.sender) →
          t.pool = s.pool ∧ t.image.collection = s.image.collection
            ∧ t.image.partSinceAsk = s.image.partSinceAsk ∧ t.image.askTimer = s.image.askTimer)
        ∧ (∀ c, p.index ≠ 0 → s.image.collection = some c → c.responder = i.sender →
          let fits : List Entry → Prop := fun es =>
            p.generation = c.generation ∧ p.count = c.partCount ∧ p.entryCount = c.entryCount ∧ p.index = c.nextIndex
              ∧ es.Pairwise (fun x y => x.serial.toNat < y.serial.toNat)
              ∧ ∀ x, c.entries.getLast? = some x → ∀ e ∈ es, x.serial.toNat < e.serial.toNat
          (wellFormedPart p = none ∨ (∃ es d, wellFormedPart p = some (es, d) ∧ ¬fits es) →
            t.pool = s.pool ∧ t.image.collection = none ∧ t.image.partSinceAsk = s.image.partSinceAsk
              ∧ t.image.askTimer = s.image.askTimer)
          ∧ ∀ es d, wellFormedPart p = some (es, d) → fits es →
            (d = none → collected { c with nextIndex := c.nextIndex + 1, entries := c.entries ++ es } t)
            ∧ ∀ digest, d = some digest → completed (c.entries ++ es) digest t))

/-- ASK_TIMER_EXPIRE and IMAGE_WATCH_EXPIRE (R94, R95, R97, R103): the start-up timer's end makes the first ask, and the
station is JOINING with its timer stopped while the ask waits; in JOINING an end without a part raises the ask count, to 3
at most, and asks again where a condition of founding fails. At a station that is not JOINING and may make no ask, SYNCED or
in FAMILY_MISMATCH or ROLE_CLASH or with asking stopped, the timer ends and nothing else happens. A watch ends at its timer.

Founding (R95, R103, R104): a store whose ask count is then 3, the end that raises it to 3 included, with no collection,
no ROLE_CLASH and no live store-role peer, founds the pool from its stored image: generation 1, SYNCED, the digest of the
table it builds, with which it is then reconciled (R110, R111; `storeReconciled` of Safety.lean). The stored entries are
those of the current store image pages, in ascending position; a CLAIMED one is founded FREE in its slot and a TRANSIT one
QUARANTINED without a holder; one whose serial is admitted already, or whose slot is named already, is left out; one
MOUNTED or DELIVERED at a head where an admitted one is so is QUARANTINED without a holder; every other is admitted as it
is.

The model's choices: the first timer raises no count (notes/assumptions/30.md), nor does one that ends at a SYNCED station
(notes/assumptions/63.md); records at the places 64 and 65 are left out (notes/assumptions/21.md). -/
def Obligations.AskTimerAsksOrFounds : Prop :=
  -- The ask count after the end of the timer (R95 step 1).
  let asked : State → Nat := fun s =>
    if s.image.partSinceAsk then s.image.askCount else min 3 (s.image.askCount + 1)
  (∀ (tm : Timer) (s : State), s.isLive = true →
      (s.image.askTimer = some tm → tm.length ≤ (s.timeBase - tm.start).toNat → s.lineFault = false → s.fe.held = [] →
          s.mayAsk = true → s.fe.txQueue.length + s.fe.admissionsDue < 6 →
        (s.pool.sync = .unsynced →
          ∃ t, exec .askTimerExpire s = .next t ∧ t.pool = { s.pool with sync := .joining }
            ∧ t.image = { s.image with askTimer := none, collection := none, partSinceAsk := false }
            ∧ ⟨.imageUnit, .imageAsk, 0, false, false⟩ ∈ t.fe.txQueue ∧ cellFrame s t ∧ t.peers = s.peers)
        ∧ (s.pool.sync = .joining →
            s.isStore = false ∨ asked s ≠ 3 ∨ s.image.collection.isSome = true
              ∨ (∃ r ∈ s.peers.records, r.role = .store ∧ r.silent = false) →
          ∃ t, exec .askTimerExpire s = .next t ∧ t.pool = s.pool
            ∧ t.image = { s.image with askTimer := none, collection := none, partSinceAsk := false, askCount := asked s }
            ∧ ⟨.imageUnit, .imageAsk, 0, false, false⟩ ∈ t.fe.txQueue ∧ cellFrame s t ∧ t.peers = s.peers))
      ∧ (s.image.askTimer = some tm → tm.length ≤ (s.timeBase - tm.start).toNat → s.pool.sync ≠ .joining →
          s.pool.sync = .synced ∨ s.peers.familyMismatch = true ∨ s.peers.roleClash = true
            ∨ s.image.askingStopped = true →
          exec .askTimerExpire s = .next { s with image := { s.image with askTimer := none } })
      ∧ (∀ w, s.image.watch = some w → w.timer.length ≤ (s.timeBase - w.timer.start).toNat →
          exec .imageWatchExpire s = .next { s with image := { s.image with watch := none } }))
  ∧ (∀ (tm : Timer) (s : State), s.isLive = true → s.isStore = true → s.image.askTimer = some tm →
      tm.length ≤ (s.timeBase - tm.start).toNat → s.pool.sync = .joining → s.image.collection = none →
      asked s = 3 → s.peers.roleClash = false → (∀ r ∈ s.peers.records, r.role = .store → r.silent = true) →
      ∃ t, exec .askTimerExpire s = .next t ∧ t.pool.sync = .synced ∧ t.pool.generation = 1
        ∧ t.pool.table = foundedTable s.life.storedTable ∧ t.pool.digest = tableDigest t.pool.table
        ∧ t.image.askCount = 0 ∧ t.image.askTimer = none ∧ cellFrame s t ∧ reconciled s t)
  ∧ (∀ l : LifeStore, l.storedTable.Pairwise (fun a b => a.pos < b.pos)
      ∧ ∀ e, e ∈ l.storedTable ↔ e.pos < 64 ∧ ∃ p, l.currentPage (16 + e.pos / 11) = some p
          ∧ decodeEntry e.pos (((l.pages.readPage p).drop (8 + 10 * (e.pos % 11))).take 10) = some e)
  ∧ foundedTable [] = []
  ∧ (∀ (es : List Entry) (e c : Entry),
      let admitted := foundedTable es
      let withdrawn : Entry := { c with state := .quarantined, holder := none, slot := none, spent := false }
      let placed : PoolState → Prop := fun st => c.state = st ∧ ∃ a ∈ admitted, a.state = st
        ∧ ∃ x y, a.holder = some x ∧ c.holder = some y ∧ x.station = y.station ∧ x.head = y.head
      (e.state = .claimed ∧ c = { e with state := .free, holder := none, spent := false })
        ∨ (e.state = .transit ∧ c = { e with state := .quarantined, holder := none, slot := none, spent := false })
        ∨ (e.state ≠ .claimed ∧ e.state ≠ .transit ∧ c = e) →
      ((∃ a ∈ admitted, a.serial = c.serial) → foundedTable (es ++ [e]) = admitted)
      ∧ ((∃ n, c.slot = some n ∧ ∃ a ∈ admitted, a.slot = some n) → foundedTable (es ++ [e]) = admitted)
      ∧ ((∀ a ∈ admitted, a.serial ≠ c.serial) → (∀ n, c.slot = some n → ∀ a ∈ admitted, a.slot ≠ some n) →
        (placed .mounted ∨ placed .delivered → foundedTable (es ++ [e]) = admitted ++ [withdrawn])
        ∧ (¬(placed .mounted ∨ placed .delivered) → foundedTable (es ++ [e]) = admitted ++ [c])))

/-! ## The heads (chapters 7 and 8) -/

/-- A threshold evaluation (R114, R116): the condition by the diameter's zone, with the allowance taken in the last-parts
zone where parts left is absent. -/
def Obligations.EvaluationByZone : Prop :=
  ∀ (fams : List Family) (r : HeadRecord), let f := familyAt fams r.family
    (f.minDiameter.toNat + f.reserve * f.depth < r.diameter.toNat →
      r.evaluated fams = { r with condition := .serving })
    ∧ (r.diameter.toNat ≤ f.minDiameter.toNat + f.reserve * f.depth →
        f.minDiameter.toNat + f.depth ≤ r.diameter.toNat → r.evaluated fams = { r with condition := .wornSoon })
    ∧ (r.diameter.toNat ≤ f.minDiameter.toNat + f.reserve * f.depth →
        r.diameter.toNat < f.minDiameter.toNat + f.depth →
        ∃ left, r.evaluated fams = { r with condition := if left = 0 then .spent else .lastParts, partsLeft := some left }
          ∧ (r.partsLeft = none → left = f.lastParts) ∧ ∀ n, r.partsLeft = some n → left = n)

/-- DRESS_STROKE (R120 to R123, R132): in a working condition and in HOLD the diameter falls by the family's depth, floored
at 0, and the dress count rises; a stroke from below the last line is an overdress and leaves no parts. In an open cycle the
evaluation is left pending; without one a working head is evaluated at once and one in HOLD keeps its condition. In NO_WHEEL,
SPENT and BROKEN the stroke is ignored and counted. A checkpoint of the head is requested for an accounted stroke. A pulse
gives one stroke, and a level that was high as the head became live none (R120).

The model's choice (notes/assumptions/6.md): the command tells whether DRESS fell since the last stroke. -/
def Obligations.DressStrokeIsAccounted : Prop :=
  ∀ (h : Head) (fell : Bool) (s : State), s.headsLive = true →
    ((s.head h).dressRisen = true → fell = false → exec (.dressStroke h fell) s = .next s)
    ∧ ((s.head h).dressRisen = false ∨ fell = true →
    (∀ r, (s.head h).record = some r → r.condition ≠ .spent → r.condition ≠ .broken →
      let f := familyAt s.families r.family
      let overdress : Prop := r.diameter.toNat < f.minDiameter.toNat + f.depth
      ∃ t r', exec (.dressStroke h fell) s = .next t ∧ headFrame h s t ∧ t.stop = s.stop
        ∧ (t.headLevels h) = { s.headLevels h with dress := true } ∧ (t.head h).dressRisen = true
        ∧ (s.life.fault = false → headId h ∈ t.life.pending)
        ∧ (t.head h).record = some r' ∧ r'.serial = r.serial ∧ r'.family = r.family
        ∧ r'.diameter.toNat = r.diameter.toNat - f.depth ∧ r'.dressCount = satInc r.dressCount
        ∧ r'.partsCount = r.partsCount
        ∧ t.counters.strokesIgnored = s.counters.strokesIgnored
        ∧ (overdress → t.counters.overdress = satInc s.counters.overdress ∧ r'.partsLeft = some 0)
        ∧ (¬overdress → t.counters.overdress = s.counters.overdress)
        ∧ (∀ c, (s.head h).cycle = some c →
            (t.head h).cycle = some { c with evaluationPending := true } ∧ r'.condition = r.condition)
        ∧ ((s.head h).cycle = none → r.condition.isHold = true → r'.condition = r.condition)
        ∧ ((s.head h).cycle = none → r.condition.isHold = false →
            f.minDiameter.toNat + f.reserve * f.depth < r.diameter.toNat - f.depth → r'.condition = .serving)
        ∧ ((s.head h).cycle = none → r.condition.isHold = false → overdress → f.reserve ≠ 0 → r'.condition = .spent)
        ∧ ((s.head h).cycle = none → r.condition.isHold = false →
            r.diameter.toNat - f.depth ≤ f.minDiameter.toNat + f.reserve * f.depth →
            (f.minDiameter.toNat + f.depth ≤ r.diameter.toNat - f.depth → r'.condition = .wornSoon)
            ∧ (r.diameter.toNat - f.depth < f.minDiameter.toNat + f.depth → ¬overdress →
                r'.partsLeft = some (r.partsLeft.getD f.lastParts)
                ∧ r'.condition = if r.partsLeft.getD f.lastParts = 0 then .spent else .lastParts)))
    ∧ ((∀ r, (s.head h).record = some r → r.condition = .spent ∨ r.condition = .broken) →
      ∃ t, exec (.dressStroke h fell) s = .next t ∧ headFrame h s t ∧ t.fe = s.fe ∧ t.swaps = s.swaps
        ∧ t.head h = { s.head h with dressRisen := true }
        ∧ t.counters = { s.counters with strokesIgnored := satInc s.counters.strokesIgnored }))

/-- GRIND_RISE (R124, R126, R137, R138): a rise at a working head opens a cycle with the check set of the recorded wheel's
family and its contact timeout running; at any other head it is counted and opens none. A level that is already high does
not rise.

The model's choice (notes/assumptions/3.md): a rise of a level that is high changes nothing. -/
def Obligations.GrindRiseOpensCycle : Prop :=
  ∀ (h : Head) (s : State), s.headsLive = true →
    ((s.headLevels h).grind = false →
      (∀ r, (s.head h).record = some r → r.condition ∈ [Condition.serving, .wornSoon, .lastParts] →
        let f := familyAt s.families r.family
        ∃ t, exec (.grindRise h) s = .next t ∧ headFrame h s t ∧ (t.headLevels h).grind = true
          ∧ t.counters = s.counters ∧ t.fe = s.fe ∧ t.swaps = s.swaps ∧ t.stop = s.stop
          ∧ t.head h = { s.head h with cycle := some ⟨false, false, false,
              ⟨s.constants.gateMs, f.loadFloor, f.loadCeiling, f.missLimit, f.settleMs, f.timeoutMs, f.maxContactMs⟩,
              none, .running ⟨s.timeBase, f.timeoutMs * 1000⟩, none, none, 0⟩ })
      ∧ ((∀ r, (s.head h).record = some r → r.condition ∉ [Condition.serving, .wornSoon, .lastParts]) →
        ∃ t, exec (.grindRise h) s = .next t ∧ headFrame h s t ∧ t.heads = s.heads ∧ (t.headLevels h).grind = true
          ∧ t.counters = { s.counters with cyclesRefused := satInc s.counters.cyclesRefused } ∧ t.fe = s.fe))
    ∧ ((s.headLevels h).grind = true → exec (.grindRise h) s = .next s)

/-- GRIND_FALL (R125, R127, R132): the open cycle ends. With a contact and no verdict its part is counted, and in
LAST_PARTS taken from the allowance, whose last part makes the head SPENT; without a contact or after a verdict no part is
counted. An evaluation that a stroke inside the cycle left pending is then made, unless the head is by then SPENT, in HOLD or
BROKEN. A checkpoint is requested unless the store has failed. -/
def Obligations.GrindFallCountsPart : Prop :=
  ∀ (h : Head) (c : Cycle) (r : HeadRecord) (s : State), s.headsLive = true → (s.headLevels h).grind = true →
    (s.head h).cycle = some c → (s.head h).record = some r →
    ∃ t r', exec (.grindFall h) s = .next t ∧ headFrame h s t ∧ (t.headLevels h).grind = false
      ∧ (t.head h).cycle = none ∧ t.counters = s.counters ∧ t.stop = s.stop
      ∧ (s.life.fault = false → headId h ∈ t.life.pending)
      -- Step 1.
      ∧ (c.contactFlag = true → c.verdictFlag = false → r.condition ≠ .lastParts ∨ r.partsLeft = none →
          r' = { r with partsCount := satInc r.partsCount })
      ∧ (∀ n, c.contactFlag = true → c.verdictFlag = false → r.condition = .lastParts → r.partsLeft = some n →
          r' = { r with
            partsCount := satInc r.partsCount
            partsLeft := some (if n.toNat ≤ 1 then 0 else n - 1)
            condition := if n.toNat ≤ 1 then .spent else .lastParts })
      ∧ (c.contactFlag = false ∨ c.verdictFlag = true → r' = r)
      -- Step 2.
      ∧ (c.evaluationPending = true → r'.condition ∈ [Condition.serving, .wornSoon, .lastParts] →
          (t.head h).record = some (r'.evaluated s.families))
      ∧ (c.evaluationPending = false ∨ r'.condition ∉ [Condition.serving, .wornSoon, .lastParts] →
          (t.head h).record = some r')

/-- ACK_EVENT (R46, R128, R131, R163): the peer-stop latch is cleared; a FAILED swap unit leaves FAILED with its attempt
count at 0; a head in HOLD for a CONFLICT loses its record and one in any other HOLD is evaluated; BROKEN and SPENT
stay. A pulse gives one event, and a level that was high as start-up completed none.

The model's choice (notes/assumptions/6.md): the command tells whether ACK fell since the last event. -/
def Obligations.AckEndsHolds : Prop :=
  ∀ (fell : Bool) (s : State), s.isLive = true →
    (s.levels.ack = true → fell = false → exec (.ackEvent fell) s = .next s)
    ∧ (s.levels.ack = false ∨ fell = true →
    ∃ t, exec (.ackEvent fell) s = .next t ∧ t.stop.latch = false ∧ t.levels.ack = true ∧ unitFrame s t
      ∧ (s.isStore = true → t.heads = s.heads ∧ t.swaps = s.swaps ∧ t.store = s.store)
      ∧ (s.isStore = false → ∀ h,
          ((s.swap h).state = .failed → (t.swap h).attempts = 0 ∧ (t.swap h).state ≠ .failed)
          ∧ (s.condition h = some (.hold .conflict) → (t.head h).record = none ∧ (t.head h).cycle = none)
          ∧ (∀ r x, (s.head h).record = some r → r.condition = .hold x → x ≠ .conflict →
              (t.head h).record = some (r.evaluated s.families))
          ∧ ((∀ x, s.condition h ≠ some (.hold x)) → t.head h = s.head h)))

/-- CONTACT_RISE and CONTACT_FALL (R139, R140) in an open cycle: a rise stamps the contact, sets the contact flag, stops the
contact timeout, clears the misses and starts the maximum contact timer and the first gate; a fall ends the contact and
discards its gate. Without an open cycle only the level changes. A contact that ends wider than its maximum contact time has
been overlong: the fall gives the verdict that its timer's expiry had not given yet.

LOAD_PULSE (R142): a pulse raises the count of the running gate, which stays at 65,535; without a gate it is not
counted. -/
def Obligations.ContactAndLoadEdges : Prop :=
  (∀ (h : Head) (s : State), s.headsLive = true →
      ((s.headLevels h).contact = false →
        ∃ t, exec (.contactRise h) s = .next t ∧ headFrame h s t ∧ (t.headLevels h).contact = true ∧ t.fe = s.fe
          ∧ t.swaps = s.swaps ∧ t.counters = s.counters ∧ (t.head h).record = (s.head h).record
          ∧ (∀ c, (s.head h).cycle = some c → ∃ c', (t.head h).cycle = some c' ∧ c'.contact = some s.timeBase
              ∧ c'.contactFlag = true ∧ c'.misses = 0 ∧ c'.gate = some ⟨s.timeBase, 0⟩
              ∧ c'.maxTimer = some ⟨s.timeBase, c.checks.maxContactMs * 1000⟩ ∧ (∀ tm, c'.timeout ≠ .running tm)
              ∧ c'.verdictFlag = c.verdictFlag ∧ c'.checks = c.checks
              ∧ c'.evaluationPending = c.evaluationPending)
          ∧ ((s.head h).cycle = none → t.heads = s.heads))
      ∧ ((s.headLevels h).contact = true →
        ∃ t, exec (.contactFall h) s = .next t ∧ headFrame h s t ∧ (t.headLevels h).contact = false
          ∧ ((∀ c tm, (s.head h).cycle = some c → c.maxTimer = some tm →
                (s.timeBase - tm.start).toNat ≤ tm.length) →
              t.counters = s.counters ∧ (t.head h).record = (s.head h).record ∧ t.swaps = s.swaps ∧ t.fe = s.fe
              ∧ (t.head h).cycle = (s.head h).cycle.map
                  (fun c => { c with contact := none, maxTimer := none, gate := none }))
          ∧ (∀ c tm r, (s.head h).cycle = some c → c.maxTimer = some tm →
              tm.length < (s.timeBase - tm.start).toNat → (s.head h).record = some r →
              (t.head h).cycle = some { c with contact := none, maxTimer := none, gate := none, verdictFlag := true }
              ∧ (c.verdictFlag = false → r.condition ∈ [Condition.serving, .wornSoon, .lastParts] →
                  (t.head h).record = some { r with condition := .hold .overlong } ∧ t.counters = s.counters)
              ∧ (c.verdictFlag = true → (t.head h).record = some r
                  ∧ t.counters = { s.counters with verdictsAfterFirst := satInc s.counters.verdictsAfterFirst }))))
  ∧ (∀ (h : Head) (s : State), s.headsLive = true →
      ∃ t, exec (.loadPulse h) s = .next t ∧ headFrame h s t ∧ (t.head h).record = (s.head h).record ∧ t.fe = s.fe
        ∧ t.swaps = s.swaps ∧ t.counters = s.counters
        ∧ (t.head h).cycle = (s.head h).cycle.map (fun c => { c with gate := c.gate.map fun g =>
            { g with pulses := if g.pulses = 0xFFFF then 0xFFFF else g.pulses + 1 } }))

/-- MAXIMUM_CONTACT_TIMER_EXPIRE and CONTACT_TIMEOUT_EXPIRE (R140, R141, R145, R149): OVERLONG and MISSING. The first
verdict of the cycle puts a working head in HOLD with its reason; a later one is counted and does no more. -/
def Obligations.ContactTimersGiveVerdicts : Prop :=
  ∀ (h : Head) (c : Cycle) (r : HeadRecord) (tm : Timer) (s : State), s.headsLive = true → (s.head h).cycle = some c →
    (s.head h).record = some r → tm.length ≤ (s.timeBase - tm.start).toNat →
    (c.maxTimer = some tm →
      ∃ t, exec (.maximumContactTimerExpire h) s = .next t ∧ headFrame h s t ∧ t.stop = s.stop
        ∧ (c.verdictFlag = false → (t.head h).cycle = some { c with maxTimer := none, verdictFlag := true }
            ∧ (r.condition ∈ [Condition.serving, .wornSoon, .lastParts] →
                (t.head h).record = some { r with condition := .hold .overlong }))
        ∧ (c.verdictFlag = true → (t.head h).cycle = some { c with maxTimer := none }
            ∧ (t.head h).record = some r
            ∧ t.counters = { s.counters with verdictsAfterFirst := satInc s.counters.verdictsAfterFirst }))
    ∧ (c.timeout = .running tm →
      ∃ t, exec (.contactTimeoutExpire h) s = .next t ∧ headFrame h s t ∧ t.stop = s.stop
        ∧ (c.verdictFlag = false → (t.head h).cycle = some { c with timeout := .expired, verdictFlag := true }
            ∧ (r.condition ∈ [Condition.serving, .wornSoon, .lastParts] →
                (t.head h).record = some { r with condition := .hold .missing }))
        ∧ (c.verdictFlag = true → (t.head h).cycle = some { c with timeout := .expired }
            ∧ (t.head h).record = some r
            ∧ t.counters = { s.counters with verdictsAfterFirst := satInc s.counters.verdictsAfterFirst }))

/-- LOAD_GATE_END (R142 to R147) at the end of a gate of a contact in a cycle without a verdict: the next gate starts at the
moment this one ends; a count above the ceiling, or saturated, is a CRASH, which breaks the head; at or after the settle
point a count below the floor is a miss, and the miss that reaches the limit is LOST, which breaks the head; a sound gate
clears the misses.

The model's reading (notes/assumptions/44.md): a gate ends by the start of its measure. -/
def Obligations.LoadGateIsChecked : Prop :=
  ∀ (h : Head) (c : Cycle) (r : HeadRecord) (stamp : Time) (g : Gate) (s : State), s.headsLive = true →
    (s.head h).cycle = some c → (s.head h).record = some r → c.contact = some stamp → c.gate = some g →
    c.verdictFlag = false → r.condition ∈ [Condition.serving, .wornSoon, .lastParts] →
    c.checks.gateMs * 1000 ≤ (s.timeBase - g.start).toNat →
    let crash : Prop := c.checks.loadCeiling.toNat < g.pulses.toNat ∨ g.pulses = 0xFFFF
    let checked : Prop := c.checks.settleMs * 1000 ≤ (g.start - stamp).toNat
    let miss : Prop := checked ∧ g.pulses.toNat < c.checks.loadFloor.toNat ∧ ¬crash
    ∃ t c', exec (.loadGateEnd h) s = .next t ∧ headFrame h s t ∧ (t.head h).cycle = some c'
      ∧ c'.gate = some ⟨g.start + BitVec.ofNat 32 (c.checks.gateMs * 1000), 0⟩ ∧ c'.contact = some stamp
      ∧ (miss → c.misses + 1 < c.checks.missLimit → c'.misses = c.misses + 1 ∧ c'.verdictFlag = false)
      ∧ (checked → ¬miss → c'.misses = 0)
      ∧ (¬checked → c'.misses = c.misses)
      ∧ (crash ∨ (miss ∧ c.checks.missLimit ≤ c.misses + 1) →
          c'.verdictFlag = true ∧ (t.head h).record = some { r with condition := .broken }
          ∧ (s.stop.requests = [] → t.stop.latch = true) ∧ (t.head h).report ≠ .none
          ∧ (t.head h).reportReason = (if miss then quarantineLost else quarantineCrash))
      ∧ (¬crash → ¬(miss ∧ c.checks.missLimit ≤ c.misses + 1) →
          (t.head h).record = some r ∧ t.stop = s.stop ∧ t.fe = s.fe ∧ t.counters = s.counters)

/-- BREAKAGE_REPORT_RETRY and RECONCILIATION_DECLARE_RETRY (R108, R148): a roll interval after its *not sent*, at a SYNCED
station, the head unit submits its QUARANTINE with the location kept, or its DECLARE, again. -/
def Obligations.HeadFramesAreRetried : Prop :=
  ∀ (h : Head) (r : HeadRecord) (tm : Timer) (s : State), s.headsLive = true → (s.head h).record = some r →
    tm.length ≤ (s.timeBase - tm.start).toNat → s.poolBarred = false → s.lineFault = false →
    s.holdsRequest (.headUnit h) = false → s.fe.txQueue.length + s.fe.admissionsDue < 6 →
    ((s.head h).report = .due → (s.head h).reportRetry = some tm →
      ∃ t, exec (.breakageReportRetry h) s = .next t ∧ headFrame h s t
        ∧ t.head h = { s.head h with report := .outstanding, reportRetry := none }
        ∧ ⟨.headUnit h, .pool (.quarantine r.serial (s.head h).reportReason 1), 0, false, false⟩ ∈ t.fe.txQueue
        ∧ t.fe.txQueue.length = s.fe.txQueue.length + 1 ∧ t.swaps = s.swaps ∧ t.counters = s.counters)
    ∧ (∀ f, (s.head h).declare = some ⟨f, some tm⟩ → (∀ head family, f ≠ .claim head family) →
      ∃ t, exec (.reconciliationDeclareRetry h) s = .next t ∧ headFrame h s t
        ∧ t.head h = { s.head h with declare := some ⟨f, none⟩ }
        ∧ ⟨.headUnit h, .pool f, 0, false, false⟩ ∈ t.fe.txQueue
        ∧ t.fe.txQueue.length = s.fe.txQueue.length + 1 ∧ t.swaps = s.swaps ∧ t.counters = s.counters)

/-! ## The swap units (chapter 9) -/

/-- CLAIM_LIFETIME_EXPIRE, CHANGE_POS_RISE, CONFIRM_WINDOW_EXPIRE and BACKOFF_EXPIRE (R155, R156, R158, R161) at a swap
unit with no frame outstanding and room in the transmit queue: a claim's lifetime releases it EXPIRED; CHANGE_POS starts the
confirm window of a DELIVERED wheel; the window's end raises the attempt count and releases the wheel WINDOW;
a backoff at a head that needs no sister ends in IDLE, and at one that may claim in CLAIMING.

SWAP_FRAME_RETRY (R152): a roll interval after its *not sent* a RELEASE or a MOUNT is submitted again if the unit is still
in the state that sent it and still holds the serial, and is given up if it is in another state or holds it no more; while
another frame of the unit is outstanding it is called for behind that one. The QUARANTINE of a mismatched tag is submitted
again in every state. The other frames that wait go on waiting.

The model's choice (notes/assumptions/6.md): a pin level is the one last told. -/
def Obligations.SwapTimersAndRetries : Prop :=
  (∀ (h : Head) (tm : Timer) (x : Serial) (s : State), s.headsLive = true →
      tm.length ≤ (s.timeBase - tm.start).toNat → (s.swap h).outstanding = none → s.poolBarred = false →
      s.lineFault = false → s.fe.txQueue.length + s.fe.admissionsDue < 6 →
      ((s.swap h).lifetime = some tm → (s.swap h).state = .await → (s.swap h).held = some x → (s.swap h).wants = [] →
          (∃ e, findSerial s.pool.table x = some e ∧ e.state = .claimed) →
        ∃ t, exec (.claimLifetimeExpire h) s = .next t ∧ headFrame h s t ∧ t.heads = s.heads
          ∧ t.swap h = { s.swap h with lifetime := none,
                                       outstanding := some ⟨.release x releaseExpired, false, .await⟩ }
          ∧ ⟨.swapUnit h, .pool (.release x releaseExpired), 0, false, false⟩ ∈ t.fe.txQueue)
      ∧ ((s.swap h).window = .running tm → (s.swap h).state = .confirming → (s.swap h).held = some x →
          (s.swap h).wants = [] →
        ∃ t, exec (.confirmWindowExpire h) s = .next t ∧ headFrame h s t ∧ t.heads = s.heads
          ∧ t.swap h = { s.swap h with window := .expired, attempts := min 3 ((s.swap h).attempts + 1),
                                       outstanding := some ⟨.release x releaseWindow, false, .confirming⟩ }
          ∧ ⟨.swapUnit h, .pool (.release x releaseWindow), 0, false, false⟩ ∈ t.fe.txQueue)
      ∧ (∃ t, exec (.changePosRise h) s = .next t ∧ headFrame h s t ∧ t.heads = s.heads ∧ t.fe = s.fe
          ∧ (t.headLevels h).changePos = true
          ∧ ((s.swap h).state = .delivered →
              t.swap h = { s.swap h with
                state := .confirming, window := .running ⟨s.timeBase, s.constants.confirmWindowS * 1000000⟩ })
          ∧ ((s.swap h).state ≠ .delivered → t.swaps = s.swaps))
      ∧ ((s.swap h).backoff = some tm → (s.swap h).state = .backoff → (s.swap h).tagDeclare = false →
        ∃ t, exec (.backoffExpire h) s = .next t ∧ headFrame h s t ∧ t.heads = s.heads
          ∧ (needsSister (s.condition h) = false → (t.swap h).state = .idle ∧ (t.swap h).backoff = none ∧ t.fe = s.fe)
          ∧ (needsSister (s.condition h) = true → (s.swap h).held = none → s.fe.doubtful = false →
              (s.head h).declare = none → (s.swap h).retries = [] → s.claimQueued (headByte h) = false →
              (t.swap h).state = .claiming
              ∧ ⟨.swapUnit h, .pool (.claim (headByte h) (familyByte (s.claimFamily h))), 0, false, false⟩
                  ∈ t.fe.txQueue)))
  ∧ (∀ (h : Head) (f : PoolFrame) (x : Serial) (tm : Timer) (st : SwapState) (before after : List SwapRetry) (s : State),
      s.headsLive = true → (s.swap h).retries = before ++ ⟨f, tm, st⟩ :: after →
      (∀ r ∈ before, (s.timeBase - r.timer.start).toNat < r.timer.length) →
      tm.length ≤ (s.timeBase - tm.start).toNat → s.poolBarred = false → s.lineFault = false →
      s.fe.txQueue.length + s.fe.admissionsDue < 6 →
      let stands : Prop := (s.swap h).held = some x ∧ (s.swap h).state = st
      let release : Prop := ∃ reason, f = .release x reason
      let mount : Prop := ∃ head old d sp, f = .mount head x old d sp
      let quarantine : Prop := ∃ reason keep, f = .quarantine x reason keep
      ((stands ∧ release) ∨ (stands ∧ mount ∧ (s.head h).report = .none) ∨ quarantine →
          (s.swap h).outstanding = none →
        ∃ t, exec (.swapFrameRetry h) s = .next t ∧ headFrame h s t ∧ t.heads = s.heads
          ∧ t.swap h = { s.swap h with retries := before ++ after, outstanding := some ⟨f, false, (s.swap h).state⟩ }
          ∧ ⟨.swapUnit h, .pool f, 0, false, false⟩ ∈ t.fe.txQueue)
      ∧ ((stands ∧ (release ∨ mount)) ∨ quarantine → (s.swap h).outstanding.isSome = true → (s.swap h).wants = [] →
        ∃ t, exec (.swapFrameRetry h) s = .next t ∧ headFrame h s t ∧ t.fe = s.fe
          ∧ t.swap h = { s.swap h with retries := before ++ after, wants := [.again f st] })
      ∧ (release ∨ mount → ¬stands →
        ∃ t, exec (.swapFrameRetry h) s = .next t ∧ headFrame h s t ∧ t.fe = s.fe
          ∧ t.swap h = { s.swap h with retries := before ++ after }))

/-- SWAP_TAG_RECORD (R159, R160, R164): with CHANGE_POS low, for no head of this station, or of another kind, the record is
counted as ignored, and so is one of the held wheel while that wheel is not needed. In DELIVERED, and in CONFIRMING with the
window running, the held wheel's own record makes the unit MOUNTING, with its MOUNT, and another wheel's makes it FAILED
with the wheel given up and its QUARANTINE; in AWAIT the held wheel's own record makes it MOUNTING. A record at a NO_WHEEL
head whose unit is IDLE or in BACKOFF with no frame outstanding becomes a DECLARE. Every other record is ignored.

The model's choices: a record of another wheel is judged also while the held one is not needed (notes/assumptions/24.md); a
unit whose mismatch QUARANTINE waits for its next submission makes no DECLARE (notes/assumptions/22.md). -/
def Obligations.SwapTagRecordIsJudged : Prop :=
  ∀ (r : TagRecord) (pos : Bool) (s : State), s.headsLive = true → s.tag = ⟨none, none, .waiting r⟩ →
    ∃ t, exec (.swapTagRecord pos) s = .next t ∧ t.tag = ⟨none, none, .idle⟩ ∧ unitFrame s t ∧ t.heads = s.heads
      ∧ let ignored : Prop :=
          t.counters = { s.counters with tagsIgnored := satInc s.counters.tagsIgnored } ∧ t.fe = s.fe
            ∧ t.swaps = s.swaps
        (pos = false ∨ r.kind ≠ 3 ∨ 1 < r.place.toNat → ignored)
        ∧ ∀ h, pos = true → r.kind = 3 → r.place = headByte h →
          let u := s.swap h
          let own : Prop := u.held = some r.serial ∧ r.family = u.heldFamily.setWidth 8
          let maySend : Prop := u.outstanding = none ∧ u.wants = [] ∧ s.poolBarred = false ∧ s.lineFault = false
            ∧ s.fe.txQueue.length + s.fe.admissionsDue < 6
          let sends : PoolFrame → SwapState → Prop := fun f st =>
            (t.swap h).outstanding = some ⟨f, false, st⟩ ∧ ⟨.swapUnit h, .pool f, 0, false, false⟩ ∈ t.fe.txQueue
          let mounts : Prop :=
            (t.swap h).state = .mounting ∧ (t.swap h).held = u.held ∧ (t.swap h).window = .stopped
              ∧ t.counters = s.counters
              ∧ (maySend → (s.head h).report = .none →
                (∀ w, (s.head h).record = some w → sends (.mount (headByte h) r.serial w.serial w.diameter
                    (if w.condition = .spent then 1 else 0)) .mounting)
                ∧ ((s.head h).record = none → sends (.mount (headByte h) r.serial 0 0 0) .mounting))
          (u.notNeeded = true → u.held = some r.serial → ignored)
          ∧ (u.notNeeded = false ∨ u.held ≠ some r.serial →
            (∀ x tm, u.held = some x → u.state = .delivered ∨ (u.state = .confirming ∧ u.window = .running tm) →
              (own → mounts)
              ∧ (¬own → (t.swap h).state = .failed ∧ (t.swap h).held = none ∧ t.counters = s.counters
                  ∧ (maySend → sends (.quarantine x quarantineTagMismatch 0) .failed)))
            ∧ (u.state = .confirming → (∀ tm, u.window ≠ .running tm) → ignored)
            ∧ (u.state = .await → (own → mounts) ∧ (¬own → ignored))
            ∧ (u.state ∈ [SwapState.claiming, .mounting, .failed] → ignored)
            ∧ (u.state = .idle ∨ u.state = .backoff →
              (s.condition h = none → u.tagDeclare = false → s.synced = true → maySend → u.retries = [] →
                let f := PoolFrame.declare (headByte h) r.serial r.family
                  (if r.diameter = 0 ∧ r.family.toNat ≤ 15
                    then (familyAt s.families (r.family.setWidth 4)).newDiameter else r.diameter)
                t.swap h = { u with tagDeclare := true, outstanding := some ⟨f, false, u.state⟩ }
                  ∧ sends f u.state ∧ t.counters = s.counters)
              ∧ ((s.condition h).isSome = true ∨ u.tagDeclare = true ∨ s.synced = false
                  ∨ u.outstanding.isSome = true ∨ (∃ q ∈ u.retries, q.frame.kind = .quarantine) → ignored)))

/-! ## The tag port (R200) -/

/-- TAG_BYTE and TAG_GAP_TIMEOUT: 0x7E begins a record; a further byte is added and starts the gap timer again; a framing
error, or a gap of 10 ms, discards the record and is counted; twelve bytes with the right exclusive-or make a record of a
defined kind that waits for its consumer, and one of another kind is counted as ignored. While a record waits, a byte stays
in the holding byte and goes to the assembly once the record is taken; one that overruns it is counted. A byte leaves the
shift register empty; a gap and a record taken do not touch it. -/
def Obligations.TagBytesMakeRecords : Prop :=
  (∀ (b : Byte) (s : State), s.isLive = true → s.tag.holding = none →
    (s.tag.assembly = .idle →
      ∃ t, exec (.tagByte b false) s = .next t ∧ storeFrame s t ∧ t.fe = s.fe ∧ t.store = s.store
        ∧ t.counters = s.counters
        ∧ t.tag = ⟨none, none, if b = 0x7E then .assembling [b] ⟨s.timeBase, 10000⟩ else .idle⟩)
    ∧ (∀ bytes gap, s.tag.assembly = .assembling bytes gap →
        (bytes.length < 11 →
          ∃ t, exec (.tagByte b false) s = .next t ∧ storeFrame s t ∧ t.fe = s.fe ∧ t.counters = s.counters
            ∧ t.tag = ⟨none, none, .assembling (bytes ++ [b]) ⟨s.timeBase, 10000⟩⟩)
        ∧ (∃ t, exec (.tagByte b true) s = .next t ∧ storeFrame s t ∧ t.fe = s.fe ∧ t.tag = ⟨none, none, .idle⟩
            ∧ t.counters = { s.counters with tagErrors := satInc s.counters.tagErrors })
        ∧ (gap.length ≤ (s.timeBase - gap.start).toNat →
          ∃ t, exec .tagGapTimeout s = .next t ∧ storeFrame s t ∧ t.fe = s.fe
            ∧ t.tag = { s.tag with assembly := .idle }
            ∧ t.counters = { s.counters with tagErrors := satInc s.counters.tagErrors })
        ∧ (∀ kind a1 a2 a3 a4 fam d1 d2 d3 place, bytes = [0x7E, kind, a1, a2, a3, a4, fam, d1, d2, d3, place] →
            (b = kind ^^^ a1 ^^^ a2 ^^^ a3 ^^^ a4 ^^^ fam ^^^ d1 ^^^ d2 ^^^ d3 ^^^ place →
                kind ∈ ([1, 2, 3] : List Byte) →
              ∃ t, exec (.tagByte b false) s = .next t ∧ storeFrame s t ∧ t.counters = s.counters
                ∧ t.tag = ⟨none, none, .waiting ⟨kind, a1 ++ a2 ++ a3 ++ a4, fam, d1 ++ d2 ++ d3, place⟩⟩)
            ∧ (b ≠ kind ^^^ a1 ^^^ a2 ^^^ a3 ^^^ a4 ^^^ fam ^^^ d1 ^^^ d2 ^^^ d3 ^^^ place →
              ∃ t, exec (.tagByte b false) s = .next t ∧ storeFrame s t ∧ t.tag = ⟨none, none, .idle⟩
                ∧ t.counters = { s.counters with tagErrors := satInc s.counters.tagErrors }))))
  ∧ (∀ (b : Byte) (fe : Bool) (r : TagRecord) (s : State), s.isLive = true → s.tag.assembly = .waiting r →
      (s.tag.holding = none →
        ∃ t, exec (.tagByte b fe) s = .next t ∧ storeFrame s t ∧ t.fe = s.fe ∧ t.counters = s.counters
          ∧ t.tag = ⟨none, some (b, fe), .waiting r⟩)
      ∧ (∀ x, s.tag.holding = some x →
        ∃ t, exec (.tagByte b fe) s = .next t ∧ storeFrame s t ∧ t.fe = s.fe ∧ t.tag = ⟨none, some x, .waiting r⟩
          ∧ t.counters = { s.counters with tagErrors := satInc s.counters.tagErrors })
      ∧ (s.headsLive = true → ∀ x, s.tag.holding = some x →
        ∃ t, exec (.swapTagRecord false) s = .next t ∧ unitFrame s t
          ∧ t.tag = ⟨s.tag.shift, none, if x = (0x7E, false) then .assembling [0x7E] ⟨s.timeBase, 10000⟩ else .idle⟩))
  ∧ (∀ (kind a1 a2 a3 a4 fam d1 d2 d3 place b : Byte) (gap : Timer) (s : State), s.isLive = true →
      s.tag.holding = none → kind ∉ ([1, 2, 3] : List Byte) →
      s.tag.assembly = .assembling [0x7E, kind, a1, a2, a3, a4, fam, d1, d2, d3, place] gap →
      b = kind ^^^ a1 ^^^ a2 ^^^ a3 ^^^ a4 ^^^ fam ^^^ d1 ^^^ d2 ^^^ d3 ^^^ place →
      ∃ t, exec (.tagByte b false) s = .next t ∧ storeFrame s t ∧ t.tag = ⟨none, none, .idle⟩
        ∧ t.counters = { s.counters with tagsIgnored := satInc s.counters.tagsIgnored })

/-! ## The store unit (chapter 10) -/

/-- STORE_TAG_RECORD (R168, R169): a LOAD record of an unknown wheel for a slot that is named by no entry and not reserved
becomes an ENTER, its diameter the family's new one where the record gives 0; a WITHDRAW record of the FREE wheel of its
slot becomes a REMOVE; a record out of SYNCED, of a slot above 47 or of another kind is counted as ignored. -/
def Obligations.RackTagBecomesRequest : Prop :=
  ∀ (r : TagRecord) (s : State), s.storeLive = true → s.tag = ⟨none, none, .waiting r⟩ →
    ∃ t, exec .storeTagRecord s = .next t ∧ storeFrame s t ∧ t.tag = ⟨none, none, .idle⟩
      ∧ (s.synced = false ∨ 47 < r.place.toNat ∨ r.kind ∉ ([1, 2] : List Byte) →
          t.counters = { s.counters with tagsIgnored := satInc s.counters.tagsIgnored } ∧ t.store = s.store
          ∧ t.fe = s.fe)
      ∧ (s.poolBarred = false → s.lineFault = false → r.place.toNat ≤ 47 → s.store.sendList = [] →
          s.store.jobFrame = none → s.store.track = none → s.holdsRequest .storeUnit = false →
          s.fe.txQueue.length + s.fe.admissionsDue < 6 →
          (r.kind = 1 → r.family.toNat ≤ 15 → (∀ e ∈ s.pool.table, e.serial ≠ r.serial) →
              (∀ e ∈ s.pool.table, e.slot ≠ some (r.place.setWidth 6)) →
              s.store.reservation ≠ some (r.place.setWidth 6) →
            ⟨.storeUnit, .pool (.enter r.serial r.family
                (if r.diameter = 0 then (familyAt s.families (r.family.setWidth 4)).newDiameter else r.diameter)
                r.place), 0, false, false⟩ ∈ t.fe.txQueue ∧ t.counters = s.counters)
          ∧ (r.kind = 2 → (∃ e, findSerial s.pool.table r.serial = some e ∧ e.state = .free
                ∧ e.slot = some (r.place.setWidth 6)) →
            ⟨.storeUnit, .pool (.remove r.serial removeWithdrawn), 0, false, false⟩ ∈ t.fe.txQueue
            ∧ t.counters = s.counters))

/-- JOB_START (R172, R173) at a SYNCED store that has no job, whose fault latch is clear: a RETURN of a good wheel at
the head of the queue is ARMED for the lowest slot that no entry names, and its strobe is given; one of a spent wheel
goes to the CHUTE and one of a QUARANTINED wheel to INSPECTION, with no reservation; a FETCH to a station that is not
SILENT is STARTING with its DISPATCH in the transmit queue; one to a SILENT station is dropped with a
RELEASE(DEST_SILENT), and the test is made again; a RETURN that finds no slot waits at the head, and the first FETCH
behind it starts; with GANTRY_READY low nothing starts.

The model's choice (notes/assumptions/6.md): GANTRY_READY is the level the command tells. -/
def Obligations.JobStartsByItsKind : Prop :=
  ∀ (j : Job) (js : List Job) (s : State), s.storeLive = true → s.store.job = none → s.store.faultLatch = false →
    s.synced = true → s.lineFault = false → s.store.queue = j :: js →
    (∃ t, exec (.jobStart false) s = .next t ∧ t.store = s.store ∧ t.fe = s.fe ∧ storeFrame s t)
    ∧ (∀ e n, j.kind = .ret → findSerial s.pool.table j.serial = some e → e.state = .returning → e.spent = false →
        n.toNat < 48 → slotNamed s.pool.table n = false →
        (∀ k : BitVec 6, k.toNat < n.toNat → slotNamed s.pool.table k = true) →
      ∃ t, exec (.jobStart true) s = .next t ∧ storeFrame s t ∧ t.fe = s.fe
        ∧ t.store.job = some ⟨{ j with dest := some (.slot n) }, .moving⟩ ∧ t.store.reservation = some n
        ∧ t.store.strobe = some ⟨s.timeBase, 2000⟩ ∧ t.jobStrobe = true ∧ t.jobFrom = j.source.code ∧ t.jobTo = n)
    ∧ (∀ e dest, j.kind = .ret → findSerial s.pool.table j.serial = some e →
        (e.state = .quarantined ∧ dest = .inspection) ∨ (e.state = .returning ∧ e.spent = true ∧ dest = .chute) →
      ∃ t, exec (.jobStart true) s = .next t ∧ storeFrame s t ∧ t.fe = s.fe
        ∧ t.store.job = some ⟨{ j with dest := some dest }, .moving⟩ ∧ t.store.reservation = none
        ∧ t.store.strobe = some ⟨s.timeBase, 2000⟩ ∧ t.jobStrobe = true ∧ t.jobFrom = j.source.code
        ∧ t.jobTo = (if dest = .chute then 48 else 49))
    ∧ (∀ st h, j.kind = .fetch → j.dest = some (.change st h) → s.isSilent st = false → s.store.jobFrame = none →
        s.holdsRequest .storeUnit = false → s.poolBarred = false → s.fe.txQueue.length + s.fe.admissionsDue < 6 →
      ∃ t, exec (.jobStart true) s = .next t ∧ storeFrame s t ∧ t.store.job = some ⟨j, .starting⟩
        ∧ t.queued .storeUnit (.dispatch j.serial)
        ∧ t.store.jobFrame = some ⟨.dispatch j.serial, .submitted⟩ ∧ t.jobStrobe = s.jobStrobe)
    ∧ (∀ st h, j.kind = .fetch → j.dest = some (.change st h) → s.isSilent st = true → s.store.jobFrame = none →
        s.store.track = none → s.store.sendList = [] → s.holdsRequest .storeUnit = false → s.poolBarred = false →
        (∀ e ∈ s.pool.table, e.state ≠ .returning ∧ e.state ≠ .quarantined) →
      (js = [] → s.fe.txQueue.length + s.fe.admissionsDue < 6 →
        ∃ t, exec (.jobStart true) s = .next t ∧ storeFrame s t ∧ t.store = { s.store with queue := [] }
          ∧ t.queued .storeUnit (.release j.serial releaseDestSilent))
      ∧ (∀ k st' h', js = [k] → k.kind = .fetch → k.serial ≠ j.serial → k.dest = some (.change st' h') →
          s.isSilent st' = false → s.fe.txQueue.length + s.fe.admissionsDue < 5 →
        ∃ t, exec (.jobStart true) s = .next t ∧ storeFrame s t
          ∧ t.store = { s.store with
              queue := [], job := some ⟨k, .starting⟩, jobFrame := some ⟨.dispatch k.serial, .submitted⟩ }
          ∧ t.queued .storeUnit (.release j.serial releaseDestSilent) ∧ t.queued .storeUnit (.dispatch k.serial)))
    ∧ (∀ e, j.kind = .ret → findSerial s.pool.table j.serial = some e → e.state = .returning → e.spent = false →
        (∀ k : BitVec 6, k.toNat < 48 → slotNamed s.pool.table k = true) →
      ((∀ k ∈ js, k.kind = .ret) →
        ∃ t, exec (.jobStart true) s = .next t ∧ storeFrame s t ∧ t.store = s.store ∧ t.fe = s.fe)
      ∧ (∀ k l r st h, js = l ++ k :: r → (∀ x ∈ l, x.kind = .ret) → k.kind = .fetch → k.serial ≠ j.serial →
          k.dest = some (.change st h) → s.isSilent st = false → s.store.jobFrame = none →
          s.holdsRequest .storeUnit = false → s.poolBarred = false → s.fe.txQueue.length + s.fe.admissionsDue < 6 →
        ∃ t, exec (.jobStart true) s = .next t ∧ storeFrame s t ∧ t.store.job = some ⟨k, .starting⟩
          ∧ t.store.queue.head? = some j ∧ t.store.jobFrame = some ⟨.dispatch k.serial, .submitted⟩
          ∧ t.queued .storeUnit (.dispatch k.serial)))

/-- JOB_STROBE_END, GANTRY_READY_RISE, GANTRY_DONE and GANTRY_FAULT (R174, R175, R177): the strobe pulse ends with its
timer; GANTRY_READY clears the fault latch and gives an ARMED job its strobe; the end of a move puts the job in CLOSING
with the frame that completes it, DELIVER, RACK, REMOVE(SPENT_OUT) at the CHUTE or REMOVE(INSPECTED) at INSPECTION, and
a fault sets the latch and closes the job with its QUARANTINE. At a store that is not SYNCED no frame is made: the
completion or the fault is held (R180). With no job in MOVING, GANTRY_DONE is disregarded, and GANTRY_FAULT sets the
latch alone.

The model's choice (notes/assumptions/6.md): GANTRY_READY's level after an edge of GANTRY_DONE is the one the command
tells. -/
def Obligations.GantryEdgesMoveJob : Prop :=
  (∀ (j : Job) (s : State), s.storeLive = true → s.poolBarred = false → s.lineFault = false →
    s.holdsRequest .storeUnit = false → s.fe.txQueue.length + s.fe.admissionsDue < 6 →
    (∀ tm, s.store.strobe = some tm → tm.length ≤ (s.timeBase - tm.start).toNat →
        s.store.job = some ⟨j, .moving⟩ →
      ∃ t, exec (.jobStrobeEnd true) s = .next t ∧ storeFrame s t ∧ t.store = { s.store with strobe := none }
        ∧ t.fe = s.fe ∧ t.jobStrobe = false)
    ∧ (s.store.job = some ⟨j, .armed⟩ →
      ∃ t, exec .gantryReadyRise s = .next t ∧ storeFrame s t ∧ t.store.faultLatch = false ∧ t.fe = s.fe
        ∧ t.store.job = some ⟨j, .moving⟩ ∧ t.jobStrobe = true ∧ t.levels.gantryReady = true)
    ∧ (∀ ready f, s.store.job = some ⟨j, .moving⟩ →
        (j.kind = .fetch ∧ f = .deliver j.serial)
          ∨ (j.kind = .ret ∧ ((∃ n, j.dest = some (.slot n) ∧ f = .rack j.serial (n.setWidth 8))
            ∨ (j.dest = some .chute ∧ f = .remove j.serial removeSpentOut)
            ∨ (j.dest = some .inspection ∧ f = .remove j.serial removeInspected))) →
      ∃ t, exec (.gantryDone ready) s = .next t ∧ storeFrame s t ∧ t.levels.gantryReady = ready
        ∧ t.store = { s.store with job := some ⟨j, .closing⟩, jobFrame := some ⟨f, .submitted⟩
                                   sendList := t.store.sendList, track := t.store.track, claims := t.store.claims }
        ∧ t.queued .storeUnit f ∧ t.jobFrom = 0 ∧ t.jobTo = 0)
    ∧ (∀ ready, s.store.job = some ⟨j, .moving⟩ →
      ∃ t, exec (.gantryFault ready) s = .next t ∧ storeFrame s t ∧ t.store.faultLatch = true
        ∧ t.store.job = some ⟨j, .closing⟩
        ∧ t.queued .storeUnit (.quarantine j.serial quarantineGantryFault 0)))
  ∧ (∀ (j : Job) (ready : Bool) (s : State), s.storeLive = true → s.synced = false →
      s.store.job = some ⟨j, .moving⟩ →
      (∃ t, exec (.gantryDone ready) s = .next t ∧ storeFrame s t ∧ t.fe = s.fe ∧ t.levels.gantryReady = ready
        ∧ t.store = { s.store with job := some ⟨j, .closing⟩, heldCompletion := some .done })
      ∧ ∃ t, exec (.gantryFault ready) s = .next t ∧ storeFrame s t ∧ t.fe = s.fe ∧ t.levels.gantryReady = ready
        ∧ t.store = { s.store with
            job := some ⟨j, .closing⟩, heldCompletion := some .fault, faultLatch := true })
  ∧ (∀ (ready : Bool) (s : State), s.storeLive = true → (∀ j, s.store.job ≠ some ⟨j, .moving⟩) →
      (ready = false ∨ s.store.faultLatch = true ∨ (∀ j, s.store.job ≠ some ⟨j, .armed⟩) →
        ∃ t, exec (.gantryDone ready) s = .next t ∧ storeFrame s t ∧ t.store = s.store ∧ t.fe = s.fe)
      ∧ ∃ t, exec (.gantryFault ready) s = .next t ∧ storeFrame s t ∧ t.fe = s.fe
        ∧ t.store = { s.store with faultLatch := true })

/-- CLAIM_WATCH_EXPIRE and STORE_FRAME_RETRY (R168, R178, R180): the lifetime of a claim expires; the claim of a SILENT
holder is released EXPIRED at once, and that of any other is left to its holder; the other claims stay as they are. An
expired claim of a SILENT holder whose release is no longer pending is tested again at a liveness notice of any station. A
roll interval after its *not sent* the job frame is submitted again; so is the track scan's frame while its wheel is
TRANSIT, and once it is not the scan goes on to the next one that is. -/
def Obligations.StoreTimersAct : Prop :=
  ∀ s : State, s.storeLive = true → s.poolBarred = false → s.lineFault = false → s.holdsRequest .storeUnit = false →
    s.fe.txQueue.length + s.fe.admissionsDue < 6 →
    (∀ c l r x, s.store.claims = l ++ c :: r → (∀ d ∈ l ++ r, d.serial ≠ x) → c.serial = x → c.expired = false →
        c.releasePending = false →
        s.constants.claimLifetimeS * 1000000 ≤ (s.timeBase - c.stamp).toNat → s.store.job = none →
        s.store.sendList = [] → s.store.jobFrame = none → s.store.track = none →
      ∃ t, exec (.claimWatchExpire x) s = .next t ∧ storeFrame s t
        ∧ (s.isSilent c.station = false → t.store = { s.store with claims := l ++ { c with expired := true } :: r }
            ∧ t.fe = s.fe)
        ∧ (s.isSilent c.station = true →
            t.store = { s.store with claims := l ++ { c with expired := true, releasePending := true } :: r }
            ∧ ⟨.storeUnit, .pool (.release x releaseExpired), 0, false, false⟩ ∈ t.fe.txQueue))
    ∧ (∀ f tm, s.store.jobFrame = some ⟨f, .waiting tm⟩ → tm.length ≤ (s.timeBase - tm.start).toNat →
        (∀ head family, f ≠ .claim head family) → s.store.sendList = [] → s.store.track = none →
      ∃ t, exec .storeFrameRetry s = .next t ∧ storeFrame s t
        ∧ t.store = { s.store with jobFrame := some ⟨f, .submitted⟩ }
        ∧ ⟨.storeUnit, .pool f, 0, false, false⟩ ∈ t.fe.txQueue)
    ∧ (∀ x tm, s.store.track = some ⟨.quarantine x quarantineLostTrack 0, .waiting tm⟩ →
        tm.length ≤ (s.timeBase - tm.start).toNat → s.store.job = none → s.store.jobFrame = none →
        s.store.sendList = [] →
      ∃ t, exec .storeFrameRetry s = .next t ∧ storeFrame s t
        ∧ ((∃ e ∈ s.pool.table, e.serial = x ∧ e.state = .transit) →
            t.store = { s.store with track := some ⟨.quarantine x quarantineLostTrack 0, .submitted⟩ }
            ∧ ⟨.storeUnit, .pool (.quarantine x quarantineLostTrack 0), 0, false, false⟩ ∈ t.fe.txQueue)
        ∧ ((∀ e ∈ s.pool.table, e.state = .transit → e.serial.toNat < x.toNat) →
            t.store = { s.store with track := none } ∧ t.fe = s.fe)
        ∧ (∀ y, (∃ e ∈ s.pool.table, e.serial = y ∧ e.state = .transit) → x.toNat < y.toNat →
            (∀ e ∈ s.pool.table, e.state = .transit → e.serial.toNat < x.toNat ∨ y.toNat ≤ e.serial.toNat) →
            t.store = { s.store with track := some ⟨.quarantine y quarantineLostTrack 0, .submitted⟩ }
            ∧ ⟨.storeUnit, .pool (.quarantine y quarantineLostTrack 0), 0, false, false⟩ ∈ t.fe.txQueue))
    ∧ (∀ c before behind st r, s.store.claims = before ++ c :: behind → c.expired = true → c.releasePending = false →
        s.isSilent c.station = true ∨ c.station = st →
        -- The other records stay: their claims have not expired, are being released, or are those of a station heard.
        (∀ d ∈ before ++ behind, d.serial ≠ c.serial ∧ (d.expired = false ∨ d.releasePending = true
          ∨ (s.isSilent d.station = false ∧ d.station ≠ st))) →
        s.peers.records.find? (fun r => r.station == st) = some r → r.silent = false →
        4 * (s.constants.rollIntervalMs * 1000) ≤ (s.timeBase - r.lastHeard).toNat → s.store.job = none →
        s.store.sendList = [] → s.store.jobFrame = none → s.store.track = none →
      ∃ t, exec (.peerSilenceTimeout st) s = .next t ∧ cellFrame s t ∧ t.pool = s.pool
        ∧ t.store = { s.store with claims := before ++ { c with releasePending := true } :: behind }
        ∧ ⟨.storeUnit, .pool (.release c.serial releaseExpired), 0, false, false⟩ ∈ t.fe.txQueue)

/-! ## The life store (chapter 11) -/

/-- COMMIT_START (R186, R187): on an idle engine the lowest pending id above the last served one, or else the lowest
pending id, is taken, the buffer is filled with its page, and the engine erases the first page after the last written one,
going round from 63 to 4, that is neither bad nor current.

PAGE_ERASE_DONE, PAGE_PROGRAM_DONE and COMMIT_MARK_DONE (R188 to R190) in a commit while no read waits: an erased page
that reads blank is programmed under the next sequence, with the header of 13.5, the check over header and body, and the body
as it was filled; a programming that reads back right goes to its mark, and one that
does not is made again up to three times; a mark that reads 0 ends the commit with the page current. An erased page that is
not blank, a third programming that does not read back right and a mark that does not read 0 mark the page bad: the same
buffer goes to the next page, or at the ninth bad page the station is in STORE_FAULT, with no commit in flight or pending.
STORE_FAULT comes of an exhausted sequence too.

The model's choice (notes/assumptions/33.md): until its page is programmed the buffer carries the present sequence. -/
def Obligations.CommitRuns : Prop :=
  -- A data page of 13.5: the header, its check, the body, and 0xFF to the end.
  let page : Nat → BitVec 32 → List Byte → List Byte := fun id seq body =>
    let header := [BitVec.ofNat 8 id] ++ be32 seq ++ [if id ≤ 2 then 18 else 110]
    header ++ be16 (crc16 (header ++ body)) ++ body ++ List.replicate (120 - body.length) 0xFF
  (∀ (id p : Nat) (s : State), s.journalRuns = true → s.life.engine = .idle → s.life.fault = false →
      s.life.serves id → s.life.takes p →
      ∃ t, exec .commitStart s = .next t
        ∧ t = { s with life := t.life }
        ∧ t.life = { s.life with
            pending := s.life.pending.filter (· != id), lastId := id, pointer := 0, engine := .erasing id p
            buffer := page id s.life.sequence (logicalBody id s) })
  ∧ (∀ (id p : Nat) (content : List Byte) (s : State), content.length = 128 → s.service.waiting = none →
      (s.life.engine = .erasing id p → s.life.sequence.toNat < 0xFFFFFFFE → (∀ b ∈ content, b = 0xFF) →
        ∃ t, exec (.pageEraseDone content) s = .next t ∧ t = { s with life := t.life }
          ∧ t.life = { s.life with
              pages := s.life.pages.writePage p content, engine := .programming id p 1, sequence := s.life.sequence + 1
              buffer := page id (s.life.sequence + 1) ((s.life.buffer.drop 8).take (if id ≤ 2 then 18 else 110)) })
      ∧ (∀ n, s.life.engine = .programming id p n → content.take 127 = s.life.buffer.take 127 →
        ∃ t, exec (.pageProgramDone content) s = .next t ∧ t = { s with life := t.life }
          ∧ t.life = { s.life with pages := s.life.pages.writePage p content, lastWritten := p, engine := .marking id p })
      ∧ (∀ n, s.life.engine = .programming id p n → n < 3 → content.take 127 ≠ s.life.buffer.take 127 →
        ∃ t, exec (.pageProgramDone content) s = .next t ∧ t = { s with life := t.life }
          ∧ t.life.engine = .programming id p (n + 1) ∧ t.life.map = s.life.map ∧ t.life.lastWritten = p
          ∧ t.life.buffer = s.life.buffer ∧ t.life.sequence = s.life.sequence)
      ∧ (s.life.engine = .marking id p →
        ∃ t, exec (.commitMarkDone 0) s = .next t ∧ t = { s with life := t.life }
          ∧ t.life.engine = .idle ∧ t.life.pages = s.life.pages.write (128 * p + 127) 0
          ∧ (id, p) ∈ t.life.map ∧ (∀ m ∈ t.life.map, m.1 = id → m.2 = p)
          ∧ (∀ m, m.1 ≠ id → (m ∈ t.life.map ↔ m ∈ s.life.map))
          ∧ t.life.buffer = List.replicate 128 0xFF ∧ t.life.pointer = 0)
      ∧ (∀ c,
          (s.life.engine = .erasing id p ∧ c = .pageEraseDone content ∧ ∃ b ∈ content, b ≠ 0xFF)
            ∨ (s.life.engine = .programming id p 3 ∧ c = .pageProgramDone content
                ∧ content.take 127 ≠ s.life.buffer.take 127)
            ∨ (s.life.engine = .marking id p ∧ ∃ mark, mark ≠ 0 ∧ c = .commitMarkDone mark) →
        ∃ t, exec c s = .next t ∧ t = { s with life := t.life, counters := t.counters }
          ∧ t.counters = { s.counters with badPages := satInc s.counters.badPages }
          ∧ t.life.badPages = s.life.badPages ++ [p] ∧ t.life.map = s.life.map ∧ t.life.sequence = s.life.sequence
          ∧ (s.life.engine = .programming id p 3 → t.life.lastWritten = p)
          ∧ (8 ≤ s.life.badPages.length → t.life.fault = true ∧ t.life.pending = [] ∧ t.life.engine = .idle
              ∧ t.life.buffer = List.replicate 128 0xFF ∧ t.life.pointer = 0)
          ∧ (s.life.badPages.length < 8 → t.life.fault = s.life.fault ∧ t.life.pending = s.life.pending
              ∧ ∀ q, t.life.takes q → t.life.engine = .erasing id q ∧ t.life.buffer = s.life.buffer))
      ∧ (s.life.engine = .erasing id p → 0xFFFFFFFE ≤ s.life.sequence.toNat → (∀ b ∈ content, b = 0xFF) →
        ∃ t, exec (.pageEraseDone content) s = .next t ∧ t = { s with life := t.life } ∧ t.life.fault = true
          ∧ t.life.pending = [] ∧ t.life.engine = .idle ∧ t.life.map = s.life.map
          ∧ t.life.badPages = s.life.badPages ∧ t.life.buffer = List.replicate 128 0xFF))

/-! ## The service port (12.6) -/

/-- LOAD and CLEAR (R192, R201) in commissioning mode with no command in progress: the bytes go into the buffer at the
pointer, which stops at 127, and the last byte of a LOAD past the end stays in byte 127; CLEAR leaves 128 bytes of 0xFF
and the pointer at 0. The four writes, LOAD, CLEAR, COMMIT_CONFIG and ERASE_DATA (R201), change nothing but the service
port in run mode and in CONFIG_FAULT, where they are REFUSED, in every mode while an earlier command is carried out,
which answers BUSY, and in commissioning mode for a page above 3 and a count outside 1 to 128, which are REFUSED; a part
held in reset answers nothing (R195).

COMMIT_CONFIG (R193) in commissioning mode with no command in progress: a page that erases blank and reads back as the
buffer at its first, second or third verify is DONE; one that stays not blank, and one that fails its third verify, is
FAILED. The buffer is cleared whatever the answer.

ERASE_DATA (R193): it begins with page 4 and goes on page by page; a page that is not blank is counted, and left so that
it is no valid page; the end answers the number of pages that failed.

The model's choice (notes/assumptions/14.md): the reads that have not come leave the command in progress, and come with
PAGE_ERASE_DONE. -/
def Obligations.ServiceWrites : Prop :=
  (∀ (count : Byte) (bytes : List Byte) (s : State), 1 ≤ count.toNat → count.toNat ≤ 128 → bytes.length = count.toNat →
      s.serviceBusy = false →
      s.phase = .commissioning →
        (∃ t, exec (.load count bytes) s = .next t ∧ t.service.answer = [statusDone] ∧ t.service.selected = true
          ∧ t = { s with service := t.service
                         life := { s.life with buffer := t.life.buffer, pointer := t.life.pointer } }
          ∧ t.life.pointer = (if s.life.pointer ≤ 127 then min 127 (s.life.pointer + bytes.length) else 127)
          ∧ (s.life.pointer + bytes.length ≤ 128 → s.life.buffer.length = 128 →
              t.life.buffer = s.life.buffer.take s.life.pointer ++ bytes
                ++ s.life.buffer.drop (s.life.pointer + bytes.length))
          ∧ (128 ≤ s.life.pointer + bytes.length → s.life.pointer ≤ 127 → s.life.buffer.length = 128 →
              t.life.buffer = s.life.buffer.take s.life.pointer ++ bytes.take (127 - s.life.pointer)
                ++ bytes.getLast?.toList))
        ∧ (∃ t, exec .clear s = .next t ∧ t.service.answer = [statusDone]
          ∧ t = { s with service := t.service
                         life := { s.life with buffer := List.replicate 128 0xFF, pointer := 0 } }))
  ∧ (∀ (count page : Byte) (bytes : List Byte) (reads : List (List Byte)) (s : State),
      let writes : List Instr := [.load count bytes, .clear, .commitConfig page reads, .eraseData reads]
      let answered : Byte → Instr → Prop := fun status c =>
        ∃ t, exec c s = .next t ∧ t.service.answer = [status] ∧ t.service.selected = true ∧ serviceFrame s t
      (s.phase = .held → ∀ c ∈ writes, exec c s = .next s)
      ∧ (s.phase ≠ .held → s.serviceBusy = true → ∀ c ∈ writes, answered statusBusy c)
      ∧ (s.serviceBusy = false → s.phase = .selfTest ∨ s.phase = .live ∨ s.phase = .configFault →
          ∀ c ∈ writes, answered statusRefused c)
      ∧ (s.serviceBusy = false → s.phase = .commissioning →
          (3 < page.toNat → answered statusRefused (.commitConfig page reads))
          ∧ (count.toNat = 0 ∨ 128 < count.toNat → answered statusRefused (.load count bytes))))
  ∧ (∀ (page : Byte) (blank content : List Byte) (s : State), page.toNat ≤ 3 → s.phase = .commissioning →
      s.serviceBusy = false → s.service.answerLost = false → blank.length = 128 → (∀ b ∈ blank, b = 0xFF) →
      content.length = 128 → s.life.engine = .idle →
      let ends : Byte → Memory → State → Prop := fun status pages t =>
        t.service.answer = [status] ∧ t = { s with service := t.service, life := t.life }
          ∧ t.life = { s.life with pages := pages, buffer := List.replicate 128 0xFF, pointer := 0 }
      (∀ fails : List (List Byte), (∀ c ∈ fails, c.length = 128 ∧ c ≠ s.life.buffer) →
        let verified : List (List Byte) → Memory := fun reads =>
          reads.foldl (fun m c => m.writePage page.toNat c) (s.life.pages.writePage page.toNat blank)
        (fails.length ≤ 2 → content = s.life.buffer →
          ∃ t, exec (.commitConfig page (blank :: fails ++ [content])) s = .next t
            ∧ ends statusDone (verified (fails ++ [content])) t)
        ∧ (fails.length = 3 →
          ∃ t, exec (.commitConfig page (blank :: fails)) s = .next t ∧ ends statusFailed (verified fails) t))
      ∧ ((∃ b ∈ content, b ≠ 0xFF) →
        ∃ t, exec (.commitConfig page [content]) s = .next t
          ∧ ends statusFailed (s.life.pages.writePage page.toNat content) t)
      ∧ (∃ t, exec (.eraseData [blank]) s = .next t ∧ t.service.answer = []
          ∧ t.life = { s.life with pages := s.life.pages.writePage 4 blank, engine := .dataErase 5 0 }
          ∧ t = { s with service := t.service, life := t.life })
      ∧ (∀ reads : List (List Byte), reads.length = 60 → (∀ r ∈ reads, r.length = 128) →
        ∃ t, exec (.eraseData reads) s = .next t
          ∧ t.service.answer = [statusDone, BitVec.ofNat 8 (reads.countP fun r => r.any fun b => b != 0xFF)]
          ∧ t.life = { s.life with pages := t.life.pages } ∧ t = { s with service := t.service, life := t.life }
          ∧ ∀ a, a < 512 → t.life.pages.read a = s.life.pages.read a))
  ∧ (∀ (p n failed : Nat) (content : List Byte) (s : State), s.life.engine = .dataErase p n → content.length = 128 →
      s.service.answerLost = false → failed = (if content.all fun b => b == 0xFF then n else n + 1) →
      ∃ t left, exec (.pageEraseDone content) s = .next t ∧ t = { s with service := t.service, life := t.life }
        ∧ (left = content ∨ (validPage content).isSome = true) ∧ validPage left = none
        ∧ (p < 63 → t.service = s.service ∧ t.life = { s.life with
            pages := s.life.pages.writePage p left, engine := .dataErase (p + 1) failed })
        ∧ (63 ≤ p → t.service.answer = [statusDone, BitVec.ofNat 8 failed] ∧ t.life = { s.life with
            pages := s.life.pages.writePage p left, engine := .idle }))

/-- READ_PAGE, READ_HEAD, READ_POOL, READ_PEER and READ_COUNTERS (R201, R202, 13.6) in run mode: DONE with the data they
name at once where no commit is in flight, and held until its end where one is, when they are answered with the data and
the sensor levels as they then stand; REFUSED for an operand out of range and for READ_HEAD at a store. Nothing but the
service port and the levels told changes. READ_PAGE is answered in commissioning mode and in CONFIG_FAULT too, and
READ_COUNTERS in CONFIG_FAULT, with zero counters where none has risen and a status that shows CONFIG_FAULT; the other
reads are REFUSED in CONFIG_FAULT, and all but READ_PAGE in commissioning mode. While a command is being carried out every
read is BUSY.

The model's choices: a read that is REFUSED is so at once during a commit too (notes/assumptions/36.md); READ_HEAD tells
the LOAD and DRESS levels of its head at the moment it is taken, for whose falls the table has no row
(notes/assumptions/6.md). -/
def Obligations.ReadsAnswerAtOnce : Prop :=
  (∀ (n : Byte) (load dress : Bool) (s : State), s.phase = .live → s.serviceBusy = false →
    (∀ (c : Instr) (limit : Nat) (data : List Byte),
        (c, limit, data) ∈ [(Instr.readPage n, 63, s.life.pages.readPage n.toNat),
          (.readPool n, 63, [syncByte s.pool.sync] ++ be16 s.pool.generation
            ++ positionBytes s.pool.table n.toNat),
          (.readPeer n, 15, peerAnswer n.toNat s), (.readCounters, 255, countersAnswer s)] →
      ∃ t, exec c s = .next t ∧ serviceFrame s t ∧ t.service.selected = true
        ∧ (limit < n.toNat → t.service.answer = [statusRefused])
        ∧ (n.toNat ≤ limit → s.commitInFlight = false → t.service.answer = statusDone :: data)
        ∧ (n.toNat ≤ limit → s.commitInFlight = true → t.service.answer = [] ∧ t.service.waiting.isSome = true))
    ∧ ∃ t, exec (.readHead n load dress) s = .next t
        ∧ t = { s with service := t.service, levels := { s.levels with heads := t.levels.heads } }
        ∧ (s.isStore = true ∨ 1 < n.toNat → t.service.answer = [statusRefused] ∧ t.levels = s.levels)
        ∧ (∀ h, s.isStore = false → n = headByte h →
            (∀ k, k ≠ h → t.headLevels k = s.headLevels k)
            ∧ (s.commitInFlight = true → t.levels = s.levels ∧ t.service.answer = []
                ∧ t.service.waiting = some (.head h load dress))
            ∧ (s.commitInFlight = false →
              t.headLevels h = { s.headLevels h with load := load, dress := dress }
              ∧ t.service.answer = statusDone :: (recordBody (s.head h).record
                ++ [flagByte [(s.headLevels h).contact, load, dress], reportByte (s.head h).report,
                    swapByte (s.swap h).state]
                ++ be32 ((s.swap h).held.getD 0) ++ [BitVec.ofNat 8 (s.swap h).attempts]
                ++ refusalBytes (s.pool.headRefusal.get h)))))
  ∧ (∀ (r : ServiceRead) (id p : Nat) (s : State), s.service.waiting = some r → s.service.answerLost = false →
      s.life.engine = .marking id p →
      ∃ t, exec (.commitMarkDone 0) s = .next t ∧ t.service.waiting = none
        ∧ t.service.answer = statusDone :: readAnswer r t
        ∧ t = { s with life := t.life, service := t.service, levels := { s.levels with heads := t.levels.heads } }
        ∧ (∀ h load dress, r = .head h load dress → s.headsLive = true →
            t.headLevels h = { s.headLevels h with load := load, dress := dress }
            ∧ ∀ k, k ≠ h → t.headLevels k = s.headLevels k)
        ∧ ((∀ h load dress, r ≠ .head h load dress) → t.levels = s.levels))
  ∧ (∀ (n : Byte) (load dress : Bool) (s : State),
      let answers : Instr → List Byte → Prop := fun c bytes =>
        ∃ t, exec c s = .next t ∧ serviceFrame s t ∧ t.service.selected = true ∧ t.service.answer = bytes
          ∧ t.service.waiting = s.service.waiting
      (s.serviceBusy = false → s.commitInFlight = false → s.phase = .commissioning ∨ s.phase = .configFault →
        (n.toNat ≤ 63 → answers (.readPage n) (statusDone :: s.life.pages.readPage n.toNat))
        ∧ (63 < n.toNat → answers (.readPage n) [statusRefused])
        ∧ (∀ c ∈ [Instr.readHead n load dress, .readPool n, .readPeer n], answers c [statusRefused]))
      ∧ (s.serviceBusy = false → s.phase = .commissioning → answers .readCounters [statusRefused])
      ∧ (s.serviceBusy = false → s.commitInFlight = false → s.phase = .configFault →
        answers .readCounters (statusDone :: countersAnswer s)
          ∧ (s.counters = Counters.zero → (countersAnswer s).take 40 = List.replicate 40 0)
          ∧ ((countersAnswer s).getD 48 0).getLsbD 7 = true)
      ∧ (s.phase ≠ .held → s.serviceBusy = true →
        ∀ c ∈ [Instr.readPage n, .readHead n load dress, .readPool n, .readPeer n, .readCounters],
          answers c [statusBusy]))

/-- The data of READ_HEAD, READ_POOL, READ_PEER and READ_COUNTERS, byte by byte (R202, 12.7, 13.2, 13.3, 13.5, 13.6), in run
mode with no command in progress and no commit in flight.

The model's choice (notes/assumptions/26.md): the other bytes of an absent record read 0x00. -/
def Obligations.AnswersFollowLayouts : Prop :=
  ∀ s : State, s.phase = .live → s.serviceBusy = false → s.commitInFlight = false →
    let bit : Bool → BitVec 1 := BitVec.ofBool
    let flag : Bool → Byte := fun b => if b then 1 else 0
    let answers : Instr → List Byte → Prop := fun c data =>
      ∃ t, exec c s = .next t ∧ t.service.answer = 0x01 :: data
    let refusal : Option LastRefusal → List Byte := fun r =>
      match r with
      | none => List.replicate 10 0
      | some r => [r.kind.number.setWidth 8] ++ be32 r.serial ++
          [match r.reason with
            | .role => 1
            | .badField => 2
            | .unknownWheel => 3
            | .wrongState => 4
            | .notHolder => 5
            | .tableFull => 6
            | .duplicate => 7
            | .slotTaken => 8
            | .headBusy => 9
            | .noSister => 10] ++ be32 r.stamp
    let record : Option HeadRecord → List Byte := fun r =>
      match r with
      | none => List.replicate 18 0
      | some r => be32 r.serial ++ [r.family.setWidth 8] ++ be24 r.diameter ++ be16 r.dressCount ++ be32 r.partsCount ++
          (match r.condition with
            | .serving => [1, 0]
            | .wornSoon => [2, 0]
            | .lastParts => [3, 0]
            | .spent => [4, 0]
            | .hold .missing => [5, 1]
            | .hold .overlong => [5, 2]
            | .hold .conflict => [5, 3]
            | .broken => [6, 0]) ++
          (match r.partsLeft with
            | none => [0, 0]
            | some n => [1, n])
    let entry : Entry → List Byte := fun e =>
      be32 e.serial
        ++ [e.family ++ (match e.state with
              | .free => 0#3
              | .claimed => 1
              | .transit => 2
              | .delivered => 3
              | .mounted => 4
              | .returning => 5
              | .quarantined => 6) ++ bit e.spent]
        ++ [match e.holder with
            | none => 0
            | some x => 1#1 ++ bit x.atChange ++ bit (x.head == .h1) ++ x.station]
        ++ be24 e.diameter ++ [match e.slot with
            | none => 255
            | some n => n.setWidth 8]
    let place : Place → Byte := fun p =>
      match p with
      | .slot n => n.setWidth 8
      | .chute => 48
      | .inspection => 49
      | .change st h => BitVec.ofNat 8 (2 * (st.toNat - 1) + if h = .h1 then 1 else 0)
    let job : Job → List Byte := fun j =>
      [match j.kind with
        | .fetch => 1
        | .ret => 2] ++ be32 j.serial ++ [place j.source, (j.dest.map place).getD 255]
    let sync : Byte := match s.pool.sync with
      | .unsynced => 0
      | .joining => 1
      | .synced => 2
    (∀ h load dress, s.isStore = false → answers (.readHead (headByte h) load dress)
      (record (s.head h).record ++ [0#5 ++ bit dress ++ bit load ++ bit (s.headLevels h).contact,
          match (s.head h).report with
          | .none => 0
          | .due => 1
          | .outstanding => 2,
          match (s.swap h).state with
          | .idle => 0
          | .claiming => 1
          | .backoff => 2
          | .await => 3
          | .delivered => 4
          | .confirming => 5
          | .mounting => 6
          | .failed => 7]
        ++ be32 ((s.swap h).held.getD 0) ++ [BitVec.ofNat 8 (s.swap h).attempts] ++ refusal (s.pool.headRefusal.get h)))
    ∧ (∀ n : Byte, n.toNat < 64 →
      ((∀ e ∈ s.pool.table, e.pos ≠ n.toNat) →
        answers (.readPool n) ([sync] ++ be16 s.pool.generation ++ List.replicate 10 0))
      ∧ ∀ e ∈ s.pool.table, e.pos = n.toNat → (∀ x ∈ s.pool.table, x.pos = n.toNat → x = e) →
        answers (.readPool n) ([sync] ++ be16 s.pool.generation ++ entry e))
    ∧ (∀ n : Byte, n.toNat < 16 →
      ((∀ r ∈ s.peers.records, r.pos ≠ n.toNat) → answers (.readPeer n) (List.replicate 21 0))
      ∧ ∀ r ∈ s.peers.records, ∀ order : Byte, r.pos = n.toNat → (∀ x ∈ s.peers.records, x.pos = n.toNat → x = r) →
        (r.station ∉ s.peers.silentOrder ∧ order = 0)
          ∨ (∃ l k, s.peers.silentOrder = l ++ r.station :: k ∧ r.station ∉ l ∧ order = BitVec.ofNat 8 (l.length + 1)) →
        answers (.readPeer n) ([1, r.station.setWidth 8, flag (r.role == .store), flag r.silent, order]
          ++ be32 r.lastHeard ++ (match r.roll with
            | none => List.replicate 12 0
            | some v => [1, flag v.synced, flag v.doubtful] ++ be16 v.generation ++ be16 v.digest
                ++ be16 v.familyDigest ++ [v.condition0, v.condition1, flag v.latched])))
    ∧ answers .readCounters
      ([s.counters.noise, s.counters.framing, s.counters.disturbance, s.counters.syncFault, s.counters.unknownKind,
          s.counters.checkErrors, s.counters.vetoesSent, s.counters.vetoesSeen, s.counters.arbLosses, s.counters.txFail,
          s.counters.unlearned, s.counters.familyDiff, s.counters.refusals, s.counters.tagErrors,
          s.counters.tagsIgnored, s.counters.cyclesRefused, s.counters.strokesIgnored, s.counters.overdress,
          s.counters.verdictsAfterFirst, s.counters.badPages].flatMap be16
        ++ [bit s.isStore ++ 0#7, s.station.setWidth 8, s.code.setWidth 8, sync]
        ++ be16 s.pool.generation ++ be16 s.pool.digest
        ++ [0#1 ++ bit s.stop.latch ++ bit s.peers.roleClash ++ bit s.peers.familyMismatch ++ bit s.life.fault
            ++ bit s.lineFault ++ bit s.fe.deaf ++ bit s.fe.doubtful]
        ++ (match s.stop.event with
            | none => List.replicate 5 0
            | some e => be32 e.stamp ++ [(e.sender.map fun st => st.setWidth 8).getD 255])
        ++ (match s.peers.disagreement with
            | none => List.replicate 5 0
            | some d => [d.station.setWidth 8] ++ be32 d.stamp)
        ++ (if s.isStore = false then [] else
            [BitVec.ofNat 8 s.store.queue.length] ++ s.store.queue.flatMap job
              ++ List.replicate (7 * (16 - s.store.queue.length)) 0
              ++ (match s.store.job with
                  | none => List.replicate 8 0
                  | some j => [match j.phase with
                      | .starting => 1
                      | .armed => 2
                      | .moving => 3
                      | .closing => 4] ++ job j.job)
              ++ [(s.store.reservation.map fun n => n.setWidth 8).getD 255, flag s.store.faultLatch]
              ++ refusal s.pool.storeRefusal))

/-- UNDEFINED_COMMAND and TRANSACTION_END (R201): a command byte without a meaning is REFUSED, or BUSY while a command is
still being carried out, with no effect; the end of a transaction gives up the answer, and that of a command still being
carried out is lost. A part held in reset answers nothing.

The model's reading (notes/assumptions/36.md): a part held in reset answers
nothing. -/
def Obligations.TransactionsEndAndRefuse : Prop :=
  ∀ (c : Byte) (s : State),
    (s.phase ≠ .held → s.serviceBusy = false → ∃ t, exec (.undefinedCommand c) s = .next t ∧ serviceFrame s t
      ∧ t.service.answer = [statusRefused])
    ∧ (s.phase ≠ .held → s.serviceBusy = true → ∃ t, exec (.undefinedCommand c) s = .next t ∧ serviceFrame s t
      ∧ t.service.answer = [statusBusy])
    ∧ (s.phase = .held → exec (.undefinedCommand c) s = .next s)
    ∧ ∃ t, exec .transactionEnd s = .next t ∧ serviceFrame s t ∧ t.service.selected = false ∧ t.service.answer = []
      ∧ t.service.waiting = s.service.waiting
      ∧ t.service.answerLost = (s.service.answerLost || (s.serviceBusy && s.service.selected))

/-! ## What every step keeps -/

/-- Every step keeps the pages in their canonical form and the engine's page inside the life store (R181). -/
def Obligations.StepKeepsPagesSound : Prop :=
  ∀ s t : State, s.pagesSound → step s = .next t → t.pagesSound

/-- Every step keeps the transmit queue within 6 frames, with the admissions it still owes (R31, R32), and the receive queue
within 4 items (R34).

Every step leaves the digest the one of the table (R66). -/
def Obligations.StepKeepsQueuesAndDigest : Prop :=
  (∀ s t : State, s.queuesBounded → step s = .next t → t.queuesBounded)
  ∧ (∀ s t : State, s.digestTrue → step s = .next t → t.digestTrue)
end

