-- ==== Sys2Proof/Laws/State.lean ====
section
/-! SUPPORT. One lemma for each field of `State` and each one-block update of Machine/Ops.lean: what the update leaves
unchanged and what it makes of its own block. Each holds by `rfl`; no later proof unfolds a record update. -/
namespace Sys2Proof.Machine.State

/-! ## mapLine -/

section
variable (f : LineInterface → LineInterface) (s : State)

@[simp] theorem mapLine_pending : (s.mapLine f).pending = s.pending := rfl
@[simp] theorem mapLine_timeBase : (s.mapLine f).timeBase = s.timeBase := rfl
@[simp] theorem mapLine_phase : (s.mapLine f).phase = s.phase := rfl
@[simp] theorem mapLine_straps : (s.mapLine f).straps = s.straps := rfl
@[simp] theorem mapLine_configBad : (s.mapLine f).configBad = s.configBad := rfl
@[simp] theorem mapLine_constants : (s.mapLine f).constants = s.constants := rfl
@[simp] theorem mapLine_families : (s.mapLine f).families = s.families := rfl
@[simp] theorem mapLine_familyDigest : (s.mapLine f).familyDigest = s.familyDigest := rfl
@[simp] theorem mapLine_lineFault : (s.mapLine f).lineFault = s.lineFault := rfl
@[simp] theorem mapLine_line : (s.mapLine f).line = f s.line := rfl
@[simp] theorem mapLine_transmitter : (s.mapLine f).transmitter = s.transmitter := rfl
@[simp] theorem mapLine_fe : (s.mapLine f).fe = s.fe := rfl
@[simp] theorem mapLine_stop : (s.mapLine f).stop = s.stop := rfl
@[simp] theorem mapLine_peers : (s.mapLine f).peers = s.peers := rfl
@[simp] theorem mapLine_pool : (s.mapLine f).pool = s.pool := rfl
@[simp] theorem mapLine_image : (s.mapLine f).image = s.image := rfl
@[simp] theorem mapLine_heads : (s.mapLine f).heads = s.heads := rfl
@[simp] theorem mapLine_swaps : (s.mapLine f).swaps = s.swaps := rfl
@[simp] theorem mapLine_store : (s.mapLine f).store = s.store := rfl
@[simp] theorem mapLine_tag : (s.mapLine f).tag = s.tag := rfl
@[simp] theorem mapLine_life : (s.mapLine f).life = s.life := rfl
@[simp] theorem mapLine_service : (s.mapLine f).service = s.service := rfl
@[simp] theorem mapLine_levels : (s.mapLine f).levels = s.levels := rfl
@[simp] theorem mapLine_counters : (s.mapLine f).counters = s.counters := rfl
@[simp] theorem mapLine_freeCounter : (s.mapLine f).freeCounter = s.freeCounter := rfl
@[simp] theorem mapLine_now : (s.mapLine f).now = s.now := rfl
@[simp] theorem mapLine_isStore : (s.mapLine f).isStore = s.isStore := rfl
@[simp] theorem mapLine_role : (s.mapLine f).role = s.role := rfl
@[simp] theorem mapLine_station : (s.mapLine f).station = s.station := rfl
@[simp] theorem mapLine_rollInterval : (s.mapLine f).rollInterval = s.rollInterval := rfl
@[simp] theorem mapLine_claimLifetime : (s.mapLine f).claimLifetime = s.claimLifetime := rfl
@[simp] theorem mapLine_confirmWindow : (s.mapLine f).confirmWindow = s.confirmWindow := rfl
@[simp] theorem mapLine_synced : (s.mapLine f).synced = s.synced := rfl
@[simp] theorem mapLine_isLive : (s.mapLine f).isLive = s.isLive := rfl
@[simp] theorem mapLine_headsLive : (s.mapLine f).headsLive = s.headsLive := rfl
@[simp] theorem mapLine_storeLive : (s.mapLine f).storeLive = s.storeLive := rfl
@[simp] theorem mapLine_head (h : Head) : (s.mapLine f).head h = s.head h := rfl
@[simp] theorem mapLine_swap (h : Head) : (s.mapLine f).swap h = s.swap h := rfl
@[simp] theorem mapLine_condition (h : Head) : (s.mapLine f).condition h = s.condition h := rfl

end

/-! ## mapFe -/

section
variable (f : FrameEngine → FrameEngine) (s : State)

@[simp] theorem mapFe_pending : (s.mapFe f).pending = s.pending := rfl
@[simp] theorem mapFe_timeBase : (s.mapFe f).timeBase = s.timeBase := rfl
@[simp] theorem mapFe_phase : (s.mapFe f).phase = s.phase := rfl
@[simp] theorem mapFe_straps : (s.mapFe f).straps = s.straps := rfl
@[simp] theorem mapFe_configBad : (s.mapFe f).configBad = s.configBad := rfl
@[simp] theorem mapFe_constants : (s.mapFe f).constants = s.constants := rfl
@[simp] theorem mapFe_families : (s.mapFe f).families = s.families := rfl
@[simp] theorem mapFe_familyDigest : (s.mapFe f).familyDigest = s.familyDigest := rfl
@[simp] theorem mapFe_lineFault : (s.mapFe f).lineFault = s.lineFault := rfl
@[simp] theorem mapFe_line : (s.mapFe f).line = s.line := rfl
@[simp] theorem mapFe_transmitter : (s.mapFe f).transmitter = s.transmitter := rfl
@[simp] theorem mapFe_fe : (s.mapFe f).fe = f s.fe := rfl
@[simp] theorem mapFe_stop : (s.mapFe f).stop = s.stop := rfl
@[simp] theorem mapFe_peers : (s.mapFe f).peers = s.peers := rfl
@[simp] theorem mapFe_pool : (s.mapFe f).pool = s.pool := rfl
@[simp] theorem mapFe_image : (s.mapFe f).image = s.image := rfl
@[simp] theorem mapFe_heads : (s.mapFe f).heads = s.heads := rfl
@[simp] theorem mapFe_swaps : (s.mapFe f).swaps = s.swaps := rfl
@[simp] theorem mapFe_store : (s.mapFe f).store = s.store := rfl
@[simp] theorem mapFe_tag : (s.mapFe f).tag = s.tag := rfl
@[simp] theorem mapFe_life : (s.mapFe f).life = s.life := rfl
@[simp] theorem mapFe_service : (s.mapFe f).service = s.service := rfl
@[simp] theorem mapFe_levels : (s.mapFe f).levels = s.levels := rfl
@[simp] theorem mapFe_counters : (s.mapFe f).counters = s.counters := rfl
@[simp] theorem mapFe_freeCounter : (s.mapFe f).freeCounter = s.freeCounter := rfl
@[simp] theorem mapFe_now : (s.mapFe f).now = s.now := rfl
@[simp] theorem mapFe_isStore : (s.mapFe f).isStore = s.isStore := rfl
@[simp] theorem mapFe_role : (s.mapFe f).role = s.role := rfl
@[simp] theorem mapFe_station : (s.mapFe f).station = s.station := rfl
@[simp] theorem mapFe_rollInterval : (s.mapFe f).rollInterval = s.rollInterval := rfl
@[simp] theorem mapFe_claimLifetime : (s.mapFe f).claimLifetime = s.claimLifetime := rfl
@[simp] theorem mapFe_confirmWindow : (s.mapFe f).confirmWindow = s.confirmWindow := rfl
@[simp] theorem mapFe_synced : (s.mapFe f).synced = s.synced := rfl
@[simp] theorem mapFe_isLive : (s.mapFe f).isLive = s.isLive := rfl
@[simp] theorem mapFe_headsLive : (s.mapFe f).headsLive = s.headsLive := rfl
@[simp] theorem mapFe_storeLive : (s.mapFe f).storeLive = s.storeLive := rfl
@[simp] theorem mapFe_head (h : Head) : (s.mapFe f).head h = s.head h := rfl
@[simp] theorem mapFe_swap (h : Head) : (s.mapFe f).swap h = s.swap h := rfl
@[simp] theorem mapFe_condition (h : Head) : (s.mapFe f).condition h = s.condition h := rfl

end

/-! ## mapStop -/

section
variable (f : StopUnit → StopUnit) (s : State)

@[simp] theorem mapStop_pending : (s.mapStop f).pending = s.pending := rfl
@[simp] theorem mapStop_timeBase : (s.mapStop f).timeBase = s.timeBase := rfl
@[simp] theorem mapStop_phase : (s.mapStop f).phase = s.phase := rfl
@[simp] theorem mapStop_straps : (s.mapStop f).straps = s.straps := rfl
@[simp] theorem mapStop_configBad : (s.mapStop f).configBad = s.configBad := rfl
@[simp] theorem mapStop_constants : (s.mapStop f).constants = s.constants := rfl
@[simp] theorem mapStop_families : (s.mapStop f).families = s.families := rfl
@[simp] theorem mapStop_familyDigest : (s.mapStop f).familyDigest = s.familyDigest := rfl
@[simp] theorem mapStop_lineFault : (s.mapStop f).lineFault = s.lineFault := rfl
@[simp] theorem mapStop_line : (s.mapStop f).line = s.line := rfl
@[simp] theorem mapStop_transmitter : (s.mapStop f).transmitter = s.transmitter := rfl
@[simp] theorem mapStop_fe : (s.mapStop f).fe = s.fe := rfl
@[simp] theorem mapStop_stop : (s.mapStop f).stop = f s.stop := rfl
@[simp] theorem mapStop_peers : (s.mapStop f).peers = s.peers := rfl
@[simp] theorem mapStop_pool : (s.mapStop f).pool = s.pool := rfl
@[simp] theorem mapStop_image : (s.mapStop f).image = s.image := rfl
@[simp] theorem mapStop_heads : (s.mapStop f).heads = s.heads := rfl
@[simp] theorem mapStop_swaps : (s.mapStop f).swaps = s.swaps := rfl
@[simp] theorem mapStop_store : (s.mapStop f).store = s.store := rfl
@[simp] theorem mapStop_tag : (s.mapStop f).tag = s.tag := rfl
@[simp] theorem mapStop_life : (s.mapStop f).life = s.life := rfl
@[simp] theorem mapStop_service : (s.mapStop f).service = s.service := rfl
@[simp] theorem mapStop_levels : (s.mapStop f).levels = s.levels := rfl
@[simp] theorem mapStop_counters : (s.mapStop f).counters = s.counters := rfl
@[simp] theorem mapStop_freeCounter : (s.mapStop f).freeCounter = s.freeCounter := rfl
@[simp] theorem mapStop_now : (s.mapStop f).now = s.now := rfl
@[simp] theorem mapStop_isStore : (s.mapStop f).isStore = s.isStore := rfl
@[simp] theorem mapStop_role : (s.mapStop f).role = s.role := rfl
@[simp] theorem mapStop_station : (s.mapStop f).station = s.station := rfl
@[simp] theorem mapStop_rollInterval : (s.mapStop f).rollInterval = s.rollInterval := rfl
@[simp] theorem mapStop_claimLifetime : (s.mapStop f).claimLifetime = s.claimLifetime := rfl
@[simp] theorem mapStop_confirmWindow : (s.mapStop f).confirmWindow = s.confirmWindow := rfl
@[simp] theorem mapStop_synced : (s.mapStop f).synced = s.synced := rfl
@[simp] theorem mapStop_isLive : (s.mapStop f).isLive = s.isLive := rfl
@[simp] theorem mapStop_headsLive : (s.mapStop f).headsLive = s.headsLive := rfl
@[simp] theorem mapStop_storeLive : (s.mapStop f).storeLive = s.storeLive := rfl
@[simp] theorem mapStop_head (h : Head) : (s.mapStop f).head h = s.head h := rfl
@[simp] theorem mapStop_swap (h : Head) : (s.mapStop f).swap h = s.swap h := rfl
@[simp] theorem mapStop_condition (h : Head) : (s.mapStop f).condition h = s.condition h := rfl

end

/-! ## mapPeers -/

section
variable (f : PeerTable → PeerTable) (s : State)

@[simp] theorem mapPeers_pending : (s.mapPeers f).pending = s.pending := rfl
@[simp] theorem mapPeers_timeBase : (s.mapPeers f).timeBase = s.timeBase := rfl
@[simp] theorem mapPeers_phase : (s.mapPeers f).phase = s.phase := rfl
@[simp] theorem mapPeers_straps : (s.mapPeers f).straps = s.straps := rfl
@[simp] theorem mapPeers_configBad : (s.mapPeers f).configBad = s.configBad := rfl
@[simp] theorem mapPeers_constants : (s.mapPeers f).constants = s.constants := rfl
@[simp] theorem mapPeers_families : (s.mapPeers f).families = s.families := rfl
@[simp] theorem mapPeers_familyDigest : (s.mapPeers f).familyDigest = s.familyDigest := rfl
@[simp] theorem mapPeers_lineFault : (s.mapPeers f).lineFault = s.lineFault := rfl
@[simp] theorem mapPeers_line : (s.mapPeers f).line = s.line := rfl
@[simp] theorem mapPeers_transmitter : (s.mapPeers f).transmitter = s.transmitter := rfl
@[simp] theorem mapPeers_fe : (s.mapPeers f).fe = s.fe := rfl
@[simp] theorem mapPeers_stop : (s.mapPeers f).stop = s.stop := rfl
@[simp] theorem mapPeers_peers : (s.mapPeers f).peers = f s.peers := rfl
@[simp] theorem mapPeers_pool : (s.mapPeers f).pool = s.pool := rfl
@[simp] theorem mapPeers_image : (s.mapPeers f).image = s.image := rfl
@[simp] theorem mapPeers_heads : (s.mapPeers f).heads = s.heads := rfl
@[simp] theorem mapPeers_swaps : (s.mapPeers f).swaps = s.swaps := rfl
@[simp] theorem mapPeers_store : (s.mapPeers f).store = s.store := rfl
@[simp] theorem mapPeers_tag : (s.mapPeers f).tag = s.tag := rfl
@[simp] theorem mapPeers_life : (s.mapPeers f).life = s.life := rfl
@[simp] theorem mapPeers_service : (s.mapPeers f).service = s.service := rfl
@[simp] theorem mapPeers_levels : (s.mapPeers f).levels = s.levels := rfl
@[simp] theorem mapPeers_counters : (s.mapPeers f).counters = s.counters := rfl
@[simp] theorem mapPeers_freeCounter : (s.mapPeers f).freeCounter = s.freeCounter := rfl
@[simp] theorem mapPeers_now : (s.mapPeers f).now = s.now := rfl
@[simp] theorem mapPeers_isStore : (s.mapPeers f).isStore = s.isStore := rfl
@[simp] theorem mapPeers_role : (s.mapPeers f).role = s.role := rfl
@[simp] theorem mapPeers_station : (s.mapPeers f).station = s.station := rfl
@[simp] theorem mapPeers_rollInterval : (s.mapPeers f).rollInterval = s.rollInterval := rfl
@[simp] theorem mapPeers_claimLifetime : (s.mapPeers f).claimLifetime = s.claimLifetime := rfl
@[simp] theorem mapPeers_confirmWindow : (s.mapPeers f).confirmWindow = s.confirmWindow := rfl
@[simp] theorem mapPeers_synced : (s.mapPeers f).synced = s.synced := rfl
@[simp] theorem mapPeers_isLive : (s.mapPeers f).isLive = s.isLive := rfl
@[simp] theorem mapPeers_headsLive : (s.mapPeers f).headsLive = s.headsLive := rfl
@[simp] theorem mapPeers_storeLive : (s.mapPeers f).storeLive = s.storeLive := rfl
@[simp] theorem mapPeers_head (h : Head) : (s.mapPeers f).head h = s.head h := rfl
@[simp] theorem mapPeers_swap (h : Head) : (s.mapPeers f).swap h = s.swap h := rfl
@[simp] theorem mapPeers_condition (h : Head) : (s.mapPeers f).condition h = s.condition h := rfl

end

/-! ## mapPool -/

section
variable (f : PoolEngine → PoolEngine) (s : State)

@[simp] theorem mapPool_pending : (s.mapPool f).pending = s.pending := rfl
@[simp] theorem mapPool_timeBase : (s.mapPool f).timeBase = s.timeBase := rfl
@[simp] theorem mapPool_phase : (s.mapPool f).phase = s.phase := rfl
@[simp] theorem mapPool_straps : (s.mapPool f).straps = s.straps := rfl
@[simp] theorem mapPool_configBad : (s.mapPool f).configBad = s.configBad := rfl
@[simp] theorem mapPool_constants : (s.mapPool f).constants = s.constants := rfl
@[simp] theorem mapPool_families : (s.mapPool f).families = s.families := rfl
@[simp] theorem mapPool_familyDigest : (s.mapPool f).familyDigest = s.familyDigest := rfl
@[simp] theorem mapPool_lineFault : (s.mapPool f).lineFault = s.lineFault := rfl
@[simp] theorem mapPool_line : (s.mapPool f).line = s.line := rfl
@[simp] theorem mapPool_transmitter : (s.mapPool f).transmitter = s.transmitter := rfl
@[simp] theorem mapPool_fe : (s.mapPool f).fe = s.fe := rfl
@[simp] theorem mapPool_stop : (s.mapPool f).stop = s.stop := rfl
@[simp] theorem mapPool_peers : (s.mapPool f).peers = s.peers := rfl
@[simp] theorem mapPool_pool : (s.mapPool f).pool = f s.pool := rfl
@[simp] theorem mapPool_image : (s.mapPool f).image = s.image := rfl
@[simp] theorem mapPool_heads : (s.mapPool f).heads = s.heads := rfl
@[simp] theorem mapPool_swaps : (s.mapPool f).swaps = s.swaps := rfl
@[simp] theorem mapPool_store : (s.mapPool f).store = s.store := rfl
@[simp] theorem mapPool_tag : (s.mapPool f).tag = s.tag := rfl
@[simp] theorem mapPool_life : (s.mapPool f).life = s.life := rfl
@[simp] theorem mapPool_service : (s.mapPool f).service = s.service := rfl
@[simp] theorem mapPool_levels : (s.mapPool f).levels = s.levels := rfl
@[simp] theorem mapPool_counters : (s.mapPool f).counters = s.counters := rfl
@[simp] theorem mapPool_freeCounter : (s.mapPool f).freeCounter = s.freeCounter := rfl
@[simp] theorem mapPool_now : (s.mapPool f).now = s.now := rfl
@[simp] theorem mapPool_isStore : (s.mapPool f).isStore = s.isStore := rfl
@[simp] theorem mapPool_role : (s.mapPool f).role = s.role := rfl
@[simp] theorem mapPool_station : (s.mapPool f).station = s.station := rfl
@[simp] theorem mapPool_rollInterval : (s.mapPool f).rollInterval = s.rollInterval := rfl
@[simp] theorem mapPool_claimLifetime : (s.mapPool f).claimLifetime = s.claimLifetime := rfl
@[simp] theorem mapPool_confirmWindow : (s.mapPool f).confirmWindow = s.confirmWindow := rfl
@[simp] theorem mapPool_isLive : (s.mapPool f).isLive = s.isLive := rfl
@[simp] theorem mapPool_headsLive : (s.mapPool f).headsLive = s.headsLive := rfl
@[simp] theorem mapPool_storeLive : (s.mapPool f).storeLive = s.storeLive := rfl
@[simp] theorem mapPool_head (h : Head) : (s.mapPool f).head h = s.head h := rfl
@[simp] theorem mapPool_swap (h : Head) : (s.mapPool f).swap h = s.swap h := rfl
@[simp] theorem mapPool_condition (h : Head) : (s.mapPool f).condition h = s.condition h := rfl

end

/-! ## mapImage -/

section
variable (f : ImageUnit → ImageUnit) (s : State)

@[simp] theorem mapImage_pending : (s.mapImage f).pending = s.pending := rfl
@[simp] theorem mapImage_timeBase : (s.mapImage f).timeBase = s.timeBase := rfl
@[simp] theorem mapImage_phase : (s.mapImage f).phase = s.phase := rfl
@[simp] theorem mapImage_straps : (s.mapImage f).straps = s.straps := rfl
@[simp] theorem mapImage_configBad : (s.mapImage f).configBad = s.configBad := rfl
@[simp] theorem mapImage_constants : (s.mapImage f).constants = s.constants := rfl
@[simp] theorem mapImage_families : (s.mapImage f).families = s.families := rfl
@[simp] theorem mapImage_familyDigest : (s.mapImage f).familyDigest = s.familyDigest := rfl
@[simp] theorem mapImage_lineFault : (s.mapImage f).lineFault = s.lineFault := rfl
@[simp] theorem mapImage_line : (s.mapImage f).line = s.line := rfl
@[simp] theorem mapImage_transmitter : (s.mapImage f).transmitter = s.transmitter := rfl
@[simp] theorem mapImage_fe : (s.mapImage f).fe = s.fe := rfl
@[simp] theorem mapImage_stop : (s.mapImage f).stop = s.stop := rfl
@[simp] theorem mapImage_peers : (s.mapImage f).peers = s.peers := rfl
@[simp] theorem mapImage_pool : (s.mapImage f).pool = s.pool := rfl
@[simp] theorem mapImage_image : (s.mapImage f).image = f s.image := rfl
@[simp] theorem mapImage_heads : (s.mapImage f).heads = s.heads := rfl
@[simp] theorem mapImage_swaps : (s.mapImage f).swaps = s.swaps := rfl
@[simp] theorem mapImage_store : (s.mapImage f).store = s.store := rfl
@[simp] theorem mapImage_tag : (s.mapImage f).tag = s.tag := rfl
@[simp] theorem mapImage_life : (s.mapImage f).life = s.life := rfl
@[simp] theorem mapImage_service : (s.mapImage f).service = s.service := rfl
@[simp] theorem mapImage_levels : (s.mapImage f).levels = s.levels := rfl
@[simp] theorem mapImage_counters : (s.mapImage f).counters = s.counters := rfl
@[simp] theorem mapImage_freeCounter : (s.mapImage f).freeCounter = s.freeCounter := rfl
@[simp] theorem mapImage_now : (s.mapImage f).now = s.now := rfl
@[simp] theorem mapImage_isStore : (s.mapImage f).isStore = s.isStore := rfl
@[simp] theorem mapImage_role : (s.mapImage f).role = s.role := rfl
@[simp] theorem mapImage_station : (s.mapImage f).station = s.station := rfl
@[simp] theorem mapImage_rollInterval : (s.mapImage f).rollInterval = s.rollInterval := rfl
@[simp] theorem mapImage_claimLifetime : (s.mapImage f).claimLifetime = s.claimLifetime := rfl
@[simp] theorem mapImage_confirmWindow : (s.mapImage f).confirmWindow = s.confirmWindow := rfl
@[simp] theorem mapImage_synced : (s.mapImage f).synced = s.synced := rfl
@[simp] theorem mapImage_isLive : (s.mapImage f).isLive = s.isLive := rfl
@[simp] theorem mapImage_headsLive : (s.mapImage f).headsLive = s.headsLive := rfl
@[simp] theorem mapImage_storeLive : (s.mapImage f).storeLive = s.storeLive := rfl
@[simp] theorem mapImage_head (h : Head) : (s.mapImage f).head h = s.head h := rfl
@[simp] theorem mapImage_swap (h : Head) : (s.mapImage f).swap h = s.swap h := rfl
@[simp] theorem mapImage_condition (h : Head) : (s.mapImage f).condition h = s.condition h := rfl

end

/-! ## mapStore -/

section
variable (f : StoreUnit → StoreUnit) (s : State)

@[simp] theorem mapStore_pending : (s.mapStore f).pending = s.pending := rfl
@[simp] theorem mapStore_timeBase : (s.mapStore f).timeBase = s.timeBase := rfl
@[simp] theorem mapStore_phase : (s.mapStore f).phase = s.phase := rfl
@[simp] theorem mapStore_straps : (s.mapStore f).straps = s.straps := rfl
@[simp] theorem mapStore_configBad : (s.mapStore f).configBad = s.configBad := rfl
@[simp] theorem mapStore_constants : (s.mapStore f).constants = s.constants := rfl
@[simp] theorem mapStore_families : (s.mapStore f).families = s.families := rfl
@[simp] theorem mapStore_familyDigest : (s.mapStore f).familyDigest = s.familyDigest := rfl
@[simp] theorem mapStore_lineFault : (s.mapStore f).lineFault = s.lineFault := rfl
@[simp] theorem mapStore_line : (s.mapStore f).line = s.line := rfl
@[simp] theorem mapStore_transmitter : (s.mapStore f).transmitter = s.transmitter := rfl
@[simp] theorem mapStore_fe : (s.mapStore f).fe = s.fe := rfl
@[simp] theorem mapStore_stop : (s.mapStore f).stop = s.stop := rfl
@[simp] theorem mapStore_peers : (s.mapStore f).peers = s.peers := rfl
@[simp] theorem mapStore_pool : (s.mapStore f).pool = s.pool := rfl
@[simp] theorem mapStore_image : (s.mapStore f).image = s.image := rfl
@[simp] theorem mapStore_heads : (s.mapStore f).heads = s.heads := rfl
@[simp] theorem mapStore_swaps : (s.mapStore f).swaps = s.swaps := rfl
@[simp] theorem mapStore_store : (s.mapStore f).store = f s.store := rfl
@[simp] theorem mapStore_tag : (s.mapStore f).tag = s.tag := rfl
@[simp] theorem mapStore_life : (s.mapStore f).life = s.life := rfl
@[simp] theorem mapStore_service : (s.mapStore f).service = s.service := rfl
@[simp] theorem mapStore_levels : (s.mapStore f).levels = s.levels := rfl
@[simp] theorem mapStore_counters : (s.mapStore f).counters = s.counters := rfl
@[simp] theorem mapStore_freeCounter : (s.mapStore f).freeCounter = s.freeCounter := rfl
@[simp] theorem mapStore_now : (s.mapStore f).now = s.now := rfl
@[simp] theorem mapStore_isStore : (s.mapStore f).isStore = s.isStore := rfl
@[simp] theorem mapStore_role : (s.mapStore f).role = s.role := rfl
@[simp] theorem mapStore_station : (s.mapStore f).station = s.station := rfl
@[simp] theorem mapStore_rollInterval : (s.mapStore f).rollInterval = s.rollInterval := rfl
@[simp] theorem mapStore_claimLifetime : (s.mapStore f).claimLifetime = s.claimLifetime := rfl
@[simp] theorem mapStore_confirmWindow : (s.mapStore f).confirmWindow = s.confirmWindow := rfl
@[simp] theorem mapStore_synced : (s.mapStore f).synced = s.synced := rfl
@[simp] theorem mapStore_isLive : (s.mapStore f).isLive = s.isLive := rfl
@[simp] theorem mapStore_headsLive : (s.mapStore f).headsLive = s.headsLive := rfl
@[simp] theorem mapStore_storeLive : (s.mapStore f).storeLive = s.storeLive := rfl
@[simp] theorem mapStore_head (h : Head) : (s.mapStore f).head h = s.head h := rfl
@[simp] theorem mapStore_swap (h : Head) : (s.mapStore f).swap h = s.swap h := rfl
@[simp] theorem mapStore_condition (h : Head) : (s.mapStore f).condition h = s.condition h := rfl

end

/-! ## mapLife -/

section
variable (f : LifeStore → LifeStore) (s : State)

@[simp] theorem mapLife_pending : (s.mapLife f).pending = s.pending := rfl
@[simp] theorem mapLife_timeBase : (s.mapLife f).timeBase = s.timeBase := rfl
@[simp] theorem mapLife_phase : (s.mapLife f).phase = s.phase := rfl
@[simp] theorem mapLife_straps : (s.mapLife f).straps = s.straps := rfl
@[simp] theorem mapLife_configBad : (s.mapLife f).configBad = s.configBad := rfl
@[simp] theorem mapLife_constants : (s.mapLife f).constants = s.constants := rfl
@[simp] theorem mapLife_families : (s.mapLife f).families = s.families := rfl
@[simp] theorem mapLife_familyDigest : (s.mapLife f).familyDigest = s.familyDigest := rfl
@[simp] theorem mapLife_lineFault : (s.mapLife f).lineFault = s.lineFault := rfl
@[simp] theorem mapLife_line : (s.mapLife f).line = s.line := rfl
@[simp] theorem mapLife_transmitter : (s.mapLife f).transmitter = s.transmitter := rfl
@[simp] theorem mapLife_fe : (s.mapLife f).fe = s.fe := rfl
@[simp] theorem mapLife_stop : (s.mapLife f).stop = s.stop := rfl
@[simp] theorem mapLife_peers : (s.mapLife f).peers = s.peers := rfl
@[simp] theorem mapLife_pool : (s.mapLife f).pool = s.pool := rfl
@[simp] theorem mapLife_image : (s.mapLife f).image = s.image := rfl
@[simp] theorem mapLife_heads : (s.mapLife f).heads = s.heads := rfl
@[simp] theorem mapLife_swaps : (s.mapLife f).swaps = s.swaps := rfl
@[simp] theorem mapLife_store : (s.mapLife f).store = s.store := rfl
@[simp] theorem mapLife_tag : (s.mapLife f).tag = s.tag := rfl
@[simp] theorem mapLife_life : (s.mapLife f).life = f s.life := rfl
@[simp] theorem mapLife_service : (s.mapLife f).service = s.service := rfl
@[simp] theorem mapLife_levels : (s.mapLife f).levels = s.levels := rfl
@[simp] theorem mapLife_counters : (s.mapLife f).counters = s.counters := rfl
@[simp] theorem mapLife_freeCounter : (s.mapLife f).freeCounter = s.freeCounter := rfl
@[simp] theorem mapLife_now : (s.mapLife f).now = s.now := rfl
@[simp] theorem mapLife_isStore : (s.mapLife f).isStore = s.isStore := rfl
@[simp] theorem mapLife_role : (s.mapLife f).role = s.role := rfl
@[simp] theorem mapLife_station : (s.mapLife f).station = s.station := rfl
@[simp] theorem mapLife_rollInterval : (s.mapLife f).rollInterval = s.rollInterval := rfl
@[simp] theorem mapLife_claimLifetime : (s.mapLife f).claimLifetime = s.claimLifetime := rfl
@[simp] theorem mapLife_confirmWindow : (s.mapLife f).confirmWindow = s.confirmWindow := rfl
@[simp] theorem mapLife_synced : (s.mapLife f).synced = s.synced := rfl
@[simp] theorem mapLife_isLive : (s.mapLife f).isLive = s.isLive := rfl
@[simp] theorem mapLife_headsLive : (s.mapLife f).headsLive = s.headsLive := rfl
@[simp] theorem mapLife_storeLive : (s.mapLife f).storeLive = s.storeLive := rfl
@[simp] theorem mapLife_head (h : Head) : (s.mapLife f).head h = s.head h := rfl
@[simp] theorem mapLife_swap (h : Head) : (s.mapLife f).swap h = s.swap h := rfl
@[simp] theorem mapLife_condition (h : Head) : (s.mapLife f).condition h = s.condition h := rfl

end

/-! ## mapService -/

section
variable (f : ServicePort → ServicePort) (s : State)

@[simp] theorem mapService_pending : (s.mapService f).pending = s.pending := rfl
@[simp] theorem mapService_timeBase : (s.mapService f).timeBase = s.timeBase := rfl
@[simp] theorem mapService_phase : (s.mapService f).phase = s.phase := rfl
@[simp] theorem mapService_straps : (s.mapService f).straps = s.straps := rfl
@[simp] theorem mapService_configBad : (s.mapService f).configBad = s.configBad := rfl
@[simp] theorem mapService_constants : (s.mapService f).constants = s.constants := rfl
@[simp] theorem mapService_families : (s.mapService f).families = s.families := rfl
@[simp] theorem mapService_familyDigest : (s.mapService f).familyDigest = s.familyDigest := rfl
@[simp] theorem mapService_lineFault : (s.mapService f).lineFault = s.lineFault := rfl
@[simp] theorem mapService_line : (s.mapService f).line = s.line := rfl
@[simp] theorem mapService_transmitter : (s.mapService f).transmitter = s.transmitter := rfl
@[simp] theorem mapService_fe : (s.mapService f).fe = s.fe := rfl
@[simp] theorem mapService_stop : (s.mapService f).stop = s.stop := rfl
@[simp] theorem mapService_peers : (s.mapService f).peers = s.peers := rfl
@[simp] theorem mapService_pool : (s.mapService f).pool = s.pool := rfl
@[simp] theorem mapService_image : (s.mapService f).image = s.image := rfl
@[simp] theorem mapService_heads : (s.mapService f).heads = s.heads := rfl
@[simp] theorem mapService_swaps : (s.mapService f).swaps = s.swaps := rfl
@[simp] theorem mapService_store : (s.mapService f).store = s.store := rfl
@[simp] theorem mapService_tag : (s.mapService f).tag = s.tag := rfl
@[simp] theorem mapService_life : (s.mapService f).life = s.life := rfl
@[simp] theorem mapService_service : (s.mapService f).service = f s.service := rfl
@[simp] theorem mapService_levels : (s.mapService f).levels = s.levels := rfl
@[simp] theorem mapService_counters : (s.mapService f).counters = s.counters := rfl
@[simp] theorem mapService_freeCounter : (s.mapService f).freeCounter = s.freeCounter := rfl
@[simp] theorem mapService_now : (s.mapService f).now = s.now := rfl
@[simp] theorem mapService_isStore : (s.mapService f).isStore = s.isStore := rfl
@[simp] theorem mapService_role : (s.mapService f).role = s.role := rfl
@[simp] theorem mapService_station : (s.mapService f).station = s.station := rfl
@[simp] theorem mapService_rollInterval : (s.mapService f).rollInterval = s.rollInterval := rfl
@[simp] theorem mapService_claimLifetime : (s.mapService f).claimLifetime = s.claimLifetime := rfl
@[simp] theorem mapService_confirmWindow : (s.mapService f).confirmWindow = s.confirmWindow := rfl
@[simp] theorem mapService_synced : (s.mapService f).synced = s.synced := rfl
@[simp] theorem mapService_isLive : (s.mapService f).isLive = s.isLive := rfl
@[simp] theorem mapService_headsLive : (s.mapService f).headsLive = s.headsLive := rfl
@[simp] theorem mapService_storeLive : (s.mapService f).storeLive = s.storeLive := rfl
@[simp] theorem mapService_head (h : Head) : (s.mapService f).head h = s.head h := rfl
@[simp] theorem mapService_swap (h : Head) : (s.mapService f).swap h = s.swap h := rfl
@[simp] theorem mapService_condition (h : Head) : (s.mapService f).condition h = s.condition h := rfl

end

/-! ## mapTag -/

section
variable (f : TagPort → TagPort) (s : State)

@[simp] theorem mapTag_pending : (s.mapTag f).pending = s.pending := rfl
@[simp] theorem mapTag_timeBase : (s.mapTag f).timeBase = s.timeBase := rfl
@[simp] theorem mapTag_phase : (s.mapTag f).phase = s.phase := rfl
@[simp] theorem mapTag_straps : (s.mapTag f).straps = s.straps := rfl
@[simp] theorem mapTag_configBad : (s.mapTag f).configBad = s.configBad := rfl
@[simp] theorem mapTag_constants : (s.mapTag f).constants = s.constants := rfl
@[simp] theorem mapTag_families : (s.mapTag f).families = s.families := rfl
@[simp] theorem mapTag_familyDigest : (s.mapTag f).familyDigest = s.familyDigest := rfl
@[simp] theorem mapTag_lineFault : (s.mapTag f).lineFault = s.lineFault := rfl
@[simp] theorem mapTag_line : (s.mapTag f).line = s.line := rfl
@[simp] theorem mapTag_transmitter : (s.mapTag f).transmitter = s.transmitter := rfl
@[simp] theorem mapTag_fe : (s.mapTag f).fe = s.fe := rfl
@[simp] theorem mapTag_stop : (s.mapTag f).stop = s.stop := rfl
@[simp] theorem mapTag_peers : (s.mapTag f).peers = s.peers := rfl
@[simp] theorem mapTag_pool : (s.mapTag f).pool = s.pool := rfl
@[simp] theorem mapTag_image : (s.mapTag f).image = s.image := rfl
@[simp] theorem mapTag_heads : (s.mapTag f).heads = s.heads := rfl
@[simp] theorem mapTag_swaps : (s.mapTag f).swaps = s.swaps := rfl
@[simp] theorem mapTag_store : (s.mapTag f).store = s.store := rfl
@[simp] theorem mapTag_tag : (s.mapTag f).tag = f s.tag := rfl
@[simp] theorem mapTag_life : (s.mapTag f).life = s.life := rfl
@[simp] theorem mapTag_service : (s.mapTag f).service = s.service := rfl
@[simp] theorem mapTag_levels : (s.mapTag f).levels = s.levels := rfl
@[simp] theorem mapTag_counters : (s.mapTag f).counters = s.counters := rfl
@[simp] theorem mapTag_freeCounter : (s.mapTag f).freeCounter = s.freeCounter := rfl
@[simp] theorem mapTag_now : (s.mapTag f).now = s.now := rfl
@[simp] theorem mapTag_isStore : (s.mapTag f).isStore = s.isStore := rfl
@[simp] theorem mapTag_role : (s.mapTag f).role = s.role := rfl
@[simp] theorem mapTag_station : (s.mapTag f).station = s.station := rfl
@[simp] theorem mapTag_rollInterval : (s.mapTag f).rollInterval = s.rollInterval := rfl
@[simp] theorem mapTag_claimLifetime : (s.mapTag f).claimLifetime = s.claimLifetime := rfl
@[simp] theorem mapTag_confirmWindow : (s.mapTag f).confirmWindow = s.confirmWindow := rfl
@[simp] theorem mapTag_synced : (s.mapTag f).synced = s.synced := rfl
@[simp] theorem mapTag_isLive : (s.mapTag f).isLive = s.isLive := rfl
@[simp] theorem mapTag_headsLive : (s.mapTag f).headsLive = s.headsLive := rfl
@[simp] theorem mapTag_storeLive : (s.mapTag f).storeLive = s.storeLive := rfl
@[simp] theorem mapTag_head (h : Head) : (s.mapTag f).head h = s.head h := rfl
@[simp] theorem mapTag_swap (h : Head) : (s.mapTag f).swap h = s.swap h := rfl
@[simp] theorem mapTag_condition (h : Head) : (s.mapTag f).condition h = s.condition h := rfl

end

/-! ## count -/

section
variable (f : Counters → Counters) (s : State)

@[simp] theorem count_pending : (s.count f).pending = s.pending := rfl
@[simp] theorem count_timeBase : (s.count f).timeBase = s.timeBase := rfl
@[simp] theorem count_phase : (s.count f).phase = s.phase := rfl
@[simp] theorem count_straps : (s.count f).straps = s.straps := rfl
@[simp] theorem count_configBad : (s.count f).configBad = s.configBad := rfl
@[simp] theorem count_constants : (s.count f).constants = s.constants := rfl
@[simp] theorem count_families : (s.count f).families = s.families := rfl
@[simp] theorem count_familyDigest : (s.count f).familyDigest = s.familyDigest := rfl
@[simp] theorem count_lineFault : (s.count f).lineFault = s.lineFault := rfl
@[simp] theorem count_line : (s.count f).line = s.line := rfl
@[simp] theorem count_transmitter : (s.count f).transmitter = s.transmitter := rfl
@[simp] theorem count_fe : (s.count f).fe = s.fe := rfl
@[simp] theorem count_stop : (s.count f).stop = s.stop := rfl
@[simp] theorem count_peers : (s.count f).peers = s.peers := rfl
@[simp] theorem count_pool : (s.count f).pool = s.pool := rfl
@[simp] theorem count_image : (s.count f).image = s.image := rfl
@[simp] theorem count_heads : (s.count f).heads = s.heads := rfl
@[simp] theorem count_swaps : (s.count f).swaps = s.swaps := rfl
@[simp] theorem count_store : (s.count f).store = s.store := rfl
@[simp] theorem count_tag : (s.count f).tag = s.tag := rfl
@[simp] theorem count_life : (s.count f).life = s.life := rfl
@[simp] theorem count_service : (s.count f).service = s.service := rfl
@[simp] theorem count_levels : (s.count f).levels = s.levels := rfl
@[simp] theorem count_counters : (s.count f).counters = f s.counters := rfl
@[simp] theorem count_freeCounter : (s.count f).freeCounter = s.freeCounter := rfl
@[simp] theorem count_now : (s.count f).now = s.now := rfl
@[simp] theorem count_isStore : (s.count f).isStore = s.isStore := rfl
@[simp] theorem count_role : (s.count f).role = s.role := rfl
@[simp] theorem count_station : (s.count f).station = s.station := rfl
@[simp] theorem count_rollInterval : (s.count f).rollInterval = s.rollInterval := rfl
@[simp] theorem count_claimLifetime : (s.count f).claimLifetime = s.claimLifetime := rfl
@[simp] theorem count_confirmWindow : (s.count f).confirmWindow = s.confirmWindow := rfl
@[simp] theorem count_synced : (s.count f).synced = s.synced := rfl
@[simp] theorem count_isLive : (s.count f).isLive = s.isLive := rfl
@[simp] theorem count_headsLive : (s.count f).headsLive = s.headsLive := rfl
@[simp] theorem count_storeLive : (s.count f).storeLive = s.storeLive := rfl
@[simp] theorem count_head (h : Head) : (s.count f).head h = s.head h := rfl
@[simp] theorem count_swap (h : Head) : (s.count f).swap h = s.swap h := rfl
@[simp] theorem count_condition (h : Head) : (s.count f).condition h = s.condition h := rfl

end

/-! ## mapHead -/

section
variable (h : Head) (f : HeadUnit → HeadUnit) (s : State)

@[simp] theorem mapHead_pending : (s.mapHead h f).pending = s.pending := rfl
@[simp] theorem mapHead_timeBase : (s.mapHead h f).timeBase = s.timeBase := rfl
@[simp] theorem mapHead_phase : (s.mapHead h f).phase = s.phase := rfl
@[simp] theorem mapHead_straps : (s.mapHead h f).straps = s.straps := rfl
@[simp] theorem mapHead_configBad : (s.mapHead h f).configBad = s.configBad := rfl
@[simp] theorem mapHead_constants : (s.mapHead h f).constants = s.constants := rfl
@[simp] theorem mapHead_families : (s.mapHead h f).families = s.families := rfl
@[simp] theorem mapHead_familyDigest : (s.mapHead h f).familyDigest = s.familyDigest := rfl
@[simp] theorem mapHead_lineFault : (s.mapHead h f).lineFault = s.lineFault := rfl
@[simp] theorem mapHead_line : (s.mapHead h f).line = s.line := rfl
@[simp] theorem mapHead_transmitter : (s.mapHead h f).transmitter = s.transmitter := rfl
@[simp] theorem mapHead_fe : (s.mapHead h f).fe = s.fe := rfl
@[simp] theorem mapHead_stop : (s.mapHead h f).stop = s.stop := rfl
@[simp] theorem mapHead_peers : (s.mapHead h f).peers = s.peers := rfl
@[simp] theorem mapHead_pool : (s.mapHead h f).pool = s.pool := rfl
@[simp] theorem mapHead_image : (s.mapHead h f).image = s.image := rfl
@[simp] theorem mapHead_swaps : (s.mapHead h f).swaps = s.swaps := rfl
@[simp] theorem mapHead_store : (s.mapHead h f).store = s.store := rfl
@[simp] theorem mapHead_tag : (s.mapHead h f).tag = s.tag := rfl
@[simp] theorem mapHead_life : (s.mapHead h f).life = s.life := rfl
@[simp] theorem mapHead_service : (s.mapHead h f).service = s.service := rfl
@[simp] theorem mapHead_levels : (s.mapHead h f).levels = s.levels := rfl
@[simp] theorem mapHead_counters : (s.mapHead h f).counters = s.counters := rfl
@[simp] theorem mapHead_freeCounter : (s.mapHead h f).freeCounter = s.freeCounter := rfl
@[simp] theorem mapHead_now : (s.mapHead h f).now = s.now := rfl
@[simp] theorem mapHead_isStore : (s.mapHead h f).isStore = s.isStore := rfl
@[simp] theorem mapHead_role : (s.mapHead h f).role = s.role := rfl
@[simp] theorem mapHead_station : (s.mapHead h f).station = s.station := rfl
@[simp] theorem mapHead_rollInterval : (s.mapHead h f).rollInterval = s.rollInterval := rfl
@[simp] theorem mapHead_claimLifetime : (s.mapHead h f).claimLifetime = s.claimLifetime := rfl
@[simp] theorem mapHead_confirmWindow : (s.mapHead h f).confirmWindow = s.confirmWindow := rfl
@[simp] theorem mapHead_synced : (s.mapHead h f).synced = s.synced := rfl
@[simp] theorem mapHead_isLive : (s.mapHead h f).isLive = s.isLive := rfl
@[simp] theorem mapHead_headsLive : (s.mapHead h f).headsLive = s.headsLive := rfl
@[simp] theorem mapHead_storeLive : (s.mapHead h f).storeLive = s.storeLive := rfl
@[simp] theorem mapHead_swap (k : Head) : (s.mapHead h f).swap k = s.swap k := rfl

end

/-! ## mapSwap -/

section
variable (h : Head) (f : SwapUnit → SwapUnit) (s : State)

@[simp] theorem mapSwap_pending : (s.mapSwap h f).pending = s.pending := rfl
@[simp] theorem mapSwap_timeBase : (s.mapSwap h f).timeBase = s.timeBase := rfl
@[simp] theorem mapSwap_phase : (s.mapSwap h f).phase = s.phase := rfl
@[simp] theorem mapSwap_straps : (s.mapSwap h f).straps = s.straps := rfl
@[simp] theorem mapSwap_configBad : (s.mapSwap h f).configBad = s.configBad := rfl
@[simp] theorem mapSwap_constants : (s.mapSwap h f).constants = s.constants := rfl
@[simp] theorem mapSwap_families : (s.mapSwap h f).families = s.families := rfl
@[simp] theorem mapSwap_familyDigest : (s.mapSwap h f).familyDigest = s.familyDigest := rfl
@[simp] theorem mapSwap_lineFault : (s.mapSwap h f).lineFault = s.lineFault := rfl
@[simp] theorem mapSwap_line : (s.mapSwap h f).line = s.line := rfl
@[simp] theorem mapSwap_transmitter : (s.mapSwap h f).transmitter = s.transmitter := rfl
@[simp] theorem mapSwap_fe : (s.mapSwap h f).fe = s.fe := rfl
@[simp] theorem mapSwap_stop : (s.mapSwap h f).stop = s.stop := rfl
@[simp] theorem mapSwap_peers : (s.mapSwap h f).peers = s.peers := rfl
@[simp] theorem mapSwap_pool : (s.mapSwap h f).pool = s.pool := rfl
@[simp] theorem mapSwap_image : (s.mapSwap h f).image = s.image := rfl
@[simp] theorem mapSwap_heads : (s.mapSwap h f).heads = s.heads := rfl
@[simp] theorem mapSwap_store : (s.mapSwap h f).store = s.store := rfl
@[simp] theorem mapSwap_tag : (s.mapSwap h f).tag = s.tag := rfl
@[simp] theorem mapSwap_life : (s.mapSwap h f).life = s.life := rfl
@[simp] theorem mapSwap_service : (s.mapSwap h f).service = s.service := rfl
@[simp] theorem mapSwap_levels : (s.mapSwap h f).levels = s.levels := rfl
@[simp] theorem mapSwap_counters : (s.mapSwap h f).counters = s.counters := rfl
@[simp] theorem mapSwap_freeCounter : (s.mapSwap h f).freeCounter = s.freeCounter := rfl
@[simp] theorem mapSwap_now : (s.mapSwap h f).now = s.now := rfl
@[simp] theorem mapSwap_isStore : (s.mapSwap h f).isStore = s.isStore := rfl
@[simp] theorem mapSwap_role : (s.mapSwap h f).role = s.role := rfl
@[simp] theorem mapSwap_station : (s.mapSwap h f).station = s.station := rfl
@[simp] theorem mapSwap_rollInterval : (s.mapSwap h f).rollInterval = s.rollInterval := rfl
@[simp] theorem mapSwap_claimLifetime : (s.mapSwap h f).claimLifetime = s.claimLifetime := rfl
@[simp] theorem mapSwap_confirmWindow : (s.mapSwap h f).confirmWindow = s.confirmWindow := rfl
@[simp] theorem mapSwap_synced : (s.mapSwap h f).synced = s.synced := rfl
@[simp] theorem mapSwap_isLive : (s.mapSwap h f).isLive = s.isLive := rfl
@[simp] theorem mapSwap_headsLive : (s.mapSwap h f).headsLive = s.headsLive := rfl
@[simp] theorem mapSwap_storeLive : (s.mapSwap h f).storeLive = s.storeLive := rfl
@[simp] theorem mapSwap_head (k : Head) : (s.mapSwap h f).head k = s.head k := rfl
@[simp] theorem mapSwap_condition (k : Head) : (s.mapSwap h f).condition k = s.condition k := rfl

end

/-! ## mapLevels -/

section
variable (h : Head) (f : HeadLevels → HeadLevels) (s : State)

@[simp] theorem mapLevels_pending : (s.mapLevels h f).pending = s.pending := rfl
@[simp] theorem mapLevels_timeBase : (s.mapLevels h f).timeBase = s.timeBase := rfl
@[simp] theorem mapLevels_phase : (s.mapLevels h f).phase = s.phase := rfl
@[simp] theorem mapLevels_straps : (s.mapLevels h f).straps = s.straps := rfl
@[simp] theorem mapLevels_configBad : (s.mapLevels h f).configBad = s.configBad := rfl
@[simp] theorem mapLevels_constants : (s.mapLevels h f).constants = s.constants := rfl
@[simp] theorem mapLevels_families : (s.mapLevels h f).families = s.families := rfl
@[simp] theorem mapLevels_familyDigest : (s.mapLevels h f).familyDigest = s.familyDigest := rfl
@[simp] theorem mapLevels_lineFault : (s.mapLevels h f).lineFault = s.lineFault := rfl
@[simp] theorem mapLevels_line : (s.mapLevels h f).line = s.line := rfl
@[simp] theorem mapLevels_transmitter : (s.mapLevels h f).transmitter = s.transmitter := rfl
@[simp] theorem mapLevels_fe : (s.mapLevels h f).fe = s.fe := rfl
@[simp] theorem mapLevels_stop : (s.mapLevels h f).stop = s.stop := rfl
@[simp] theorem mapLevels_peers : (s.mapLevels h f).peers = s.peers := rfl
@[simp] theorem mapLevels_pool : (s.mapLevels h f).pool = s.pool := rfl
@[simp] theorem mapLevels_image : (s.mapLevels h f).image = s.image := rfl
@[simp] theorem mapLevels_heads : (s.mapLevels h f).heads = s.heads := rfl
@[simp] theorem mapLevels_swaps : (s.mapLevels h f).swaps = s.swaps := rfl
@[simp] theorem mapLevels_store : (s.mapLevels h f).store = s.store := rfl
@[simp] theorem mapLevels_tag : (s.mapLevels h f).tag = s.tag := rfl
@[simp] theorem mapLevels_life : (s.mapLevels h f).life = s.life := rfl
@[simp] theorem mapLevels_service : (s.mapLevels h f).service = s.service := rfl
@[simp] theorem mapLevels_ack : (s.mapLevels h f).levels.ack = s.levels.ack := rfl
@[simp] theorem mapLevels_gantryReady : (s.mapLevels h f).levels.gantryReady = s.levels.gantryReady := rfl
@[simp] theorem mapLevels_gantryDone : (s.mapLevels h f).levels.gantryDone = s.levels.gantryDone := rfl
@[simp] theorem mapLevels_gantryFault : (s.mapLevels h f).levels.gantryFault = s.levels.gantryFault := rfl
@[simp] theorem mapLevels_counters : (s.mapLevels h f).counters = s.counters := rfl
@[simp] theorem mapLevels_freeCounter : (s.mapLevels h f).freeCounter = s.freeCounter := rfl
@[simp] theorem mapLevels_now : (s.mapLevels h f).now = s.now := rfl
@[simp] theorem mapLevels_isStore : (s.mapLevels h f).isStore = s.isStore := rfl
@[simp] theorem mapLevels_role : (s.mapLevels h f).role = s.role := rfl
@[simp] theorem mapLevels_station : (s.mapLevels h f).station = s.station := rfl
@[simp] theorem mapLevels_rollInterval : (s.mapLevels h f).rollInterval = s.rollInterval := rfl
@[simp] theorem mapLevels_claimLifetime : (s.mapLevels h f).claimLifetime = s.claimLifetime := rfl
@[simp] theorem mapLevels_confirmWindow : (s.mapLevels h f).confirmWindow = s.confirmWindow := rfl
@[simp] theorem mapLevels_synced : (s.mapLevels h f).synced = s.synced := rfl
@[simp] theorem mapLevels_isLive : (s.mapLevels h f).isLive = s.isLive := rfl
@[simp] theorem mapLevels_headsLive : (s.mapLevels h f).headsLive = s.headsLive := rfl
@[simp] theorem mapLevels_storeLive : (s.mapLevels h f).storeLive = s.storeLive := rfl
@[simp] theorem mapLevels_head (k : Head) : (s.mapLevels h f).head k = s.head k := rfl
@[simp] theorem mapLevels_condition (k : Head) : (s.mapLevels h f).condition k = s.condition k := rfl
@[simp] theorem mapLevels_swap (k : Head) : (s.mapLevels h f).swap k = s.swap k := rfl

end

/-! ## The head, swap unit and levels of one head -/

section
variable {h k : Head} (s : State)

@[simp] theorem mapHead_head_self (f : HeadUnit → HeadUnit) : (s.mapHead h f).head h = f (s.head h) := by
  cases h <;> rfl

theorem mapHead_head_other (f : HeadUnit → HeadUnit) (hk : k ≠ h) : (s.mapHead h f).head k = s.head k := by
  cases h <;> cases k <;> first | rfl | exact absurd rfl hk

@[simp] theorem mapSwap_swap_self (f : SwapUnit → SwapUnit) : (s.mapSwap h f).swap h = f (s.swap h) := by
  cases h <;> rfl

theorem mapSwap_swap_other (f : SwapUnit → SwapUnit) (hk : k ≠ h) : (s.mapSwap h f).swap k = s.swap k := by
  cases h <;> cases k <;> first | rfl | exact absurd rfl hk

@[simp] theorem mapLevels_headLevels_self (f : HeadLevels → HeadLevels) :
    (s.mapLevels h f).headLevels h = f (s.headLevels h) := by
  cases h <;> rfl

theorem mapLevels_headLevels_other (f : HeadLevels → HeadLevels) (hk : k ≠ h) :
    (s.mapLevels h f).headLevels k = s.headLevels k := by
  cases h <;> cases k <;> first | rfl | exact absurd rfl hk

theorem headsLive_isLive (hl : s.headsLive = true) : s.isLive = true := by
  simp only [headsLive, isLive, Bool.and_eq_true] at hl ⊢; exact hl.1

theorem storeLive_isLive (hl : s.storeLive = true) : s.isLive = true := by
  simp only [storeLive, isLive, Bool.and_eq_true] at hl ⊢; exact hl.1

/-- A station runs its heads or its store, never both (00_scope 1.2). -/
theorem headsLive_not_storeLive (hl : s.headsLive = true) : s.storeLive = false := by
  simp only [headsLive, storeLive, Bool.and_eq_true, Bool.not_eq_true'] at hl ⊢; simp [hl.2]

end

end Sys2Proof.Machine.State
end

