-- ==== Sys2Proof/Laws/Frame.lean ====
section
/-! SUPPORT. What the units of a station can do to its state. Each structure below says that `P` survives certain
primitive updates, those of one or more blocks; then `P` survives each operation of those blocks, by one lemma for each,
stated of the weakest structure that serves. A frame is an instance of a structure for a part of the state that none of its
updates touches, and a bound on the transmit queue is another. -/
namespace Sys2Proof.Machine
open State Sys2Proof.Config

/-- A change that the units make to the frame engine: of its transmit queue, its held requests and its admissions alone,
and within the capacity of R31 unless it was beyond it before. -/
structure UnitFe (f f' : FrameEngine) : Prop where
  rest : f' = { f with txQueue := f'.txQueue, held := f'.held, admissionsDue := f'.admissionsDue }
  bound : f'.txQueue.length + f'.admissionsDue ≤ f.txQueue.length + f.admissionsDue
    ∨ f'.txQueue.length + f'.admissionsDue ≤ txCapacity

/-- `P` survives changes of the transmit queue and of the pending checkpoints. -/
structure BaseStable (P : State → Prop) : Prop where
  mapPending : ∀ g s, (∀ l, ∃ p, g l = { l with pending := p }) → P s → P (s.mapLife g)
  mapFe : ∀ g s, UnitFe s.fe (g s.fe) → P s → P (s.mapFe g)

/-- `P` survives changes of the counters, REFUSALS apart, and of the tag port. -/
structure CountStable (P : State → Prop) : Prop where
  count : ∀ f s, (∀ c, (f c).refusals = c.refusals) → P s → P (s.count f)
  mapTag : ∀ f s, P s → P (s.mapTag f)

/-- `P` survives what the stop call unit changes. -/
structure StopStable (P : State → Prop) : Prop extends BaseStable P where
  mapStop : ∀ f s, P s → P (s.mapStop f)
  lineBusy : ∀ s, P s → P (lineBusy s)
  setTransmitter : ∀ t s, P s → P { s with transmitter := t }

/-- `P` survives what the transmit queue and the stop call unit change, with their counters. -/
structure LineStable (P : State → Prop) : Prop extends StopStable P, CountStable P

/-- `P` survives what swap unit `h` changes of itself and of the transmit queue. -/
structure SwapStable (h : Head) (P : State → Prop) : Prop extends BaseStable P where
  mapSwap : ∀ f s, P s → P (s.mapSwap h f)

/-- `P` survives also what head unit `h` changes of itself and of the stop call unit: no counter and no level. -/
structure QuietStable (h : Head) (P : State → Prop) : Prop extends SwapStable h P, StopStable P where
  mapHead : ∀ f s, P s → P (s.mapHead h f)

/-- `P` survives also what the commands of head `h` change: counters, the tag port and the head's levels. -/
structure HeadStable (h : Head) (P : State → Prop) : Prop extends QuietStable h P, CountStable P where
  mapLevels : ∀ f s, P s → P (s.mapLevels h f)

/-- `P` survives what the store unit changes of itself, of the transmit queue and of the gantry's levels. -/
structure DepotStable (P : State → Prop) : Prop extends BaseStable P where
  mapStore : ∀ f s, P s → P (s.mapStore f)
  setReady : ∀ r s, P s → P (s.setReady r)
  setDone : ∀ s, P s → P { s with levels := { s.levels with gantryDone := true } }
  setFault : ∀ s, P s → P { s with levels := { s.levels with gantryFault := true } }

/-- `P` survives also the counters and the tag port of the store unit's commands. -/
structure StoreStable (P : State → Prop) : Prop extends DepotStable P, CountStable P

/-- `P` survives what any unit of a station changes. -/
structure UnitStable (P : State → Prop) : Prop extends LineStable P where
  head : ∀ h, HeadStable h P
  store : StoreStable P
  mapImage : ∀ f s, P s → P (s.mapImage f)
  setAck : ∀ s, P s → P { s with levels := { s.levels with ack := true } }

variable {P : State → Prop}

set_option linter.unusedTactic false
set_option linter.unreachableTactic false

/-! ## Lists of frames -/

theorem insertBy_length {α : Type} (key : α → Nat) (x : α) (l : List α) :
    (insertBy key x l).length = l.length + 1 := by
  induction l with
  | nil => rfl
  | cons y ys ih => simp only [insertBy]; split <;> simp [ih]

theorem changeFirst_length {α : Type} (p : α → Bool) (f : α → α) (l : List α) :
    (changeFirst p f l).length = l.length := by
  induction l with
  | nil => rfl
  | cons y ys ih => simp only [changeFirst]; split <;> simp [ih]

theorem countP_add_filter_not {α : Type} (p : α → Bool) (l : List α) :
    (l.filter fun x => !p x).length + l.countP p = l.length := by
  induction l with
  | nil => rfl
  | cons y ys ih => simp only [List.filter_cons, List.countP_cons]; cases p y <;> simp <;> omega

theorem foldl_stable {α : Type} (f : State → α → State) (hf : ∀ a s, P s → P (f s a)) (l : List α) (s : State)
    (hs : P s) : P (l.foldl f s) := by
  induction l generalizing s with
  | nil => exact hs
  | cons a l ih => exact ih _ (hf a s hs)

/-! ## The transmit queue (R30 to R33) -/

theorem BaseStable.requestCheckpoint (hP : BaseStable P) (id : Nat) (s : State) (hs : P s) :
    P (requestCheckpoint id s) := by
  refine hP.mapPending _ _ (fun l => ?_) hs
  split
  · exact ⟨l.pending, rfl⟩
  · exact ⟨_, rfl⟩

theorem BaseStable.withdrawImagePages (hP : BaseStable P) (s : State) (hs : P s) : P (withdrawImagePages s) :=
  hP.mapPending _ _ (fun _ => ⟨_, rfl⟩) hs

theorem BaseStable.submit (hP : BaseStable P) (o : Origin) (p : Payload) (s : State) (hs : P s) :
    P (submit o p s).1 := by
  unfold Machine.submit
  split
  · exact hs
  · split
    · rename_i hr
      dsimp only [queueFrame]
      refine hP.mapFe _ s ?_ hs
      refine ⟨rfl, .inr ?_⟩
      simp only [State.txRoom, decide_eq_true_eq] at hr
      simp only [insertBy_length]; omega
    · dsimp only
      refine hP.mapFe _ s ?_ hs
      exact ⟨rfl, .inl (Nat.le_refl _)⟩

theorem BaseStable.removeFrames (hP : BaseStable P) (p : TxEntry → Bool) (s : State) (hs : P s) :
    P (removeFrames p s) := by
  refine hP.mapFe _ s ?_ hs
  refine ⟨rfl, .inl ?_⟩
  have := countP_add_filter_not p s.fe.txQueue
  simp only [FrameEngine.removed]; omega

theorem BaseStable.leaveLine (hP : BaseStable P) (s : State) (hs : P s) : P (leaveLine s) := by
  unfold Machine.leaveLine; dsimp only
  refine hP.mapFe _ _ ?_ (hP.removeFrames _ _ hs)
  exact ⟨rfl, .inl (by simp)⟩

theorem BaseStable.withdrawFrames (hP : BaseStable P) (p : Origin → Payload → Bool) (s : State) (hs : P s) :
    P (withdrawFrames p s) := by
  refine hP.mapFe _ _ ?_ hs
  refine ⟨rfl, .inl ?_⟩
  have := countP_add_filter_not (fun e : TxEntry => p e.origin e.payload && !e.onLine) s.fe.txQueue
  simp only [FrameEngine.removed, List.length_map]; omega

theorem BaseStable.purgePool (hP : BaseStable P) (s : State) (hs : P s) : P (purgePool s) :=
  hP.withdrawFrames _ _ hs

theorem LineStable.countAttempt (hP : LineStable P) (s : State) (hs : P s) : P (countAttempt s).1 := by
  unfold Machine.countAttempt
  split
  · exact hs
  · split
    · exact hP.leaveLine _ hs
    · split
      · exact hP.count (fun c => { c with txFail := satInc c.txFail }) _ (fun _ => rfl) (hP.removeFrames _ _ hs)
      · dsimp only
        refine hP.mapFe _ s ?_ hs
        exact ⟨rfl, .inl (by simp [changeFirst_length])⟩

theorem BaseStable.frameSent (hP : BaseStable P) (s : State) (hs : P s) : P (frameSent s).1 := by
  unfold Machine.frameSent
  split
  · exact hs
  · exact hP.removeFrames _ _ hs

theorem BaseStable.admitHeld (hP : BaseStable P) (s : State) (hs : P s) : P (admitHeld s).1 := by
  unfold Machine.admitHeld
  split
  · exact hs
  · split
    · exact hs
    · rename_i hd _ o p _
      dsimp only
      split
      · dsimp only
        refine hP.mapFe _ s ?_ hs
        exact ⟨rfl, .inl (by simp)⟩
      · let g : FrameEngine → FrameEngine := fun f =>
          { f with held := f.held.filter (fun r => r.1 != o), admissionsDue := f.admissionsDue - 1 }
        let k : FrameEngine → FrameEngine := fun f =>
          { f with txQueue := insertBy (fun e => e.payload.cls) ⟨o, p, 0, false, false⟩ f.txQueue }
        refine hP.mapFe (fun f => k (g f)) s ?_ hs
        refine ⟨rfl, .inl ?_⟩
        simp only [k, g, insertBy_length]; omega

/-! ## The tag port (R200) -/

theorem CountStable.setAssembly (hP : CountStable P) (a : TagAssembly) (s : State) (hs : P s)
    : P (setAssembly a s) := by
  unfold Machine.setAssembly; try dsimp only
  repeat' first | with_reducible exact hs | with_reducible apply hP.mapTag | split

theorem CountStable.tagError (hP : CountStable P) (s : State) (hs : P s) : P (tagError s) := by
  unfold Machine.tagError; try dsimp only
  repeat' first | with_reducible exact hs | exact fun _ => rfl | with_reducible apply hP.count | split

theorem CountStable.discardRecord (hP : CountStable P) (s : State) (hs : P s) : P (discardRecord s) := by
  unfold Machine.discardRecord; try dsimp only
  repeat' first | with_reducible exact hs | with_reducible apply hP.setAssembly | with_reducible apply hP.tagError
                | split

theorem CountStable.completeRecord (hP : CountStable P) (bytes : List Byte) (s : State) (hs : P s)
    : P (completeRecord bytes s) := by
  unfold Machine.completeRecord; try dsimp only
  repeat' first | with_reducible exact hs | exact fun _ => rfl | with_reducible apply hP.count
                | with_reducible apply hP.setAssembly | with_reducible apply hP.discardRecord | split

theorem CountStable.assemblyTake (hP : CountStable P) (b : Byte) (framingError : Bool) (s : State) (hs : P s)
    : P (assemblyTake b framingError s) := by
  unfold Machine.assemblyTake; try dsimp only
  repeat' first | with_reducible exact hs | with_reducible apply hP.setAssembly
                | with_reducible apply hP.discardRecord | with_reducible apply hP.completeRecord | split

theorem CountStable.takeHolding (hP : CountStable P) (s : State) (hs : P s) : P (takeHolding s) := by
  unfold Machine.takeHolding; try dsimp only
  repeat' first | with_reducible exact hs | with_reducible apply hP.mapTag | with_reducible apply hP.assemblyTake
                | split

theorem CountStable.byteCompleted (hP : CountStable P) (b : Byte) (framingError : Bool) (s : State) (hs : P s)
    : P (byteCompleted b framingError s) := by
  unfold Machine.byteCompleted; try dsimp only
  repeat' first | with_reducible exact hs | with_reducible apply hP.mapTag | with_reducible apply hP.tagError
                | with_reducible apply hP.discardRecord | with_reducible apply hP.assemblyTake
                | with_reducible apply hP.takeHolding | split

theorem CountStable.takeShift (hP : CountStable P) (s : State) (hs : P s) : P (takeShift s) := by
  unfold Machine.takeShift; try dsimp only
  repeat' first | with_reducible exact hs | with_reducible apply hP.mapTag | with_reducible apply hP.byteCompleted
                | split

theorem CountStable.tagByte (hP : CountStable P) (b : Byte) (framingError : Bool) (s : State) (hs : P s)
    : P (tagByte b framingError s) := by
  unfold Machine.tagByte; try dsimp only
  repeat' first | with_reducible exact hs | with_reducible apply hP.mapTag | with_reducible apply hP.takeShift | split

theorem CountStable.releaseRecord (hP : CountStable P) (s : State) (hs : P s) : P (releaseRecord s) := by
  unfold Machine.releaseRecord; try dsimp only
  repeat' first | with_reducible exact hs | with_reducible apply hP.setAssembly
                | with_reducible apply hP.takeHolding | split

theorem CountStable.tagGapTimeout (hP : CountStable P) (s : State) (hs : P s) : P (tagGapTimeout s) := by
  unfold Machine.tagGapTimeout; try dsimp only
  repeat' first | with_reducible exact hs | with_reducible apply hP.discardRecord | split

/-! ## The stop call unit (chapter 3) -/

theorem StopStable.setLatch (hP : StopStable P) (s : State) (hs : P s) : P (setLatch s) := by
  unfold Machine.setLatch; try dsimp only
  repeat' first | with_reducible exact hs | with_reducible apply hP.mapStop | split

theorem StopStable.stopSend (hP : StopStable P) (s : State) (hs : P s) : P (stopSend s) := by
  unfold Machine.stopSend
  split
  · exact hs
  · dsimp only
    rename_i r rs _
    have key : ∀ s' : State, P s' → P ((Machine.lineBusy { s' with
        transmitter := .stopCall (stopChars s'.constants.cellCode s'.station) false }).mapStop
          fun u => { u with requests := ⟨r.sends + 1, false⟩ :: rs, latch := true }) := fun s' hs' =>
      hP.mapStop _ _ (hP.lineBusy _
        (hP.setTransmitter (.stopCall (stopChars s'.constants.cellCode s'.station) false) _ hs'))
    split
    · exact key _ (hP.leaveLine _ hs)
    · exact key _ hs
    · exact key _ hs

theorem StopStable.submitStopRequest (hP : StopStable P) (s : State) (hs : P s) : P (submitStopRequest s) := by
  unfold Machine.submitStopRequest; try dsimp only
  repeat' first | with_reducible exact hs | with_reducible apply hP.mapStop | with_reducible apply hP.setLatch
                | with_reducible apply hP.stopSend | split

theorem StopStable.removeStopRequest (hP : StopStable P) (s : State) (hs : P s) : P (removeStopRequest s) := by
  unfold Machine.removeStopRequest; try dsimp only
  repeat' first | with_reducible exact hs | with_reducible apply hP.mapStop | with_reducible apply hP.stopSend | split

theorem StopStable.satisfyRequest (hP : StopStable P) (s : State) (hs : P s) : P (satisfyRequest s) := by
  unfold Machine.satisfyRequest; try dsimp only
  repeat' first | with_reducible exact hs | with_reducible apply hP.removeStopRequest | split

theorem StopStable.resendRequest (hP : StopStable P) (s : State) (hs : P s) : P (resendRequest s) := by
  unfold Machine.resendRequest; try dsimp only
  repeat' first | with_reducible exact hs | with_reducible apply hP.mapStop | with_reducible apply hP.stopSend
                | with_reducible apply hP.removeStopRequest | split

theorem StopStable.stopCallSendComplete (hP : StopStable P) (s : State) (hs : P s) :
    P (stopCallSendComplete s) := by
  unfold Machine.stopCallSendComplete
  split
  · exact hP.removeStopRequest _ (hP.setTransmitter .idle s hs)
  · exact hs
  · exact hs

theorem StopStable.setMatcher (hP : StopStable P) (m : Matcher) (s : State) (hs : P s) : P (setMatcher m s) := by
  unfold Machine.setMatcher; try dsimp only
  repeat' first | with_reducible exact hs | with_reducible apply hP.mapStop | split

theorem StopStable.matcherFailed (hP : StopStable P) (s : State) (hs : P s) : P (matcherFailed s) := by
  unfold Machine.matcherFailed; try dsimp only
  repeat' first | with_reducible exact hs | with_reducible apply hP.resendRequest
                | with_reducible apply hP.setMatcher | split

theorem StopStable.matcherMissed (hP : StopStable P) (c : Character) (s : State) (hs : P s)
    : P (matcherMissed c s) := by
  unfold Machine.matcherMissed; try dsimp only
  repeat' first | with_reducible exact hs | with_reducible apply hP.mapStop | with_reducible apply hP.matcherFailed
                | split

theorem StopStable.resolveFailed (hP : StopStable P) (longBreak : Bool) (s : State) (hs : P s)
    : P (resolveFailed longBreak s) := by
  unfold Machine.resolveFailed; try dsimp only
  repeat' first | with_reducible exact hs | with_reducible apply hP.mapStop | with_reducible apply hP.resendRequest
                | split

theorem StopStable.matcherComplete (hP : StopStable P) (stamp : Time) (sender : Option Station) (s : State) (hs
    : P s) : P (matcherComplete stamp sender s) := by
  unfold Machine.matcherComplete; try dsimp only
  repeat' first | with_reducible exact hs | with_reducible apply hP.mapStop | with_reducible apply hP.satisfyRequest
                | split

theorem StopStable.recognise (hP : StopStable P) (s : State) (hs : P s) : P (recognise s) := by
  unfold Machine.recognise; try dsimp only
  repeat' first | with_reducible exact hs | with_reducible apply hP.setLatch
                | with_reducible apply hP.satisfyRequest | split

theorem StopStable.matcherStart (hP : StopStable P) (stamp : Time) (s : State) (hs : P s)
    : P (matcherStart stamp s) := by
  unfold Machine.matcherStart; try dsimp only
  repeat' first | with_reducible exact hs | with_reducible apply hP.setMatcher | split

theorem StopStable.matcherInterrupted (hP : StopStable P) (s : State) (hs : P s) : P (matcherInterrupted s) := by
  unfold Machine.matcherInterrupted; try dsimp only
  repeat' first | with_reducible exact hs | with_reducible apply hP.matcherFailed
                | with_reducible apply hP.matcherComplete | split

theorem StopStable.matcherLineFree (hP : StopStable P) (s : State) (hs : P s) : P (matcherLineFree s) := by
  unfold Machine.matcherLineFree; try dsimp only
  repeat' first | with_reducible exact hs | with_reducible apply hP.resendRequest
                | with_reducible apply hP.matcherFailed | with_reducible apply hP.matcherComplete | split

theorem StopStable.matcherTake (hP : StopStable P) (c : Character) (s : State) (hs : P s) : P (matcherTake c s) := by
  unfold Machine.matcherTake; try dsimp only
  repeat' first | with_reducible exact hs | with_reducible apply hP.setMatcher
                | with_reducible apply hP.matcherMissed | with_reducible apply hP.matcherComplete
                | with_reducible apply hP.recognise | split

theorem CountStable.countNoise (hP : CountStable P) (c : Character) (s : State) (hs : P s) : P (countNoise c s) := by
  unfold Machine.countNoise; try dsimp only
  repeat' first | with_reducible exact hs | exact fun _ => rfl | with_reducible apply hP.count | split

theorem LineStable.stopCharacter (hP : LineStable P) (c : CharSamples) (s : State) (hs : P s)
    : P (stopCharacter c s) := by
  unfold Machine.stopCharacter; try dsimp only
  repeat' first | with_reducible exact hs | with_reducible apply hP.matcherTake | with_reducible apply hP.countNoise
                | split

/-! ## One head: its swap unit (chapter 9) -/

theorem QuietStable.mapCycle {h : Head} (hP : QuietStable h P) (f : Cycle → Cycle) (s : State) (hs : P s) :
    P (s.mapCycle h f) := hP.mapHead _ _ hs

theorem QuietStable.mapRecord {h : Head} (hP : QuietStable h P) (f : HeadRecord → HeadRecord) (s : State) (hs : P s) :
    P (s.mapRecord h f) := hP.mapHead _ _ hs

theorem SwapStable.enterBackoff {h : Head} (hP : SwapStable h P) (family : BitVec 4) (s : State) (hs : P s)
    : P (enterBackoff h family s) := by
  unfold Machine.enterBackoff; try dsimp only
  repeat' first | with_reducible exact hs | with_reducible apply hP.mapSwap | split

theorem SwapStable.submitClaim {h : Head} (hP : SwapStable h P) (s : State) (hs : P s) : P (submitClaim h s) := by
  unfold Machine.submitClaim; try dsimp only
  repeat' first | with_reducible exact hs | with_reducible apply hP.submit | with_reducible apply hP.mapSwap
                | with_reducible apply hP.enterBackoff | split

theorem SwapStable.claimTest {h : Head} (hP : SwapStable h P) (s : State) (hs : P s) : P (claimTest h s) := by
  unfold Machine.claimTest; try dsimp only
  repeat' first | with_reducible exact hs | with_reducible apply hP.submitClaim | split

theorem SwapStable.submitRetryable {h : Head} (hP : SwapStable h P) (f : PoolFrame) (s : State) (hs : P s)
    : P (submitRetryable h f s) := by
  unfold Machine.submitRetryable; try dsimp only
  repeat' first | with_reducible exact hs | with_reducible apply hP.submit | with_reducible apply hP.mapSwap | split

theorem SwapStable.takeWant {h : Head} (hP : SwapStable h P) (w : Want) (s : State) (hs : P s)
    : P (takeWant h w s) := by
  unfold Machine.takeWant; try dsimp only
  repeat' first | with_reducible exact hs | with_reducible apply hP.mapSwap | with_reducible apply hP.submitClaim
                | with_reducible apply hP.submitRetryable | split

theorem SwapStable.swapPumpFrom {h : Head} (hP : SwapStable h P) (ws : List Want) (s : State) (hs : P s) :
    P (swapPumpFrom h ws s) := by
  induction ws generalizing s with
  | nil => exact hs
  | cons w ws ih =>
    unfold Machine.swapPumpFrom
    split
    · exact hs
    · exact ih _ (hP.takeWant _ _ (hP.mapSwap _ _ hs))

theorem SwapStable.swapPump {h : Head} (hP : SwapStable h P) (s : State) (hs : P s) : P (swapPump h s) :=
  hP.swapPumpFrom _ _ hs

theorem SwapStable.swapWant {h : Head} (hP : SwapStable h P) (w : Want) (s : State) (hs : P s)
    : P (swapWant h w s) := by
  unfold Machine.swapWant; try dsimp only
  repeat' first | with_reducible exact hs | with_reducible apply hP.mapSwap | with_reducible apply hP.swapPump | split

theorem SwapStable.swapFrameEnded {h : Head} (hP : SwapStable h P) (s : State) (hs : P s)
    : P (swapFrameEnded h s) := by
  unfold Machine.swapFrameEnded; try dsimp only
  repeat' first | with_reducible exact hs | with_reducible apply hP.claimTest | with_reducible apply hP.swapPump
                | split

theorem SwapStable.endBackoff {h : Head} (hP : SwapStable h P) (s : State) (hs : P s) : P (endBackoff h s) := by
  unfold Machine.endBackoff; try dsimp only
  repeat' first | with_reducible exact hs | with_reducible apply hP.mapSwap | with_reducible apply hP.claimTest
                | split

theorem SwapStable.familyNotice {h : Head} (hP : SwapStable h P) (family : BitVec 4) (s : State) (hs : P s)
    : P (familyNotice family h s) := by
  unfold Machine.familyNotice; try dsimp only
  repeat' first | with_reducible exact hs | with_reducible apply hP.endBackoff | split

theorem SwapStable.dropHeld {h : Head} (hP : SwapStable h P) (s : State) (hs : P s) : P (dropHeld h s) := by
  unfold Machine.dropHeld; try dsimp only
  repeat' first | with_reducible exact hs | with_reducible apply hP.withdrawFrames | with_reducible apply hP.mapSwap
                | split

theorem SwapStable.setSwapState {h : Head} (hP : SwapStable h P) (st : SwapState) (s : State) (hs : P s)
    : P (setSwapState h st s) := by
  unfold Machine.setSwapState; try dsimp only
  repeat' first | with_reducible exact hs | with_reducible apply hP.mapSwap | split

theorem SwapStable.dropCounted {h : Head} (hP : SwapStable h P) (counted : Bool) (s : State) (hs : P s)
    : P (dropCounted h counted s) := by
  unfold Machine.dropCounted; try dsimp only
  repeat' first | with_reducible exact hs | with_reducible apply hP.mapSwap | with_reducible apply hP.dropHeld | split

theorem SwapStable.claimAnew {h : Head} (hP : SwapStable h P) (w : Want) (s : State) (hs : P s)
    : P (claimAnew h w s) := by
  unfold Machine.claimAnew; try dsimp only
  repeat' first | with_reducible exact hs | with_reducible apply hP.swapWant | with_reducible apply hP.setSwapState
                | split

theorem SwapStable.loseWheel {h : Head} (hP : SwapStable h P) (counted : Bool) (s : State) (hs : P s)
    : P (loseWheel h counted s) := by
  unfold Machine.loseWheel; try dsimp only
  repeat' first | with_reducible exact hs | with_reducible apply hP.setSwapState
                | with_reducible apply hP.dropCounted | with_reducible apply hP.claimAnew | split

theorem SwapStable.giveUpWheel {h : Head} (hP : SwapStable h P) (counted : Bool) (s : State) (hs : P s)
    : P (giveUpWheel h counted s) := by
  unfold Machine.giveUpWheel; try dsimp only
  repeat' first | with_reducible exact hs | with_reducible apply hP.dropCounted | with_reducible apply hP.claimAnew
                | split

theorem SwapStable.failMount {h : Head} (hP : SwapStable h P) (s : State) (hs : P s) : P (failMount h s) := by
  unfold Machine.failMount; try dsimp only
  repeat' first | with_reducible exact hs | with_reducible apply hP.dropHeld | with_reducible apply hP.setSwapState
                | split

theorem SwapStable.startWindow {h : Head} (hP : SwapStable h P) (s : State) (hs : P s) : P (startWindow h s) := by
  unfold Machine.startWindow; try dsimp only
  repeat' first | with_reducible exact hs | with_reducible apply hP.mapSwap | split

theorem SwapStable.exchangeTest {h : Head} (hP : SwapStable h P) (s : State) (hs : P s) : P (exchangeTest h s) := by
  unfold Machine.exchangeTest; try dsimp only
  repeat' first | with_reducible exact hs | with_reducible apply hP.startWindow | split

theorem SwapStable.markNotNeeded {h : Head} (hP : SwapStable h P) (s : State) (hs : P s) : P (markNotNeeded h s) := by
  unfold Machine.markNotNeeded; try dsimp only
  repeat' first | with_reducible exact hs | with_reducible apply hP.mapSwap | with_reducible apply hP.swapWant | split

theorem SwapStable.clearNotNeeded {h : Head} (hP : SwapStable h P) (s : State) (hs : P s)
    : P (clearNotNeeded h s) := by
  unfold Machine.clearNotNeeded; try dsimp only
  repeat' first | with_reducible exact hs | with_reducible apply hP.mapSwap | with_reducible apply hP.exchangeTest
                | split

theorem SwapStable.suitTest {h : Head} (hP : SwapStable h P) (s : State) (hs : P s) : P (suitTest h s) := by
  unfold Machine.suitTest; try dsimp only
  repeat' first | with_reducible exact hs | with_reducible apply hP.markNotNeeded
                | with_reducible apply hP.clearNotNeeded | split

theorem SwapStable.swapNews {h : Head} (hP : SwapStable h P) (s : State) (hs : P s) : P (swapNews h s) := by
  unfold Machine.swapNews; try dsimp only
  repeat' first | with_reducible exact hs | with_reducible apply hP.claimTest | with_reducible apply hP.exchangeTest
                | with_reducible apply hP.suitTest | split

theorem SwapStable.enterDelivered {h : Head} (hP : SwapStable h P) (s : State) (hs : P s)
    : P (enterDelivered h s) := by
  unfold Machine.enterDelivered; try dsimp only
  repeat' first | with_reducible exact hs | with_reducible apply hP.mapSwap | with_reducible apply hP.exchangeTest
                | with_reducible apply hP.markNotNeeded | split

theorem SwapStable.enterMounting {h : Head} (hP : SwapStable h P) (s : State) (hs : P s) : P (enterMounting h s) := by
  unfold Machine.enterMounting; try dsimp only
  repeat' first | with_reducible exact hs | with_reducible apply hP.mapSwap | with_reducible apply hP.swapWant | split

theorem SwapStable.judgeTag {h : Head} (hP : SwapStable h P) (r : TagRecord) (s : State) (hs : P s)
    : P (judgeTag h r s) := by
  unfold Machine.judgeTag; try dsimp only
  repeat' first | with_reducible exact hs | with_reducible apply hP.swapWant | with_reducible apply hP.dropHeld
                | with_reducible apply hP.setSwapState | with_reducible apply hP.enterMounting | split

theorem SwapStable.declareEnded {h : Head} (hP : SwapStable h P) (s : State) (hs : P s) : P (declareEnded h s) := by
  unfold Machine.declareEnded; try dsimp only
  repeat' first | with_reducible exact hs | with_reducible apply hP.mapSwap | with_reducible apply hP.claimTest
                | with_reducible apply hP.endBackoff | split

theorem SwapStable.declareFromTag {h : Head} (hP : SwapStable h P) (r : TagRecord) (s : State) (hs : P s)
    : P (declareFromTag h r s) := by
  unfold Machine.declareFromTag; try dsimp only
  repeat' first | with_reducible exact hs | with_reducible apply hP.submit | with_reducible apply hP.mapSwap
                | with_reducible apply hP.declareEnded | split

theorem CountStable.tagIgnored (hP : CountStable P) (s : State) (hs : P s) : P (tagIgnored s) := by
  unfold Machine.tagIgnored; try dsimp only
  repeat' first | with_reducible exact hs | exact fun _ => rfl | with_reducible apply hP.count | split

theorem HeadStable.takeHeadTag {h : Head} (hP : HeadStable h P) (r : TagRecord) (changePos : Bool) (s : State) (hs
    : P s) : P (takeHeadTag h r changePos s) := by
  unfold Machine.takeHeadTag; try dsimp only
  repeat' first | with_reducible exact hs | with_reducible apply hP.startWindow
                | with_reducible apply hP.enterMounting | with_reducible apply hP.judgeTag
                | with_reducible apply hP.declareFromTag | with_reducible apply hP.tagIgnored | split

theorem SwapStable.swapSent {h : Head} (hP : SwapStable h P) (f : PoolFrame) (s : State) (hs : P s)
    : P (swapSent h f s) := by
  unfold Machine.swapSent; try dsimp only
  repeat' first | with_reducible exact hs | with_reducible apply hP.mapSwap | split

theorem SwapStable.swapNotSent {h : Head} (hP : SwapStable h P) (f : PoolFrame) (s : State) (hs : P s)
    : P (swapNotSent h f s) := by
  unfold Machine.swapNotSent; try dsimp only
  repeat' first | with_reducible exact hs | with_reducible apply hP.mapSwap | with_reducible apply hP.enterBackoff
                | with_reducible apply hP.swapPump | with_reducible apply hP.swapFrameEnded
                | with_reducible apply hP.declareEnded | split

theorem SwapStable.swapResync {h : Head} (hP : SwapStable h P) (s : State) (hs : P s) : P (swapResync h s) := by
  unfold Machine.swapResync; try dsimp only
  repeat' first | with_reducible exact hs | with_reducible apply hP.mapSwap | with_reducible apply hP.enterBackoff
                | split

theorem SwapStable.swapAdopt {h : Head} (hP : SwapStable h P) (s : State) (hs : P s) : P (swapAdopt h s) := by
  unfold Machine.swapAdopt; try dsimp only
  repeat' first | with_reducible exact hs | with_reducible apply hP.mapSwap | split

/-! ## One head: its head unit (chapters 7 and 8) -/

theorem SwapStable.conditionChanged {h : Head} (hP : SwapStable h P) (s : State) (hs : P s)
    : P (conditionChanged h s) := by
  unfold Machine.conditionChanged; try dsimp only
  repeat' first | with_reducible exact hs | with_reducible apply hP.requestCheckpoint
                | with_reducible apply hP.swapNews | split

theorem QuietStable.setCondition {h : Head} (hP : QuietStable h P) (c : Condition) (s : State) (hs : P s)
    : P (setCondition h c s) := by
  unfold Machine.setCondition; try dsimp only
  repeat' first | with_reducible exact hs | with_reducible apply hP.mapRecord
                | with_reducible apply hP.conditionChanged | split

theorem QuietStable.evaluateHead {h : Head} (hP : QuietStable h P) (s : State) (hs : P s) : P (evaluateHead h s) := by
  unfold Machine.evaluateHead; try dsimp only
  repeat' first | with_reducible exact hs | with_reducible apply hP.mapRecord
                | with_reducible apply hP.conditionChanged | split

theorem QuietStable.evaluateWorking {h : Head} (hP : QuietStable h P) (s : State) (hs : P s)
    : P (evaluateWorking h s) := by
  unfold Machine.evaluateWorking; try dsimp only
  repeat' first | with_reducible exact hs | with_reducible apply hP.evaluateHead | split

theorem QuietStable.closeCycle {h : Head} (hP : QuietStable h P) (s : State) (hs : P s) : P (closeCycle h s) := by
  unfold Machine.closeCycle; try dsimp only
  repeat' first | with_reducible exact hs | with_reducible apply hP.mapHead | split

theorem QuietStable.settleReport {h : Head} (hP : QuietStable h P) (s : State) (hs : P s) : P (settleReport h s) := by
  unfold Machine.settleReport; try dsimp only
  repeat' first | with_reducible exact hs | with_reducible apply hP.mapHead | with_reducible apply hP.swapPump | split

theorem QuietStable.submitReport {h : Head} (hP : QuietStable h P) (s : State) (hs : P s) : P (submitReport h s) := by
  unfold Machine.submitReport; try dsimp only
  repeat' first | with_reducible exact hs | with_reducible apply hP.submit | with_reducible apply hP.mapHead | split

theorem QuietStable.breakHead {h : Head} (hP : QuietStable h P) (reason : Byte) (s : State) (hs : P s)
    : P (breakHead h reason s) := by
  unfold Machine.breakHead; try dsimp only
  repeat' first | with_reducible exact hs | with_reducible apply hP.mapHead
                | with_reducible apply hP.submitStopRequest | with_reducible apply hP.setCondition
                | with_reducible apply hP.submitReport | split

theorem QuietStable.holdHead {h : Head} (hP : QuietStable h P) (reason : HoldReason) (s : State) (hs : P s)
    : P (holdHead h reason s) := by
  unfold Machine.holdHead; try dsimp only
  repeat' first | with_reducible exact hs | with_reducible apply hP.setCondition | split

theorem HeadStable.giveVerdict {h : Head} (hP : HeadStable h P) (v : Verdict) (s : State) (hs : P s)
    : P (giveVerdict h v s) := by
  unfold Machine.giveVerdict; try dsimp only
  repeat' first | with_reducible exact hs | exact fun _ => rfl | with_reducible apply hP.count
                | with_reducible apply hP.mapCycle | with_reducible apply hP.breakHead
                | with_reducible apply hP.holdHead | split

theorem QuietStable.replaceRecord {h : Head} (hP : QuietStable h P) (e : Entry) (s : State) (hs : P s)
    : P (replaceRecord h e s) := by
  unfold Machine.replaceRecord; try dsimp only
  repeat' first | with_reducible exact hs | with_reducible apply hP.mapHead
                | with_reducible apply hP.conditionChanged | split

theorem QuietStable.dropRecord {h : Head} (hP : QuietStable h P) (s : State) (hs : P s) : P (dropRecord h s) := by
  unfold Machine.dropRecord; try dsimp only
  repeat' first | with_reducible exact hs | with_reducible apply hP.mapHead
                | with_reducible apply hP.conditionChanged | split

theorem QuietStable.submitDeclare {h : Head} (hP : QuietStable h P) (f : PoolFrame) (s : State) (hs : P s)
    : P (submitDeclare h f s) := by
  unfold Machine.submitDeclare; try dsimp only
  repeat' first | with_reducible exact hs | with_reducible apply hP.submit | with_reducible apply hP.mapHead | split

theorem QuietStable.declareRetry {h : Head} (hP : QuietStable h P) (s : State) (hs : P s) : P (declareRetry h s) := by
  unfold Machine.declareRetry; try dsimp only
  repeat' first | with_reducible exact hs | with_reducible apply hP.submitDeclare | split

theorem QuietStable.conflictHold {h : Head} (hP : QuietStable h P) (s : State) (hs : P s) : P (conflictHold h s) := by
  unfold Machine.conflictHold; try dsimp only
  repeat' first | with_reducible exact hs | with_reducible apply hP.requestCheckpoint
                | with_reducible apply hP.mapRecord | with_reducible apply hP.setCondition | split

theorem QuietStable.headOutcome {h : Head} (hP : QuietStable h P) (f : PoolFrame) (refused : Bool) (s : State) (hs
    : P s) : P (headOutcome h f refused s) := by
  unfold Machine.headOutcome; try dsimp only
  repeat' first | with_reducible exact hs | with_reducible apply hP.mapHead | with_reducible apply hP.swapFrameEnded
                | with_reducible apply hP.settleReport | with_reducible apply hP.conflictHold | split

theorem QuietStable.headNotSent {h : Head} (hP : QuietStable h P) (f : PoolFrame) (s : State) (hs : P s)
    : P (headNotSent h f s) := by
  unfold Machine.headNotSent; try dsimp only
  repeat' first | with_reducible exact hs | with_reducible apply hP.mapHead | split

theorem QuietStable.headResync {h : Head} (hP : QuietStable h P) (s : State) (hs : P s) : P (headResync h s) := by
  unfold Machine.headResync; try dsimp only
  repeat' first | with_reducible exact hs | with_reducible apply hP.mapHead | split

theorem QuietStable.adoptRecord {h : Head} (hP : QuietStable h P) (e : Entry) (s : State) (hs : P s)
    : P (adoptRecord h e s) := by
  unfold Machine.adoptRecord; try dsimp only
  repeat' first | with_reducible exact hs | with_reducible apply hP.requestCheckpoint
                | with_reducible apply hP.mapHead | split

theorem QuietStable.reconcileHead {h : Head} (hP : QuietStable h P) (s : State) (hs : P s)
    : P (reconcileHead h s) := by
  unfold Machine.reconcileHead; try dsimp only
  repeat' first | with_reducible exact hs | with_reducible apply hP.submitDeclare
                | with_reducible apply hP.adoptRecord | split

theorem QuietStable.reportAtSync {h : Head} (hP : QuietStable h P) (s : State) (hs : P s) : P (reportAtSync h s) := by
  unfold Machine.reportAtSync; try dsimp only
  repeat' first | with_reducible exact hs | with_reducible apply hP.settleReport
                | with_reducible apply hP.submitReport | split

/-! ## One head: outcomes and notices (R87, R88) -/

theorem SwapStable.dropToIdle {h : Head} (hP : SwapStable h P) (s : State) (hs : P s) : P (dropToIdle h s) := by
  unfold Machine.dropToIdle; try dsimp only
  repeat' first | with_reducible exact hs | with_reducible apply hP.claimTest | with_reducible apply hP.dropHeld
                | with_reducible apply hP.setSwapState | split

theorem SwapStable.claimApplied {h : Head} (hP : SwapStable h P) (e : Entry) (stamp : Time) (s : State) (hs : P s)
    : P (claimApplied h e stamp s) := by
  unfold Machine.claimApplied; try dsimp only
  repeat' first | with_reducible exact hs | with_reducible apply hP.mapSwap | with_reducible apply hP.suitTest | split

theorem SwapStable.claimRefused {h : Head} (hP : SwapStable h P) (family : Byte) (s : State) (hs : P s)
    : P (claimRefused h family s) := by
  unfold Machine.claimRefused; try dsimp only
  repeat' first | with_reducible exact hs | with_reducible apply hP.enterBackoff | split

theorem QuietStable.mountApplied {h : Head} (hP : QuietStable h P) (e : Entry) (s : State) (hs : P s)
    : P (mountApplied h e s) := by
  unfold Machine.mountApplied; try dsimp only
  repeat' first | with_reducible exact hs | with_reducible apply hP.mapSwap | with_reducible apply hP.dropHeld
                | with_reducible apply hP.setSwapState | with_reducible apply hP.replaceRecord | split

theorem QuietStable.declareApplied {h : Head} (hP : QuietStable h P) (e : Entry) (s : State) (hs : P s)
    : P (declareApplied h e s) := by
  unfold Machine.declareApplied; try dsimp only
  repeat' first | with_reducible exact hs | with_reducible apply hP.mapSwap | with_reducible apply hP.replaceRecord
                | split

theorem SwapStable.releaseApplied {h : Head} (hP : SwapStable h P) (reason : Byte) (s : State) (hs : P s)
    : P (releaseApplied h reason s) := by
  unfold Machine.releaseApplied; try dsimp only
  repeat' first | with_reducible exact hs | with_reducible apply hP.giveUpWheel | with_reducible apply hP.failMount
                | with_reducible apply hP.dropToIdle | split

theorem QuietStable.ownOutcome {h : Head} (hP : QuietStable h P) (f : PoolFrame) (stamp : Time)
    (out : PoolOutcome) (s : State) (hs : P s) : P (ownOutcome h f stamp out s) := by
  unfold Machine.ownOutcome; try dsimp only
  repeat' first | with_reducible exact hs | with_reducible apply hP.failMount | with_reducible apply hP.declareEnded
                | with_reducible apply hP.claimApplied | with_reducible apply hP.claimRefused
                | with_reducible apply hP.mountApplied | with_reducible apply hP.declareApplied
                | with_reducible apply hP.releaseApplied | split

theorem QuietStable.swapOutcome {h : Head} (hP : QuietStable h P) (f : PoolFrame) (stamp : Time)
    (out : PoolOutcome) (s : State) (hs : P s) : P (swapOutcome h f stamp out s) := by
  unfold Machine.swapOutcome; try dsimp only
  repeat' first | with_reducible exact hs | with_reducible apply hP.mapSwap | with_reducible apply hP.swapFrameEnded
                | with_reducible apply hP.ownOutcome | split

theorem SwapStable.withdrawExpired {h : Head} (hP : SwapStable h P) (serial : Serial) (s : State) (hs : P s)
    : P (withdrawExpired h serial s) := by
  unfold Machine.withdrawExpired; try dsimp only
  repeat' first | with_reducible exact hs | with_reducible apply hP.withdrawFrames | with_reducible apply hP.mapSwap
                | split

theorem SwapStable.heldDispatched {h : Head} (hP : SwapStable h P) (serial : Serial) (s : State) (hs : P s)
    : P (heldDispatched h serial s) := by
  unfold Machine.heldDispatched; try dsimp only
  repeat' first | with_reducible exact hs | with_reducible apply hP.mapSwap | with_reducible apply hP.swapPump
                | with_reducible apply hP.withdrawExpired | split

theorem SwapStable.heldDelivered {h : Head} (hP : SwapStable h P) (s : State) (hs : P s) : P (heldDelivered h s) := by
  unfold Machine.heldDelivered; try dsimp only
  repeat' first | with_reducible exact hs | with_reducible apply hP.mapSwap | with_reducible apply hP.enterDelivered
                | split

theorem SwapStable.heldTaken {h : Head} (hP : SwapStable h P) (counted : Bool) (s : State) (hs : P s)
    : P (heldTaken h counted s) := by
  unfold Machine.heldTaken; try dsimp only
  repeat' first | with_reducible exact hs | with_reducible apply hP.loseWheel | with_reducible apply hP.failMount
                | split

theorem SwapStable.holdingNotice {h : Head} (hP : SwapStable h P) (f : PoolFrame) (sender : Station) (role : Role)
    (s : State) (hs : P s) : P (holdingNotice h f sender role s) := by
  unfold Machine.holdingNotice; try dsimp only
  repeat' first | with_reducible exact hs | with_reducible apply hP.dropToIdle
                | with_reducible apply hP.heldDispatched | with_reducible apply hP.heldDelivered
                | with_reducible apply hP.heldTaken | split

theorem QuietStable.swapNotices {h : Head} (hP : QuietStable h P) (f : PoolFrame) (sender : Station) (role : Role)
    (own : Option Origin) (stamp : Time) (out : PoolOutcome) (s : State) (hs : P s) :
    P (swapNotices h f sender role own stamp out s) := by
  unfold Machine.swapNotices; try dsimp only
  repeat' first | with_reducible exact hs | with_reducible apply hP.swapOutcome
                | with_reducible apply hP.holdingNotice | split

/-! ## One head: the commands -/

theorem SwapStable.claimLifetimeExpire {h : Head} (hP : SwapStable h P) (s : State) (hs : P s)
    : P (claimLifetimeExpire h s) := by
  unfold Machine.claimLifetimeExpire; try dsimp only
  repeat' first | with_reducible exact hs | with_reducible apply hP.mapSwap | with_reducible apply hP.swapWant | split

theorem SwapStable.backoffExpire {h : Head} (hP : SwapStable h P) (s : State) (hs : P s) : P (backoffExpire h s) := by
  unfold Machine.backoffExpire; try dsimp only
  repeat' first | with_reducible exact hs | with_reducible apply hP.endBackoff | split

theorem HeadStable.changePosRise {h : Head} (hP : HeadStable h P) (s : State) (hs : P s) : P (changePosRise h s) := by
  unfold Machine.changePosRise; try dsimp only
  repeat' first | with_reducible exact hs | with_reducible apply hP.mapLevels | with_reducible apply hP.startWindow
                | split

theorem SwapStable.confirmWindowExpire {h : Head} (hP : SwapStable h P) (s : State) (hs : P s)
    : P (confirmWindowExpire h s) := by
  unfold Machine.confirmWindowExpire; try dsimp only
  repeat' first | with_reducible exact hs | with_reducible apply hP.mapSwap | with_reducible apply hP.swapWant | split

theorem SwapStable.swapSubmitAgain {h : Head} (hP : SwapStable h P) (r : SwapRetry) (s : State) (hs : P s)
    : P (swapSubmitAgain h r s) := by
  unfold Machine.swapSubmitAgain; try dsimp only
  repeat' first | with_reducible exact hs | with_reducible apply hP.submitRetryable
                | with_reducible apply hP.swapWant | split

theorem SwapStable.swapFrameRetry {h : Head} (hP : SwapStable h P) (s : State) (hs : P s)
    : P (swapFrameRetry h s) := by
  unfold Machine.swapFrameRetry; try dsimp only
  repeat' first | with_reducible exact hs | with_reducible apply hP.mapSwap
                | with_reducible apply hP.swapSubmitAgain | split

theorem QuietStable.strokeEvaluation {h : Head} (hP : QuietStable h P) (s : State) (hs : P s)
    : P (strokeEvaluation h s) := by
  unfold Machine.strokeEvaluation; try dsimp only
  repeat' first | with_reducible exact hs | with_reducible apply hP.mapCycle
                | with_reducible apply hP.evaluateWorking | split

theorem HeadStable.accountStroke {h : Head} (hP : HeadStable h P) (r : HeadRecord) (s : State) (hs : P s)
    : P (accountStroke h r s) := by
  unfold Machine.accountStroke; try dsimp only
  repeat' first | with_reducible exact hs | exact fun _ => rfl | with_reducible apply hP.requestCheckpoint
                | with_reducible apply hP.count | with_reducible apply hP.mapRecord
                | with_reducible apply hP.strokeEvaluation | split

theorem CountStable.strokeIgnored (hP : CountStable P) (s : State) (hs : P s) : P (strokeIgnored s) := by
  unfold Machine.strokeIgnored; try dsimp only
  repeat' first | with_reducible exact hs | exact fun _ => rfl | with_reducible apply hP.count | split

theorem HeadStable.takeStroke {h : Head} (hP : HeadStable h P) (s : State) (hs : P s) : P (takeStroke h s) := by
  unfold Machine.takeStroke; try dsimp only
  repeat' first | with_reducible exact hs | with_reducible apply hP.accountStroke
                | with_reducible apply hP.strokeIgnored | split

theorem HeadStable.dressHigh {h : Head} (hP : HeadStable h P) (s : State) (hs : P s) : P (dressHigh h s) := by
  unfold Machine.dressHigh; try dsimp only
  repeat' first | with_reducible exact hs | with_reducible apply hP.mapHead | with_reducible apply hP.mapLevels
                | split

theorem HeadStable.dressStroke {h : Head} (hP : HeadStable h P) (fell : Bool) (s : State) (hs : P s)
    : P (dressStroke h fell s) := by
  unfold Machine.dressStroke; try dsimp only
  repeat' first | with_reducible exact hs | with_reducible apply hP.takeStroke | with_reducible apply hP.dressHigh
                | split

theorem QuietStable.openCycle {h : Head} (hP : QuietStable h P) (f : Family) (s : State) (hs : P s)
    : P (openCycle h f s) := by
  unfold Machine.openCycle; try dsimp only
  repeat' first | with_reducible exact hs | with_reducible apply hP.mapHead | split

theorem CountStable.cycleRefused (hP : CountStable P) (s : State) (hs : P s) : P (cycleRefused s) := by
  unfold Machine.cycleRefused; try dsimp only
  repeat' first | with_reducible exact hs | exact fun _ => rfl | with_reducible apply hP.count | split

theorem HeadStable.setGrind {h : Head} (hP : HeadStable h P) (g : Bool) (s : State) (hs : P s)
    : P (setGrind g h s) := by
  unfold Machine.setGrind; try dsimp only
  repeat' first | with_reducible exact hs | with_reducible apply hP.mapLevels | split

theorem HeadStable.grindRise {h : Head} (hP : HeadStable h P) (s : State) (hs : P s) : P (grindRise h s) := by
  unfold Machine.grindRise; try dsimp only
  repeat' first | with_reducible exact hs | with_reducible apply hP.openCycle | with_reducible apply hP.cycleRefused
                | with_reducible apply hP.setGrind | split

theorem QuietStable.countPart {h : Head} (hP : QuietStable h P) (s : State) (hs : P s) : P (countPart h s) := by
  unfold Machine.countPart; try dsimp only
  repeat' first | with_reducible exact hs | with_reducible apply hP.mapRecord | with_reducible apply hP.setCondition
                | split

theorem QuietStable.endCycle {h : Head} (hP : QuietStable h P) (c : Cycle) (s : State) (hs : P s)
    : P (endCycle h c s) := by
  unfold Machine.endCycle; try dsimp only
  repeat' first | with_reducible exact hs | with_reducible apply hP.requestCheckpoint
                | with_reducible apply hP.evaluateWorking | with_reducible apply hP.closeCycle
                | with_reducible apply hP.countPart | split

theorem HeadStable.grindFall {h : Head} (hP : HeadStable h P) (s : State) (hs : P s) : P (grindFall h s) := by
  unfold Machine.grindFall; try dsimp only
  repeat' first | with_reducible exact hs | with_reducible apply hP.setGrind | with_reducible apply hP.endCycle
                | split

theorem SwapStable.ackSwap {h : Head} (hP : SwapStable h P) (s : State) (hs : P s) : P (ackSwap h s) := by
  unfold Machine.ackSwap; try dsimp only
  repeat' first | with_reducible exact hs | with_reducible apply hP.mapSwap | with_reducible apply hP.claimTest
                | split

theorem QuietStable.ackHead {h : Head} (hP : QuietStable h P) (s : State) (hs : P s) : P (ackHead h s) := by
  unfold Machine.ackHead; try dsimp only
  repeat' first | with_reducible exact hs | with_reducible apply hP.evaluateHead
                | with_reducible apply hP.dropRecord | split

theorem HeadStable.setContact {h : Head} (hP : HeadStable h P) (b : Bool) (s : State) (hs : P s)
    : P (setContact b h s) := by
  unfold Machine.setContact; try dsimp only
  repeat' first | with_reducible exact hs | with_reducible apply hP.mapLevels | split

theorem HeadStable.contactRise {h : Head} (hP : HeadStable h P) (s : State) (hs : P s) : P (contactRise h s) := by
  unfold Machine.contactRise; try dsimp only
  repeat' first | with_reducible exact hs | with_reducible apply hP.mapCycle | with_reducible apply hP.setContact
                | split

theorem HeadStable.overlongContact {h : Head} (hP : HeadStable h P) (s : State) (hs : P s)
    : P (overlongContact h s) := by
  unfold Machine.overlongContact; try dsimp only
  repeat' first | with_reducible exact hs | with_reducible apply hP.mapCycle | with_reducible apply hP.giveVerdict
                | split

theorem HeadStable.overlongAtFall {h : Head} (hP : HeadStable h P) (s : State) (hs : P s)
    : P (overlongAtFall h s) := by
  unfold Machine.overlongAtFall; try dsimp only
  repeat' first | with_reducible exact hs | with_reducible apply hP.overlongContact | split

theorem HeadStable.contactFall {h : Head} (hP : HeadStable h P) (s : State) (hs : P s) : P (contactFall h s) := by
  unfold Machine.contactFall; try dsimp only
  repeat' first | with_reducible exact hs | with_reducible apply hP.mapCycle | with_reducible apply hP.setContact
                | with_reducible apply hP.overlongAtFall | split

theorem HeadStable.maxContactExpire {h : Head} (hP : HeadStable h P) (s : State) (hs : P s)
    : P (maxContactExpire h s) := by
  unfold Machine.maxContactExpire; try dsimp only
  repeat' first | with_reducible exact hs | with_reducible apply hP.overlongContact | split

theorem HeadStable.contactTimeoutExpire {h : Head} (hP : HeadStable h P) (s : State) (hs : P s)
    : P (contactTimeoutExpire h s) := by
  unfold Machine.contactTimeoutExpire; try dsimp only
  repeat' first | with_reducible exact hs | with_reducible apply hP.mapCycle | with_reducible apply hP.giveVerdict
                | split

theorem HeadStable.loadPulse {h : Head} (hP : HeadStable h P) (s : State) (hs : P s) : P (loadPulse h s) := by
  unfold Machine.loadPulse; try dsimp only
  repeat' first | with_reducible exact hs | with_reducible apply hP.mapCycle | with_reducible apply hP.mapLevels
                | split

theorem HeadStable.endGate {h : Head} (hP : HeadStable h P) (c : Cycle) (contact : Time) (g : Gate) (s : State)
    (hs : P s) : P (endGate h c contact g s) := by
  unfold Machine.endGate; try dsimp only
  repeat' first | with_reducible exact hs | with_reducible apply hP.mapCycle | with_reducible apply hP.giveVerdict
                | split

theorem HeadStable.loadGateEnd {h : Head} (hP : HeadStable h P) (s : State) (hs : P s) : P (loadGateEnd h s) := by
  unfold Machine.loadGateEnd; try dsimp only
  repeat' first | with_reducible exact hs | with_reducible apply hP.endGate | split

theorem QuietStable.reportRetry {h : Head} (hP : QuietStable h P) (s : State) (hs : P s) : P (reportRetry h s) := by
  unfold Machine.reportRetry; try dsimp only
  repeat' first | with_reducible exact hs | with_reducible apply hP.mapHead | with_reducible apply hP.submitReport
                | split

/-! ## The store unit (chapter 10) -/

theorem DepotStable.clearReleasePending (hP : DepotStable P) (serial : Serial) (s : State) (hs : P s)
    : P (clearReleasePending serial s) := by
  unfold Machine.clearReleasePending; try dsimp only
  repeat' first | with_reducible exact hs | with_reducible apply hP.mapStore | split

theorem DepotStable.requestFailed (hP : DepotStable P) (f : PoolFrame) (s : State) (hs : P s)
    : P (requestFailed f s) := by
  unfold Machine.requestFailed; try dsimp only
  repeat' first | with_reducible exact hs | with_reducible apply hP.clearReleasePending | split

theorem DepotStable.storeSubmitOne (hP : DepotStable P) (s : State) (hs : P s) : P (storeSubmitOne s) := by
  unfold Machine.storeSubmitOne; try dsimp only
  repeat' first | with_reducible exact hs | with_reducible apply hP.submit | with_reducible apply hP.mapStore
                | with_reducible apply hP.requestFailed | split

theorem DepotStable.storePumpFrom (hP : DepotStable P) (n : Nat) (s : State) (hs : P s) : P (storePumpFrom n s) := by
  induction n generalizing s with
  | zero => exact hs
  | succ n ih =>
    unfold Machine.storePumpFrom
    split
    · exact hs
    · exact ih _ (hP.storeSubmitOne _ hs)

theorem DepotStable.storePump (hP : DepotStable P) (s : State) (hs : P s) : P (storePump s) := hP.storePumpFrom _ _ hs

theorem DepotStable.addRequest (hP : DepotStable P) (f : PoolFrame) (s : State) (hs : P s) : P (addRequest f s) := by
  unfold Machine.addRequest; try dsimp only
  repeat' first | with_reducible exact hs | with_reducible apply hP.mapStore | with_reducible apply hP.storePump
                | split

theorem DepotStable.setJobFrame (hP : DepotStable P) (f : PoolFrame) (s : State) (hs : P s)
    : P (setJobFrame f s) := by
  unfold Machine.setJobFrame; try dsimp only
  repeat' first | with_reducible exact hs | with_reducible apply hP.mapStore | with_reducible apply hP.storePump
                | split

theorem DepotStable.queueJob (hP : DepotStable P) (j : Job) (s : State) (hs : P s) : P (queueJob j s) := by
  unfold Machine.queueJob; try dsimp only
  repeat' first | with_reducible exact hs | with_reducible apply hP.mapStore | split

theorem DepotStable.queueReturn (hP : DepotStable P) (e : Entry) (key : Time) (s : State) (hs : P s)
    : P (queueReturn e key s) := by
  unfold Machine.queueReturn; try dsimp only
  repeat' first | with_reducible exact hs | with_reducible apply hP.queueJob | split

theorem DepotStable.queueFetch (hP : DepotStable P) (e : Entry) (key : Time) (s : State) (hs : P s)
    : P (queueFetch e key s) := by
  unfold Machine.queueFetch; try dsimp only
  repeat' first | with_reducible exact hs | with_reducible apply hP.addRequest | with_reducible apply hP.queueJob
                | split

theorem DepotStable.rescan (hP : DepotStable P) (s : State) (hs : P s) : P (rescan s) := by
  unfold Machine.rescan; try dsimp only
  repeat' first | with_reducible exact hs | with_reducible apply hP.queueReturn | split

theorem DepotStable.rescans (hP : DepotStable P) (n : Nat) (s : State) (hs : P s) : P (rescans n s) := by
  induction n generalizing s with
  | zero => exact hs
  | succ n ih => exact ih _ (hP.rescan _ hs)

theorem DepotStable.strobeTest (hP : DepotStable P) (s : State) (hs : P s) : P (strobeTest s) := by
  unfold Machine.strobeTest; try dsimp only
  repeat' first | with_reducible exact hs | with_reducible apply hP.mapStore | split

theorem DepotStable.endJob (hP : DepotStable P) (s : State) (hs : P s) : P (endJob s) := by
  unfold Machine.endJob; try dsimp only
  repeat' first | with_reducible exact hs | with_reducible apply hP.mapStore | with_reducible apply hP.rescan | split

theorem DepotStable.setPhase (hP : DepotStable P) (p : JobPhase) (s : State) (hs : P s) : P (setPhase p s) := by
  unfold Machine.setPhase; try dsimp only
  repeat' first | with_reducible exact hs | with_reducible apply hP.mapStore | split

theorem DepotStable.moveRack (hP : DepotStable P) (serial : Serial) (s : State) (hs : P s)
    : P (moveRack serial s) := by
  unfold Machine.moveRack; try dsimp only
  repeat' first | with_reducible exact hs | with_reducible apply hP.mapStore | with_reducible apply hP.setJobFrame
                | split

theorem DepotStable.waitingRack (hP : DepotStable P) (s : State) (hs : P s) : P (waitingRack s) := by
  unfold Machine.waitingRack; try dsimp only
  repeat' first | with_reducible exact hs | with_reducible apply hP.moveRack | split

theorem DepotStable.claimWatchTest (hP : DepotStable P) (serial : Serial) (s : State) (hs : P s)
    : P (claimWatchTest serial s) := by
  unfold Machine.claimWatchTest; try dsimp only
  repeat' first | with_reducible exact hs | with_reducible apply hP.mapStore | with_reducible apply hP.addRequest
                | split

theorem DepotStable.livenessNotice (hP : DepotStable P) (s : State) (hs : P s) : P (livenessNotice s) := by
  unfold Machine.livenessNotice
  split
  · exact foldl_stable _ (fun x s hs => hP.claimWatchTest x s hs) _ s hs
  · exact hs

theorem DepotStable.dropStarting (hP : DepotStable P) (serial : Serial) (s : State) (hs : P s)
    : P (dropStarting serial s) := by
  unfold Machine.dropStarting; try dsimp only
  repeat' first | with_reducible exact hs | with_reducible apply hP.withdrawFrames
                | with_reducible apply hP.storePump | with_reducible apply hP.endJob
                | with_reducible apply hP.claimWatchTest | split

theorem DepotStable.trackFrom (hP : DepotStable P) (low : Nat) (s : State) (hs : P s) : P (trackFrom low s) := by
  unfold Machine.trackFrom; try dsimp only
  repeat' first | with_reducible exact hs | with_reducible apply hP.mapStore | with_reducible apply hP.storePump
                | split

theorem DepotStable.checkpointChanges (hP : DepotStable P) (changes : List (Option Entry × Option Entry))
    (s : State) (hs : P s) : P (checkpointChanges changes s) := by
  refine foldl_stable _ (fun c s hs => ?_) _ s hs
  split
  · exact hP.requestCheckpoint _ _ hs
  · exact hP.requestCheckpoint _ _ hs
  · exact hs

theorem DepotStable.jobArises (hP : DepotStable P) (f : PoolFrame) (changes : List (Option Entry × Option Entry))
    (claimed : Option Entry) (stamp : Time) (s : State) (hs : P s) : P (jobArises f changes claimed stamp s) := by
  unfold Machine.jobArises; try dsimp only
  repeat' first | with_reducible exact hs | with_reducible apply hP.queueReturn | with_reducible apply hP.queueFetch
                | split

theorem DepotStable.startingTaken (hP : DepotStable P) (f : PoolFrame) (before after : Table) (s : State)
    (hs : P s) : P (startingTaken f before after s) := by
  unfold Machine.startingTaken; try dsimp only
  repeat' first | with_reducible exact hs | with_reducible apply hP.dropStarting | split

theorem DepotStable.jobOutcome (hP : DepotStable P) (f : PoolFrame) (out : PoolOutcome) (s : State) (hs : P s)
    : P (jobOutcome f out s) := by
  unfold Machine.jobOutcome; try dsimp only
  repeat' first | with_reducible exact hs | with_reducible apply hP.mapStore | with_reducible apply hP.strobeTest
                | with_reducible apply hP.endJob | with_reducible apply hP.setPhase
                | with_reducible apply hP.moveRack | with_reducible apply hP.dropStarting | split

theorem DepotStable.storeOutcome (hP : DepotStable P) (f : PoolFrame) (out : PoolOutcome) (s : State) (hs : P s)
    : P (storeOutcome f out s) := by
  unfold Machine.storeOutcome; try dsimp only
  repeat' first | with_reducible exact hs | with_reducible apply hP.requestFailed
                | with_reducible apply hP.storePump | with_reducible apply hP.trackFrom
                | with_reducible apply hP.jobOutcome | split

theorem DepotStable.storeApplied (hP : DepotStable P) (f : PoolFrame) (before after : Table)
    (claimed : Option Entry) (stamp : Time) (own : Bool) (out : PoolOutcome) (s : State) (hs : P s) :
    P (storeApplied f before after claimed stamp own out s) := by
  unfold Machine.storeApplied; try dsimp only
  repeat' first | with_reducible exact hs | with_reducible apply hP.mapStore | with_reducible apply hP.rescans
                | with_reducible apply hP.waitingRack | with_reducible apply hP.checkpointChanges
                | with_reducible apply hP.jobArises | with_reducible apply hP.startingTaken
                | with_reducible apply hP.storeOutcome | split

theorem DepotStable.storeNotice (hP : DepotStable P) (f : PoolFrame) (before : Table) (own : Bool) (stamp : Time)
    (out : PoolOutcome) (s : State) (hs : P s) : P (storeNotice f before own stamp out s) := by
  unfold Machine.storeNotice; try dsimp only
  repeat' first | with_reducible exact hs | with_reducible apply hP.storeOutcome
                | with_reducible apply hP.storeApplied | split

theorem DepotStable.storeNotSent (hP : DepotStable P) (f : PoolFrame) (s : State) (hs : P s)
    : P (storeNotSent f s) := by
  unfold Machine.storeNotSent; try dsimp only
  repeat' first | with_reducible exact hs | with_reducible apply hP.mapStore | with_reducible apply hP.requestFailed
                | with_reducible apply hP.storePump | split

theorem DepotStable.storeResync (hP : DepotStable P) (s : State) (hs : P s) : P (storeResync s) := by
  unfold Machine.storeResync; try dsimp only
  repeat' first | with_reducible exact hs | with_reducible apply hP.withdrawImagePages
                | with_reducible apply hP.mapStore | split

theorem DepotStable.requestImagePages (hP : DepotStable P) (s : State) (hs : P s) : P (requestImagePages s) :=
  foldl_stable _ (fun id s hs => hP.requestCheckpoint id s hs) _ s hs

theorem DepotStable.takeHeldCompletion (hP : DepotStable P) (s : State) (hs : P s) : P (takeHeldCompletion s) := by
  unfold Machine.takeHeldCompletion; try dsimp only
  repeat' first | with_reducible exact hs | with_reducible apply hP.mapStore | with_reducible apply hP.setJobFrame
                | with_reducible apply hP.endJob | split

theorem DepotStable.reconcileStore (hP : DepotStable P) (s : State) (hs : P s) : P (reconcileStore s) := by
  unfold Machine.reconcileStore; dsimp only
  refine hP.takeHeldCompletion _ (hP.trackFrom _ _ ?_)
  refine foldl_stable _ (fun e s hs => hP.queueFetch e s.now s hs) _ _ (hP.mapStore _ _ ?_)
  exact foldl_stable _ (fun e s hs => hP.queueReturn e s.now s hs) _ _ (hP.requestImagePages s hs)

/-! ## The commands of the store unit -/

theorem CountStable.countIgnored (hP : CountStable P) (s : State) (hs : P s) : P (countIgnored s) := by
  unfold Machine.countIgnored; try dsimp only
  repeat' first | with_reducible exact hs | exact fun _ => rfl | with_reducible apply hP.count | split

theorem StoreStable.tagRequest (hP : StoreStable P) (f : PoolFrame) (s : State) (hs : P s) : P (tagRequest f s) := by
  unfold Machine.tagRequest; try dsimp only
  repeat' first | with_reducible exact hs | with_reducible apply hP.addRequest
                | with_reducible apply hP.countIgnored | split

theorem StoreStable.takeRackTag (hP : StoreStable P) (r : TagRecord) (s : State) (hs : P s)
    : P (takeRackTag r s) := by
  unfold Machine.takeRackTag; try dsimp only
  repeat' first | with_reducible exact hs | with_reducible apply hP.countIgnored
                | with_reducible apply hP.tagRequest | split

theorem StoreStable.storeTagRecord (hP : StoreStable P) (s : State) (hs : P s) : P (storeTagRecord s) := by
  unfold Machine.storeTagRecord; try dsimp only
  repeat' first | with_reducible exact hs | with_reducible apply hP.releaseRecord
                | with_reducible apply hP.takeRackTag | split

theorem DepotStable.unqueue (hP : DepotStable P) (j : Job) (s : State) (hs : P s) : P (unqueue j s) := by
  unfold Machine.unqueue; try dsimp only
  repeat' first | with_reducible exact hs | with_reducible apply hP.mapStore | split

theorem DepotStable.startReturn (hP : DepotStable P) (j : Job) (s : State) (hs : P s) : P (startReturn j s) := by
  unfold Machine.startReturn; try dsimp only
  repeat' first | with_reducible exact hs | with_reducible apply hP.mapStore | with_reducible apply hP.rescan
                | with_reducible apply hP.strobeTest | with_reducible apply hP.unqueue | split

theorem DepotStable.startFetch (hP : DepotStable P) (j : Job) (s : State) (hs : P s) : P (startFetch j s) := by
  unfold Machine.startFetch; try dsimp only
  repeat' first | with_reducible exact hs | with_reducible apply hP.mapStore | with_reducible apply hP.setJobFrame
                | with_reducible apply hP.rescan | with_reducible apply hP.unqueue | split

theorem DepotStable.dropSilent (hP : DepotStable P) (j : Job) (s : State) (hs : P s) : P (dropSilent j s) := by
  unfold Machine.dropSilent; try dsimp only
  repeat' first | with_reducible exact hs | with_reducible apply hP.addRequest | with_reducible apply hP.rescan
                | with_reducible apply hP.unqueue | split

theorem DepotStable.startTest (hP : DepotStable P) (n : Nat) (s : State) (hs : P s) : P (startTest n s) := by
  induction n generalizing s with
  | zero => exact hs
  | succ n ih =>
    unfold Machine.startTest
    split
    · split
      · split
        · exact hP.startReturn _ _ hs
        · split
          · exact ih _ (hP.dropSilent _ _ hs)
          · exact hP.startFetch _ _ hs
      · exact hs
    · exact hs

theorem DepotStable.takeReady (hP : DepotStable P) (ready : Bool) (s : State) (hs : P s) : P (takeReady ready s) := by
  unfold Machine.takeReady; try dsimp only
  repeat' first | with_reducible exact hs | with_reducible apply hP.setReady | with_reducible apply hP.strobeTest
                | split

theorem DepotStable.jobStart (hP : DepotStable P) (ready : Bool) (s : State) (hs : P s) : P (jobStart ready s) :=
  hP.startTest _ _ (hP.takeReady ready s hs)

theorem DepotStable.jobStrobeEnd (hP : DepotStable P) (ready : Bool) (s : State) (hs : P s)
    : P (jobStrobeEnd ready s) := by
  unfold Machine.jobStrobeEnd; try dsimp only
  repeat' first | with_reducible exact hs | with_reducible apply hP.mapStore | with_reducible apply hP.takeReady
                | split

theorem DepotStable.gantryReadyRise (hP : DepotStable P) (s : State) (hs : P s) : P (gantryReadyRise s) := by
  unfold Machine.gantryReadyRise; try dsimp only
  repeat' first | with_reducible exact hs | with_reducible apply hP.mapStore | with_reducible apply hP.takeReady
                | split

theorem DepotStable.endMove (hP : DepotStable P) (f : PoolFrame) (held : HeldCompletion) (s : State) (hs : P s)
    : P (endMove f held s) := by
  unfold Machine.endMove; try dsimp only
  repeat' first | with_reducible exact hs | with_reducible apply hP.mapStore | with_reducible apply hP.setJobFrame
                | with_reducible apply hP.setPhase | split

theorem DepotStable.gantryDone (hP : DepotStable P) (ready : Bool) (s : State) (hs : P s)
    : P (gantryDone ready s) := by
  unfold Machine.gantryDone; dsimp only
  have h := hP.takeReady ready _ (hP.setDone s hs)
  split
  · exact hP.endMove _ _ _ h
  · exact h

theorem DepotStable.gantryFault (hP : DepotStable P) (ready : Bool) (s : State) (hs : P s) :
    P (gantryFault ready s) := by
  unfold Machine.gantryFault; dsimp only
  have h := hP.takeReady ready _ (hP.mapStore (fun u => { u with faultLatch := true }) _ (hP.setFault s hs))
  split
  · exact hP.endMove _ _ _ h
  · exact h

theorem DepotStable.claimWatchExpire (hP : DepotStable P) (serial : Serial) (s : State) (hs : P s)
    : P (claimWatchExpire serial s) := by
  unfold Machine.claimWatchExpire; try dsimp only
  repeat' first | with_reducible exact hs | with_reducible apply hP.mapStore
                | with_reducible apply hP.claimWatchTest | split

theorem DepotStable.retryTrack (hP : DepotStable P) (s : State) (hs : P s) : P (retryTrack s) := by
  unfold Machine.retryTrack; try dsimp only
  repeat' first | with_reducible exact hs | with_reducible apply hP.mapStore | with_reducible apply hP.trackFrom
                | split

theorem DepotStable.storeFrameRetry (hP : DepotStable P) (s : State) (hs : P s) : P (storeFrameRetry s) := by
  unfold Machine.storeFrameRetry; try dsimp only
  repeat' first | with_reducible exact hs | with_reducible apply hP.mapStore | with_reducible apply hP.storePump
                | with_reducible apply hP.retryTrack | split

/-! ## Both heads, and the transfers of the image unit (chapter 6) -/

theorem UnitStable.reconcileGrinder (hP : UnitStable P) (s : State) (hs : P s) : P (reconcileGrinder s) := by
  unfold Machine.reconcileGrinder; try dsimp only
  repeat' first | with_reducible exact hs | with_reducible apply (hP.head _).claimTest
                | with_reducible apply (hP.head _).suitTest | with_reducible apply (hP.head _).swapAdopt
                | with_reducible apply (hP.head _).reconcileHead | with_reducible apply (hP.head _).reportAtSync
                | split

theorem UnitStable.swapTagRecord (hP : UnitStable P) (b : Bool) (s : State) (hs : P s) : P (swapTagRecord b s) := by
  unfold Machine.swapTagRecord
  split
  · dsimp only
    split
    · split
      · exact (hP.head _).takeHeadTag _ _ _ ((hP.head _).mapLevels _ _ (hP.releaseRecord _ hs))
      · exact (hP.head .h0).tagIgnored _ (hP.releaseRecord _ hs)
    · exact (hP.head .h0).tagIgnored _ (hP.releaseRecord _ hs)
  · exact hs

theorem UnitStable.ackEvent (hP : UnitStable P) (fell : Bool) (s : State) (hs : P s) : P (ackEvent fell s) := by
  unfold Machine.ackEvent; dsimp only
  split
  · exact hs
  have h := hP.mapStop (fun u => { u with latch := false }) _ (hP.setAck s hs)
  split
  · exact (hP.head _).ackHead _ ((hP.head _).ackHead _ ((hP.head _).ackSwap _ ((hP.head _).ackSwap _ h)))
  · exact h

theorem UnitStable.submitImage (hP : UnitStable P) (p : Payload) (s : State) (hs : P s) : P (submitImage p s).1 := by
  unfold Machine.submitImage; try dsimp only
  repeat' first | with_reducible exact hs | with_reducible apply hP.submit | with_reducible apply hP.mapImage | split

theorem UnitStable.withdrawImage (hP : UnitStable P) (p : Payload → Bool) (s : State) (hs : P s)
    : P (withdrawImage p s) := by
  unfold Machine.withdrawImage; try dsimp only
  repeat' first | with_reducible exact hs | with_reducible apply hP.withdrawFrames
                | with_reducible apply hP.mapImage | split

theorem UnitStable.endTransfer (hP : UnitStable P) (s : State) (hs : P s) : P (endTransfer s) := by
  unfold Machine.endTransfer; try dsimp only
  repeat' first | with_reducible exact hs | with_reducible apply hP.mapImage | with_reducible apply hP.withdrawImage
                | split

theorem UnitStable.startTransfer (hP : UnitStable P) (restarts : Nat) (s : State) (hs : P s)
    : P (startTransfer restarts s) := by
  unfold Machine.startTransfer; try dsimp only
  repeat' first | with_reducible exact hs | with_reducible apply hP.mapImage | with_reducible apply hP.submitImage
                | with_reducible apply hP.endTransfer | split

theorem UnitStable.takeImageAsk (hP : UnitStable P) (s : State) (hs : P s) : P (takeImageAsk s) := by
  unfold Machine.takeImageAsk; try dsimp only
  repeat' first | with_reducible exact hs | with_reducible apply hP.mapImage | with_reducible apply hP.startTransfer
                | split

theorem UnitStable.transferDone (hP : UnitStable P) (s : State) (hs : P s) : P (transferDone s) := by
  unfold Machine.transferDone; try dsimp only
  repeat' first | with_reducible exact hs | with_reducible apply hP.mapImage | with_reducible apply hP.startTransfer
                | split

theorem UnitStable.partSent (hP : UnitStable P) (k : Nat) (s : State) (hs : P s) : P (partSent k s) := by
  unfold Machine.partSent; try dsimp only
  repeat' first | with_reducible exact hs | with_reducible apply hP.mapImage | with_reducible apply hP.submitImage
                | with_reducible apply hP.endTransfer | with_reducible apply hP.transferDone | split

theorem UnitStable.generationNotice (hP : UnitStable P) (s : State) (hs : P s) : P (generationNotice s) := by
  unfold Machine.generationNotice; try dsimp only
  repeat' first | with_reducible exact hs | with_reducible apply hP.mapImage | with_reducible apply hP.withdrawImage
                | with_reducible apply hP.endTransfer | with_reducible apply hP.startTransfer | split

theorem UnitStable.fillImageBuffer (hP : UnitStable P) (s : State) (hs : P s) : P (fillImageBuffer s) := by
  unfold Machine.fillImageBuffer; try dsimp only
  repeat' first | with_reducible exact hs | with_reducible apply hP.mapImage | split

theorem UnitStable.startAskTimer (hP : UnitStable P) (s : State) (hs : P s) : P (startAskTimer s) := by
  unfold Machine.startAskTimer; try dsimp only
  repeat' first | with_reducible exact hs | with_reducible apply hP.mapImage | split

theorem UnitStable.restartAskTimer (hP : UnitStable P) (s : State) (hs : P s) : P (restartAskTimer s) := by
  unfold Machine.restartAskTimer; try dsimp only
  repeat' first | with_reducible exact hs | with_reducible apply hP.startAskTimer | split

theorem UnitStable.imageSent (hP : UnitStable P) (p : Payload) (s : State) (hs : P s) : P (imageSent p s) := by
  unfold Machine.imageSent; try dsimp only
  repeat' first | with_reducible exact hs | with_reducible apply hP.partSent | with_reducible apply hP.startAskTimer
                | split

theorem UnitStable.imageNotSent (hP : UnitStable P) (p : Payload) (s : State) (hs : P s) : P (imageNotSent p s) := by
  unfold Machine.imageNotSent; try dsimp only
  repeat' first | with_reducible exact hs | with_reducible apply hP.endTransfer
                | with_reducible apply hP.startAskTimer | split

theorem UnitStable.reconcile (hP : UnitStable P) (s : State) (hs : P s) : P (reconcile s) := by
  unfold Machine.reconcile; try dsimp only
  repeat' first | with_reducible exact hs | with_reducible apply hP.store.reconcileStore
                | with_reducible apply hP.reconcileGrinder | split

theorem UnitStable.setWatch (hP : UnitStable P) (station : Station) (generation : Word16) (s : State) (hs : P s)
    : P (setWatch station generation s) := by
  unfold Machine.setWatch; try dsimp only
  repeat' first | with_reducible exact hs | with_reducible apply hP.mapImage | split

theorem UnitStable.takePart0 (hP : UnitStable P) (sender : Station) (p : ImagePartHead) (s : State) (hs : P s)
    : P (takePart0 sender p s) := by
  unfold Machine.takePart0; try dsimp only
  repeat' first | with_reducible exact hs | with_reducible apply hP.endTransfer | with_reducible apply hP.setWatch
                | split

theorem UnitStable.watchPart (hP : UnitStable P) (sender : Station) (p : ImagePartHead) (s : State) (hs : P s)
    : P (watchPart sender p s) := by
  unfold Machine.watchPart; try dsimp only
  repeat' first | with_reducible exact hs | exact fun _ => rfl | with_reducible apply hP.count
                | with_reducible apply hP.mapImage | split

theorem UnitStable.imageWatchExpire (hP : UnitStable P) (s : State) (hs : P s) : P (imageWatchExpire s) := by
  unfold Machine.imageWatchExpire; try dsimp only
  repeat' first | with_reducible exact hs | with_reducible apply hP.mapImage | split

theorem UnitStable.imageResync (hP : UnitStable P) (s : State) (hs : P s) : P (imageResync s) := by
  unfold Machine.imageResync; try dsimp only
  repeat' first | with_reducible exact hs | with_reducible apply hP.mapImage | with_reducible apply hP.withdrawImage
                | with_reducible apply hP.endTransfer | split

end Sys2Proof.Machine
end

