-- ==== Sys2Proof/Laws/Cell.lean ====
section
/-! SUPPORT. What the commands of the cell line can do to the state of a station. `CellStable P` says that `P` survives each
primitive update that chapters 1 to 10 make; then `P` survives each of their operations, by one lemma for each. An
invariant of the queues, of the digest, or of a part that these chapters do not write is an instance. -/
namespace Sys2Proof.Machine
open State Sys2Proof.Config

/-- A change of the frame engine that keeps the bounds of both queues (R31, R34). -/
structure FeStep (f f' : FrameEngine) : Prop where
  tx : f'.txQueue.length + f'.admissionsDue ≤ f.txQueue.length + f.admissionsDue
    ∨ f'.txQueue.length + f'.admissionsDue ≤ txCapacity
  rx : f'.rxQueue.length ≤ f.rxQueue.length ∨ f'.rxQueue.length ≤ rxCapacity

/-- A change of the pool engine after which its digest is still the one of its table (R66). -/
def PoolStep (p p' : PoolEngine) : Prop :=
  (p'.table = p.table ∧ p'.digest = p.digest) ∨ p'.digest = tableDigest p'.table

theorem FeStep.same {f f' : FrameEngine} (ht : f'.txQueue = f.txQueue) (ha : f'.admissionsDue = f.admissionsDue)
    (hr : f'.rxQueue = f.rxQueue) : FeStep f f' :=
  ⟨.inl (by rw [ht, ha]), .inl (by rw [hr])⟩

theorem UnitFe.step {f f' : FrameEngine} (h : UnitFe f f') : FeStep f f' :=
  ⟨h.bound, .inl (by rw [h.rest])⟩

theorem PoolStep.same {p p' : PoolEngine} (ht : p'.table = p.table) (hd : p'.digest = p.digest) : PoolStep p p' :=
  .inl ⟨ht, hd⟩

/-- `P` survives every primitive update of chapters 1 to 10. -/
structure CellStable (P : State → Prop) : Prop where
  mapHead : ∀ h f s, P s → P (s.mapHead h f)
  mapSwap : ∀ h f s, P s → P (s.mapSwap h f)
  mapStore : ∀ f s, P s → P (s.mapStore f)
  mapImage : ∀ f s, P s → P (s.mapImage f)
  mapStop : ∀ f s, P s → P (s.mapStop f)
  mapTag : ∀ f s, P s → P (s.mapTag f)
  mapPeers : ∀ f s, P s → P (s.mapPeers f)
  mapLine : ∀ f s, P s → P (s.mapLine f)
  mapCount : ∀ f s, P s → P (s.count f)
  setLevels : ∀ l s, P s → P { s with levels := l }
  setTransmitter : ∀ t s, P s → P { s with transmitter := t }
  setLineFault : ∀ b s, P s → P { s with lineFault := b }
  mapPending : ∀ g s, (∀ l, ∃ p, g l = { l with pending := p }) → P s → P (s.mapLife g)
  mapFe : ∀ g s, FeStep s.fe (g s.fe) → P s → P (s.mapFe g)
  mapPool : ∀ g s, PoolStep s.pool (g s.pool) → P s → P (s.mapPool g)

variable {P : State → Prop}

set_option linter.unusedTactic false
set_option linter.unreachableTactic false

theorem CellStable.count (hP : CellStable P) (f : Counters → Counters) (s : State) (hs : P s) : P (s.count f) :=
  hP.mapCount f s hs

theorem CellStable.base (hP : CellStable P) : BaseStable P where
  mapPending := hP.mapPending
  mapFe := fun g s h hs => hP.mapFe g s h.step hs

theorem CellStable.counting (hP : CellStable P) : CountStable P where
  count := fun f s _ hs => hP.mapCount f s hs
  mapTag := hP.mapTag

theorem CellStable.unit (hP : CellStable P) : UnitStable P where
  toBaseStable := hP.base
  toCountStable := hP.counting
  mapStop := hP.mapStop
  lineBusy := fun s hs => hP.mapLine _ s hs
  setTransmitter := hP.setTransmitter
  head := fun h =>
    { toBaseStable := hP.base, toCountStable := hP.counting, mapStop := hP.mapStop
      lineBusy := fun s hs => hP.mapLine _ s hs
      setTransmitter := hP.setTransmitter, mapHead := hP.mapHead h, mapSwap := hP.mapSwap h
      mapLevels := fun _ s hs => hP.setLevels _ s hs }
  store :=
    { toBaseStable := hP.base, toCountStable := hP.counting, mapStore := hP.mapStore
      setReady := fun _ s hs => hP.setLevels _ s hs, setDone := fun s hs => hP.setLevels _ s hs
      setFault := fun s hs => hP.setLevels _ s hs }
  mapImage := hP.mapImage
  setAck := fun s hs => hP.setLevels _ s hs

/-! ## The rest of the image unit (chapter 6) -/

theorem CellStable.setDoubtful (hP : CellStable P) (s : State) (hs : P s) : P (setDoubtful s) := by
  unfold Machine.setDoubtful; try dsimp only
  repeat' first | with_reducible exact hs | exact FeStep.same rfl rfl rfl | with_reducible apply hP.unit.endTransfer
                | with_reducible apply hP.mapFe | split

theorem CellStable.ask (hP : CellStable P) (s : State) (hs : P s) : P (ask s) := by
  unfold Machine.ask; try dsimp only
  repeat' first | with_reducible exact hs | exact PoolStep.same rfl rfl | exact .inr rfl
                | with_reducible apply hP.unit.submit | with_reducible apply hP.mapImage
                | with_reducible apply hP.mapPool | split

theorem CellStable.enterSynced (hP : CellStable P) (t : Table) (g : Word16) (s : State) (hs : P s) :
    P (enterSynced t g s) :=
  hP.unit.reconcile _ (hP.mapPool _ _ (.inr rfl) (hP.mapImage _ _ hs))

theorem CellStable.completeCollection (hP : CellStable P) (c : Collection) (digest : Word16) (s : State) (hs
    : P s) : P (completeCollection c digest s) := by
  unfold Machine.completeCollection; try dsimp only
  repeat' first | with_reducible exact hs | with_reducible apply hP.mapImage | with_reducible apply hP.ask
                | with_reducible apply hP.enterSynced | split

theorem CellStable.keepCollection (hP : CellStable P) (c : Collection) (digest : Option Word16) (s : State) (hs
    : P s) : P (keepCollection c digest s) := by
  unfold Machine.keepCollection; try dsimp only
  repeat' first | with_reducible exact hs | with_reducible apply hP.mapImage
                | with_reducible apply hP.unit.restartAskTimer | with_reducible apply hP.completeCollection | split

theorem CellStable.collect (hP : CellStable P) (sender : Station) (p : ImagePartHead) (s : State) (hs : P s)
    : P (collect sender p s) := by
  unfold Machine.collect; try dsimp only
  repeat' first | with_reducible exact hs | with_reducible apply hP.count | with_reducible apply hP.mapImage
                | with_reducible apply hP.keepCollection | split

theorem CellStable.takeImagePart (hP : CellStable P) (sender : Station) (data : List Byte) (s : State) (hs : P s)
    : P (takeImagePart sender data s) := by
  unfold Machine.takeImagePart; try dsimp only
  repeat' first | with_reducible exact hs | with_reducible apply hP.unit.takePart0
                | with_reducible apply hP.unit.watchPart | with_reducible apply hP.collect | split

theorem CellStable.found (hP : CellStable P) (s : State) (hs : P s) : P (found s) := by
  unfold Machine.found; try dsimp only
  repeat' first | with_reducible exact hs | with_reducible apply hP.enterSynced | split

theorem CellStable.askExpired (hP : CellStable P) (s : State) (hs : P s) : P (askExpired s) := by
  unfold Machine.askExpired; try dsimp only
  repeat' first | with_reducible exact hs | with_reducible apply hP.mapImage | with_reducible apply hP.ask
                | with_reducible apply hP.found | split

theorem CellStable.askTimerExpire (hP : CellStable P) (s : State) (hs : P s) : P (askTimerExpire s) := by
  unfold Machine.askTimerExpire; try dsimp only
  repeat' first | with_reducible exact hs | with_reducible apply hP.mapImage | with_reducible apply hP.ask
                | with_reducible apply hP.askExpired | split

/-! ## The consumers of the receive queue (chapters 4 to 6) -/

theorem CellStable.bothSwaps (f : Head → State → State) (hf : ∀ h s, P s → P (f h s)) (s : State) (hs : P s) :
    P (bothSwaps f s) := by
  unfold Machine.bothSwaps
  split
  · exact hf _ _ (hf _ _ hs)
  · exact hs

theorem CellStable.poolResync (hP : CellStable P) (s : State) (hs : P s) : P (poolResync s) := by
  unfold Machine.poolResync; dsimp only
  have h := hP.mapPool (fun p => { p with table := [], generation := 0, digest := 0xFFFF, sync := .unsynced }) s
    (.inr (show (0xFFFF : Word16) = tableDigest [] by decide)) hs
  have h := hP.unit.purgePool _ (hP.mapFe (fun f => { f with doubtful := false }) _ (.same rfl rfl rfl) h)
  have h := hP.unit.imageResync _ (hP.mapPeers (fun p => { p with disagreement := none }) _ h)
  have h := CellStable.bothSwaps headResync (fun x s => (hP.unit.head x).headResync s) _
    (CellStable.bothSwaps swapResync (fun x s => (hP.unit.head x).swapResync s) _ h)
  split
  · exact hP.unit.store.storeResync _ h
  · exact h

theorem CellStable.clearDoubtful (hP : CellStable P) (s : State) (hs : P s) : P (clearDoubtful s) := by
  unfold Machine.clearDoubtful
  split
  · exact CellStable.bothSwaps _ (fun h s => (hP.unit.head h).claimTest s) _ (hP.mapFe _ _ (.same rfl rfl rfl) hs)
  · exact hs

theorem CellStable.endDeaf (hP : CellStable P) (s : State) (hs : P s) : P (endDeaf s) := by
  unfold Machine.endDeaf; try dsimp only
  repeat' first | with_reducible exact hs | exact FeStep.same rfl rfl rfl | with_reducible apply hP.mapFe
                | with_reducible apply hP.ask | split

theorem CellStable.deafTest (hP : CellStable P) (s : State) (hs : P s) : P (deafTest s) := by
  unfold Machine.deafTest; try dsimp only
  repeat' first | with_reducible exact hs | with_reducible apply hP.endDeaf | split

theorem CellStable.depart (hP : CellStable P) (s : State) (hs : P s) : P (depart s) := by
  unfold Machine.depart; dsimp only
  split
  · exact hs
  · refine hP.deafTest _ (hP.mapFe _ _ ⟨.inl (Nat.le_refl _), .inl ?_⟩ hs)
    exact (List.dropWhile_sublist _).length_le

theorem CellStable.changePeer (hP : CellStable P) (st : Station) (f : PeerRecord → PeerRecord) (s : State) (hs
    : P s) : P (changePeer st f s) := by
  unfold Machine.changePeer; try dsimp only
  repeat' first | with_reducible exact hs | with_reducible apply hP.mapPeers | split

theorem CellStable.deletePeer (hP : CellStable P) (st : Station) (s : State) (hs : P s) : P (deletePeer st s) := by
  unfold Machine.deletePeer; try dsimp only
  repeat' first | with_reducible exact hs | with_reducible apply hP.mapPeers | split

theorem CellStable.addPeer (hP : CellStable P) (pos : Nat) (i : RxItem) (s : State) (hs : P s)
    : P (addPeer pos i s) := by
  unfold Machine.addPeer; try dsimp only
  repeat' first | with_reducible exact hs | with_reducible apply hP.mapPeers | split

theorem CellStable.learnPeer (hP : CellStable P) (i : RxItem) (s : State) (hs : P s) : P (learnPeer i s) := by
  unfold Machine.learnPeer; try dsimp only
  repeat' first | with_reducible exact hs | with_reducible apply hP.count
                | with_reducible apply hP.unit.store.livenessNotice | with_reducible apply hP.deletePeer
                | with_reducible apply hP.addPeer | split

theorem CellStable.refreshPeer (hP : CellStable P) (r : PeerRecord) (i : RxItem) (s : State) (hs : P s)
    : P (refreshPeer r i s) := by
  unfold Machine.refreshPeer; try dsimp only
  repeat' first | with_reducible exact hs | with_reducible apply hP.unit.store.livenessNotice
                | with_reducible apply hP.mapPeers | with_reducible apply hP.changePeer | split

theorem CellStable.divergent (hP : CellStable P) (s : State) (hs : P s) : P (divergent s) := by
  unfold Machine.divergent; try dsimp only
  repeat' first | with_reducible exact hs | with_reducible apply hP.ask | with_reducible apply hP.poolResync | split

theorem CellStable.disagreement (hP : CellStable P) (i : RxItem) (s : State) (hs : P s) : P (disagreement i s) := by
  unfold Machine.disagreement; try dsimp only
  repeat' first | with_reducible exact hs | with_reducible apply hP.mapPeers | with_reducible apply hP.divergent
                | split

theorem CellStable.rollMatch (hP : CellStable P) (i : RxItem) (s : State) (hs : P s) : P (rollMatch i s) := by
  unfold Machine.rollMatch; try dsimp only
  repeat' first | with_reducible exact hs | with_reducible apply hP.mapPeers | with_reducible apply hP.clearDoubtful
                | with_reducible apply hP.disagreement | split

theorem CellStable.compareRoll (hP : CellStable P) (i : RxItem) (v : RollValues) (s : State) (hs : P s)
    : P (compareRoll i v s) := by
  unfold Machine.compareRoll; try dsimp only
  repeat' first | with_reducible exact hs | with_reducible apply hP.disagreement | with_reducible apply hP.rollMatch
                | split

theorem CellStable.checkFamily (hP : CellStable P) (i : RxItem) (v : RollValues) (s : State) (hs : P s)
    : P (checkFamily i v s) := by
  unfold Machine.checkFamily; try dsimp only
  repeat' first | with_reducible exact hs | with_reducible apply hP.count | with_reducible apply hP.mapPeers
                | with_reducible apply hP.poolResync | split

theorem CellStable.checkRole (hP : CellStable P) (i : RxItem) (s : State) (hs : P s) : P (checkRole i s) := by
  unfold Machine.checkRole; try dsimp only
  repeat' first | with_reducible exact hs | with_reducible apply hP.mapPeers | with_reducible apply hP.poolResync
                | split

theorem CellStable.takeRoll (hP : CellStable P) (i : RxItem) (s : State) (hs : P s) : P (takeRoll i s) := by
  unfold Machine.takeRoll; try dsimp only
  repeat' first | with_reducible exact hs | with_reducible apply hP.changePeer | with_reducible apply hP.compareRoll
                | with_reducible apply hP.checkFamily | with_reducible apply hP.checkRole | split

theorem CellStable.peerTake (hP : CellStable P) (i : RxItem) (s : State) (hs : P s) : P (peerTake i s) := by
  unfold Machine.peerTake; try dsimp only
  repeat' first | with_reducible exact hs | with_reducible apply hP.learnPeer | with_reducible apply hP.refreshPeer
                | with_reducible apply hP.takeRoll | split

theorem CellStable.keepRefusal (hP : CellStable P) (own : Option Origin) (r : LastRefusal) (s : State) (hs : P s)
    : P (keepRefusal own r s) := by
  unfold Machine.keepRefusal; try dsimp only
  repeat' first | with_reducible exact hs | exact PoolStep.same rfl rfl | exact .inr rfl
                | with_reducible apply hP.mapPool | split

theorem CellStable.applyOutcome (hP : CellStable P) (i : RxItem) (f : PoolFrame) (out : PoolOutcome) (s : State)
    (hs : P s) : P (applyOutcome i f out s) := by
  unfold Machine.applyOutcome; try dsimp only
  repeat' first | with_reducible exact hs | exact PoolStep.same rfl rfl | exact .inr rfl
                | with_reducible apply hP.count | with_reducible apply hP.mapPool
                | with_reducible apply hP.keepRefusal | split

theorem CellStable.familyNotices (hP : CellStable P) (f : PoolFrame) (t : Table) (s : State) (hs : P s) :
    P (familyNotices f t s) := by
  unfold Machine.familyNotices
  split
  · split
    · exact CellStable.bothSwaps _ (fun h s => (hP.unit.head h).familyNotice _ s) _ hs
    · exact hs
  · split
    · exact CellStable.bothSwaps _ (fun h s => (hP.unit.head h).familyNotice _ s) _ hs
    · exact hs
  · exact hs

theorem CellStable.headNotices (hP : CellStable P) (i : RxItem) (f : PoolFrame) (out : PoolOutcome) (h : Head)
    (s : State) (hs : P s) : P (headNotices i f out h s) := by
  unfold Machine.headNotices; try dsimp only
  repeat' first | with_reducible exact hs | with_reducible apply (hP.unit.head _).headOutcome
                | with_reducible apply (hP.unit.head _).swapNotices | split

theorem CellStable.poolNotices (hP : CellStable P) (i : RxItem) (f : PoolFrame) (before : Table) (out : PoolOutcome)
    (s : State) (hs : P s) : P (poolNotices i f before out s) := by
  unfold Machine.poolNotices; dsimp only
  have h := CellStable.bothSwaps _ (fun h s => hP.headNotices i f out h s) _ hs
  have h' : P (if (Machine.bothSwaps (Machine.headNotices i f out) s).storeLive
      then storeNotice f before (i.own == some .storeUnit) i.stamp out (Machine.bothSwaps (Machine.headNotices i f out) s)
      else Machine.bothSwaps (Machine.headNotices i f out) s) := by
    split
    · exact hP.unit.store.storeNotice _ _ _ _ _ _ h
    · exact h
  split
  · exact hP.unit.generationNotice _ (hP.familyNotices _ _ _ h')
  · exact h'

theorem CellStable.poolTake (hP : CellStable P) (i : RxItem) (s : State) (hs : P s) : P (poolTake i s) := by
  unfold Machine.poolTake; try dsimp only
  repeat' first | with_reducible exact hs | with_reducible apply hP.applyOutcome
                | with_reducible apply hP.poolNotices | split

theorem CellStable.imageTake (hP : CellStable P) (i : RxItem) (s : State) (hs : P s) : P (imageTake i s) := by
  unfold Machine.imageTake; try dsimp only
  repeat' first | with_reducible exact hs | with_reducible apply hP.unit.takeImageAsk
                | with_reducible apply hP.takeImagePart | split

theorem splitNext_length {p : RxItem → Bool} {l ahead behind : List RxItem} {i : RxItem}
    (h : splitNext p l = some (ahead, i, behind)) : l.length = ahead.length + behind.length + 1 := by
  induction l generalizing ahead with
  | nil => simp [splitNext] at h
  | cons x xs ih =>
    simp only [splitNext] at h
    split at h
    · simp only [Option.some.injEq, Prod.mk.injEq] at h
      obtain ⟨rfl, -, rfl⟩ := h
      simp
    · simp only [Option.map_eq_some_iff, Prod.mk.injEq] at h
      obtain ⟨⟨a, j, b⟩, hr, rfl, rfl, rfl⟩ := h
      simp [ih hr]; omega

theorem CellStable.setRxQueue (hP : CellStable P) (q : List RxItem) (s : State) (hq : q.length ≤ s.fe.rxQueue.length)
    (hs : P s) : P (setRxQueue q s) :=
  hP.mapFe _ _ ⟨.inl (Nat.le_refl _), .inl hq⟩ hs

theorem CellStable.peersTakeNext (hP : CellStable P) (admitted : Kind → Bool) (s : State) (hs : P s) :
    P (peersTakeNext admitted s) := by
  unfold Machine.peersTakeNext
  split
  · rename_i h
    split
    · refine hP.depart _ (hP.peerTake _ _ (hP.setRxQueue _ _ ?_ hs))
      rw [splitNext_length h]; simp; omega
    · exact hs
  · exact hs

theorem CellStable.poolTakeNext (hP : CellStable P) (admitted : Kind → Bool) (s : State) (hs : P s) :
    P (poolTakeNext admitted s) := by
  unfold Machine.poolTakeNext
  split
  · rename_i h
    split
    · refine hP.depart _ (hP.poolTake _ _ (hP.setRxQueue _ _ ?_ hs))
      rw [splitNext_length h]; simp; omega
    · exact hs
  · exact hs

theorem CellStable.imageTakeNext (hP : CellStable P) (admitted : Kind → Bool) (s : State) (hs : P s) :
    P (imageTakeNext admitted s) := by
  unfold Machine.imageTakeNext
  split
  · rename_i h
    split
    · refine hP.depart _ (hP.imageTake _ _ (hP.setRxQueue _ _ ?_ hs))
      rw [splitNext_length h]; simp; omega
    · exact hs
  · exact hs

theorem CellStable.drainHead (hP : CellStable P) (i : RxItem) (s : State) (hs : P s) : P (drainHead i s) := by
  unfold Machine.drainHead; try dsimp only
  repeat' first | with_reducible exact hs | with_reducible apply hP.peersTakeNext
                | with_reducible apply hP.poolTakeNext | with_reducible apply hP.imageTakeNext | split

theorem CellStable.drainFrom (hP : CellStable P) (n : Nat) (s : State) (hs : P s) : P (drainFrom n s) := by
  induction n generalizing s with
  | zero => exact hs
  | succ n ih =>
    unfold Machine.drainFrom
    split
    · exact hs
    · exact ih _ (hP.drainHead _ _ hs)

theorem CellStable.drain (hP : CellStable P) (s : State) (hs : P s) : P (drain s) := by
  unfold Machine.drain; try dsimp only
  repeat' first | with_reducible exact hs | with_reducible apply hP.drainFrom | split

theorem CellStable.peerSilenceTimeout (hP : CellStable P) (st : Station) (s : State) (hs : P s)
    : P (peerSilenceTimeout st s) := by
  unfold Machine.peerSilenceTimeout; try dsimp only
  repeat' first | with_reducible exact hs | with_reducible apply hP.unit.store.livenessNotice
                | with_reducible apply hP.mapPeers | with_reducible apply hP.changePeer
                | with_reducible apply hP.disagreement | split

theorem CellStable.disagreementExpire (hP : CellStable P) (s : State) (hs : P s) : P (disagreementExpire s) := by
  unfold Machine.disagreementExpire; try dsimp only
  repeat' first | with_reducible exact hs | with_reducible apply hP.mapPeers | with_reducible apply hP.disagreement
                | split

theorem CellStable.poolCommand (hP : CellStable P) (k : Kind) (s : State) (hs : P s) : P (poolCommand k s) := by
  unfold Machine.poolCommand; try dsimp only
  repeat' first | with_reducible exact hs | with_reducible apply hP.poolTakeNext | split

/-! ## The frame engine (chapter 2) -/

theorem CellStable.startRollTimer (hP : CellStable P) (s : State) (hs : P s) : P (startRollTimer s) := by
  unfold Machine.startRollTimer; try dsimp only
  repeat' first | with_reducible exact hs | with_reducible apply hP.mapPeers | split

theorem CellStable.deliverSent (hP : CellStable P) (r : Option (Origin × Payload)) (s : State) (hs : P s)
    : P (deliverSent r s) := by
  unfold Machine.deliverSent; try dsimp only
  repeat' first | with_reducible exact hs | with_reducible apply (hP.unit.head _).swapSent
                | with_reducible apply hP.unit.imageSent | with_reducible apply hP.startRollTimer | split

theorem CellStable.deliverNotSent (hP : CellStable P) (r : Option (Origin × Payload)) (s : State) (hs : P s)
    : P (deliverNotSent r s) := by
  unfold Machine.deliverNotSent; try dsimp only
  repeat' first | with_reducible exact hs | with_reducible apply (hP.unit.head _).swapNotSent
                | with_reducible apply (hP.unit.head _).headNotSent
                | with_reducible apply hP.unit.store.storeNotSent | with_reducible apply hP.unit.imageNotSent
                | with_reducible apply hP.startRollTimer | split

theorem CellStable.attemptMade (hP : CellStable P) (s : State) (hs : P s) : P (attemptMade s) := by
  unfold Machine.attemptMade; try dsimp only
  repeat' first | with_reducible exact hs | with_reducible apply hP.unit.countAttempt
                | with_reducible apply hP.deliverNotSent | split

theorem CellStable.resolveHeld (hP : CellStable P) (longBreak : Bool) (s : State) (hs : P s)
    : P (resolveHeld longBreak s) := by
  unfold Machine.resolveHeld; try dsimp only
  repeat' first | with_reducible exact hs | exact FeStep.same rfl rfl rfl | with_reducible apply hP.unit.leaveLine
                | with_reducible apply hP.mapFe | with_reducible apply hP.attemptMade | split

theorem CellStable.enterLineFault (hP : CellStable P) (s : State) (hs : P s) : P (enterLineFault s) := by
  unfold Machine.enterLineFault; dsimp only
  have key : ∀ s : State, P s → P { s with lineFault := true, transmitter := .idle } := fun s hs =>
    hP.setTransmitter .idle { s with lineFault := true } (hP.setLineFault true s hs)
  refine hP.unit.endTransfer _ (key _ ?_)
  refine hP.mapLine _ _ (hP.mapStop _ _ (hP.mapFe _ _ ⟨.inr ?_, .inl (Nat.le_refl _)⟩ hs))
  simp [txCapacity]

theorem CellStable.setRx (hP : CellStable P) (rx : RxPath) (s : State) (hs : P s) : P (setRx rx s) := by
  unfold Machine.setRx; try dsimp only
  repeat' first | with_reducible exact hs | with_reducible apply hP.mapLine | split

theorem CellStable.setRxState (hP : CellStable P) (r : RxState) (s : State) (hs : P s) : P (setRxState r s) := by
  unfold Machine.setRxState; try dsimp only
  repeat' first | with_reducible exact hs | exact FeStep.same rfl rfl rfl | with_reducible apply hP.mapFe | split

theorem CellStable.clearFrame (hP : CellStable P) (s : State) (hs : P s) : P (clearFrame s) := by
  unfold Machine.clearFrame; try dsimp only
  repeat' first | with_reducible exact hs | exact FeStep.same rfl rfl rfl | with_reducible apply hP.mapFe | split

theorem CellStable.abandonToWatch (hP : CellStable P) (s : State) (hs : P s) : P (abandonToWatch s) := by
  unfold Machine.abandonToWatch; try dsimp only
  repeat' first | with_reducible exact hs | exact FeStep.same rfl rfl rfl | with_reducible apply hP.mapFe | split

theorem CellStable.sleep (hP : CellStable P) (s : State) (hs : P s) : P (sleep s) := by
  unfold Machine.sleep; try dsimp only
  repeat' first | with_reducible exact hs | exact FeStep.same rfl rfl rfl | with_reducible apply hP.count
                | with_reducible apply hP.mapFe | with_reducible apply hP.setRx | split

theorem CellStable.mapFrame (hP : CellStable P) (g : RxFrame → RxFrame) (s : State) (hs : P s)
    : P (mapFrame g s) := by
  unfold Machine.mapFrame; try dsimp only
  repeat' first | with_reducible exact hs | exact FeStep.same rfl rfl rfl | with_reducible apply hP.mapFe | split

theorem CellStable.headerCharacter (hP : CellStable P) (c : Character) (s : State) (hs : P s)
    : P (headerCharacter c s) := by
  unfold Machine.headerCharacter; try dsimp only
  repeat' first | with_reducible exact hs | with_reducible apply hP.setRxState | with_reducible apply hP.sleep
                | with_reducible apply hP.mapFrame | split

theorem CellStable.dataCharacter (hP : CellStable P) (c : Character) (s : State) (hs : P s)
    : P (dataCharacter c s) := by
  unfold Machine.dataCharacter; try dsimp only
  repeat' first | with_reducible exact hs | with_reducible apply hP.setRxState | with_reducible apply hP.mapFrame
                | split

theorem CellStable.checkPoint (hP : CellStable P) (s : State) (hs : P s) : P (checkPoint s) := by
  unfold Machine.checkPoint; dsimp only
  generalize hb : s.fe.rxFrame.bad = bad
  generalize hv : (!s.fe.deaf && (bad || decide (rxCapacity ≤ s.fe.rxQueue.length))) = veto
  have h1 : P (if bad then s.count fun c => { c with checkErrors := satInc c.checkErrors } else s) := by
    split
    · exact hP.count _ _ hs
    · exact hs
  generalize (if bad then s.count fun c => { c with checkErrors := satInc c.checkErrors } else s) = s1 at h1 ⊢
  have h2 : P (if veto then s1.count fun c => { c with vetoesSent := satInc c.vetoesSent } else s1) := by
    split
    · exact hP.count _ _ h1
    · exact h1
  generalize (if veto then s1.count fun c => { c with vetoesSent := satInc c.vetoesSent } else s1) = s2 at h2 ⊢
  have h3 := hP.mapLine (fun l => { l with rx := .slot, free := false, freeTimer := 0, vetoDriving := veto }) _
    (hP.mapFe (fun f => { f with rxState := .slot bad veto, vetoRun := if veto then f.vetoRun + 1 else f.vetoRun }) s2
      (.same rfl rfl rfl) h2)
  split
  · exact hP.setTransmitter .idle _ h3
  · exact h3
  · exact h3

theorem CellStable.checkCharacter (hP : CellStable P) (c : Character) (s : State) (hs : P s)
    : P (checkCharacter c s) := by
  unfold Machine.checkCharacter; try dsimp only
  repeat' first | with_reducible exact hs | with_reducible apply hP.mapFrame | with_reducible apply hP.checkPoint
                | split

theorem CellStable.takeCharacter (hP : CellStable P) (c : Character) (s : State) (hs : P s)
    : P (takeCharacter c s) := by
  unfold Machine.takeCharacter; try dsimp only
  repeat' first | with_reducible exact hs | with_reducible apply hP.abandonToWatch | with_reducible apply hP.sleep
                | with_reducible apply hP.mapFrame | with_reducible apply hP.headerCharacter
                | with_reducible apply hP.dataCharacter | with_reducible apply hP.checkCharacter | split

theorem CellStable.enqueue (hP : CellStable P) (bad : Bool) (i : RxItem) (s : State) (hs : P s) :
    P (enqueue bad i s) := by
  unfold Machine.enqueue
  split
  · rename_i h
    refine hP.mapFe _ s ⟨.inl (Nat.le_refl _), .inr ?_⟩ hs
    simp only [List.length_append, List.length_singleton]
    have := h.2
    omega
  · exact hs

theorem CellStable.accept (hP : CellStable P) (bad : Bool) (f : RxFrame) (own : Option Origin) (s : State) (hs
    : P s) : P (accept bad f own s) := by
  unfold Machine.accept; try dsimp only
  repeat' first | with_reducible exact hs | with_reducible apply hP.unit.frameSent
                | with_reducible apply hP.deliverSent | with_reducible apply hP.enterLineFault
                | with_reducible apply hP.enqueue | split

theorem CellStable.vetoSeen (hP : CellStable P) (runGoing : Bool) (own : Option Origin) (s : State) (hs : P s)
    : P (vetoSeen runGoing own s) := by
  unfold Machine.vetoSeen; try dsimp only
  repeat' first | with_reducible exact hs | exact FeStep.same rfl rfl rfl | with_reducible apply hP.count
                | with_reducible apply hP.mapFe | with_reducible apply hP.attemptMade | split

theorem CellStable.deafAtSlotEnd (hP : CellStable P) (vetoed wasEmpty : Bool) (s : State) (hs : P s)
    : P (deafAtSlotEnd vetoed wasEmpty s) := by
  unfold Machine.deafAtSlotEnd; try dsimp only
  repeat' first | with_reducible exact hs | exact FeStep.same rfl rfl rfl | with_reducible apply hP.mapFe
                | with_reducible apply hP.poolResync | with_reducible apply hP.endDeaf | split

theorem CellStable.closeSlot (hP : CellStable P) (runGoing : Bool) (s : State) (hs : P s)
    : P (closeSlot runGoing s) := by
  unfold Machine.closeSlot; try dsimp only
  repeat' first | with_reducible exact hs | with_reducible apply hP.mapLine | with_reducible apply hP.setRx
                | with_reducible apply hP.clearFrame | split

theorem CellStable.vetoSlotEnd (hP : CellStable P) (bits : List Slot3) (runGoing : Bool) (s : State) (hs : P s)
    : P (vetoSlotEnd bits runGoing s) := by
  unfold Machine.vetoSlotEnd; try dsimp only
  repeat' first | with_reducible exact hs | with_reducible apply hP.setDoubtful | with_reducible apply hP.sleep
                | with_reducible apply hP.accept | with_reducible apply hP.vetoSeen
                | with_reducible apply hP.deafAtSlotEnd | with_reducible apply hP.closeSlot | split

/-! ## The events of the cell line (chapter 1) -/

theorem CellStable.syncFault (hP : CellStable P) (s : State) (hs : P s) : P (syncFault s) := by
  unfold Machine.syncFault; try dsimp only
  repeat' first | with_reducible exact hs | with_reducible apply hP.count | with_reducible apply hP.mapLine
                | with_reducible apply hP.setRx | split

theorem CellStable.loopFailed (hP : CellStable P) (s : State) (hs : P s) : P (loopFailed s) := by
  unfold Machine.loopFailed; try dsimp only
  repeat' first | with_reducible exact hs | with_reducible apply hP.mapLine | with_reducible apply hP.clearFrame
                | split

theorem CellStable.syncStart (hP : CellStable P) (x : SyncStart) (s : State) (hs : P s) : P (syncStart x s) := by
  unfold Machine.syncStart; try dsimp only
  repeat' first | with_reducible exact hs | with_reducible apply hP.unit.lineBusy | with_reducible apply hP.mapLine
                | split

theorem CellStable.frameBegun (hP : CellStable P) (s : State) (hs : P s) : P (frameBegun s) := by
  unfold Machine.frameBegun; try dsimp only
  repeat' first | with_reducible exact hs | exact FeStep.same rfl rfl rfl | with_reducible apply hP.mapFe | split

theorem CellStable.syncMeasure (hP : CellStable P) (m : SyncMeasure) (s : State) (hs : P s)
    : P (syncMeasure m s) := by
  unfold Machine.syncMeasure; try dsimp only
  repeat' first | with_reducible exact hs | with_reducible apply hP.mapLine | with_reducible apply hP.syncFault
                | with_reducible apply hP.loopFailed | with_reducible apply hP.frameBegun | split

theorem CellStable.applyPart {α : Type} (f : α → State → State) (hf : ∀ a s, P s → P (f a s)) (x : Option α)
    (s : State) (hs : P s) : P (applyPart f x s) := by
  unfold Machine.applyPart
  split
  · exact hf _ _ hs
  · exact hs

theorem CellStable.syncCharacter (hP : CellStable P) (start : Option SyncStart) (measure : Option SyncMeasure)
    (s : State) (hs : P s) : P (syncCharacter start measure s) :=
  CellStable.applyPart _ (fun a s => hP.syncMeasure a s) _ _ (CellStable.applyPart _ (fun a s => hP.syncStart a s) _ _ hs)

theorem CellStable.syncTimeout (hP : CellStable P) (s : State) (hs : P s) : P (syncTimeout s) := by
  unfold Machine.syncTimeout; try dsimp only
  repeat' first | with_reducible exact hs | with_reducible apply hP.syncFault | with_reducible apply hP.loopFailed
                | split

theorem CellStable.loopCharacter (hP : CellStable P) (c : Character) (s : State) (hs : P s)
    : P (loopCharacter c s) := by
  unfold Machine.loopCharacter; try dsimp only
  repeat' first | with_reducible exact hs | exact FeStep.same rfl rfl rfl | with_reducible apply hP.mapLine
                | with_reducible apply hP.mapFe | with_reducible apply hP.clearFrame | with_reducible apply hP.sleep
                | with_reducible apply hP.takeCharacter | with_reducible apply hP.loopFailed | split

theorem CellStable.framePathCharacter (hP : CellStable P) (c : CharSamples) (s : State) (hs : P s)
    : P (framePathCharacter c s) := by
  unfold Machine.framePathCharacter; try dsimp only
  repeat' first | with_reducible exact hs | with_reducible apply hP.unit.lineBusy
                | with_reducible apply hP.unit.countNoise | with_reducible apply hP.takeCharacter
                | with_reducible apply hP.loopCharacter | split

theorem CellStable.breakEnded (hP : CellStable P) (s : State) (hs : P s) : P (breakEnded s) := by
  unfold Machine.breakEnded; try dsimp only
  repeat' first | with_reducible exact hs | exact FeStep.same rfl rfl rfl
                | with_reducible apply hP.unit.matcherInterrupted | with_reducible apply hP.mapFe
                | with_reducible apply hP.setDoubtful | with_reducible apply hP.setRx
                | with_reducible apply hP.clearFrame | split

theorem CellStable.longBreakEnded (hP : CellStable P) (stamp : Time) (s : State) (hs : P s)
    : P (longBreakEnded stamp s) := by
  unfold Machine.longBreakEnded; try dsimp only
  repeat' first | with_reducible exact hs | exact FeStep.same rfl rfl rfl
                | with_reducible apply hP.unit.matcherStart | with_reducible apply hP.mapFe
                | with_reducible apply hP.setRx | with_reducible apply hP.clearFrame | split

theorem CellStable.disturbanceEnded (hP : CellStable P) (s : State) (hs : P s) : P (disturbanceEnded s) := by
  unfold Machine.disturbanceEnded; try dsimp only
  repeat' first | with_reducible exact hs | with_reducible apply hP.count
                | with_reducible apply hP.unit.matcherInterrupted | with_reducible apply hP.setRx
                | with_reducible apply hP.abandonToWatch | split

theorem CellStable.glitchEnded (hP : CellStable P) (coveredStop : Bool) (s : State) (hs : P s)
    : P (glitchEnded coveredStop s) := by
  unfold Machine.glitchEnded; try dsimp only
  repeat' first | with_reducible exact hs | with_reducible apply hP.count | split

theorem CellStable.runEffect (hP : CellStable P) (r : Run) (c : Option RunClass) (s : State) (hs : P s)
    : P (runEffect r c s) := by
  unfold Machine.runEffect; try dsimp only
  repeat' first | with_reducible exact hs | with_reducible apply hP.breakEnded
                | with_reducible apply hP.longBreakEnded | with_reducible apply hP.disturbanceEnded
                | with_reducible apply hP.glitchEnded | split

theorem CellStable.ownBreakEnded (hP : CellStable P) (c : Option RunClass) (s : State) (hs : P s) :
    P (ownBreakEnded c s) := by
  unfold Machine.ownBreakEnded
  split <;> split
  · exact hP.unit.leaveLine _ (hP.setTransmitter .idle s hs)
  · exact hP.setTransmitter _ s hs
  · exact hP.unit.leaveLine _ (hP.setTransmitter .idle s hs)
  · exact hs
  all_goals first | exact hs | exact hP.unit.leaveLine _ hs

theorem CellStable.dominantRunEnd (hP : CellStable P) (r : Run) (s : State) (hs : P s) : P (dominantRunEnd r s) := by
  unfold Machine.dominantRunEnd; try dsimp only
  repeat' first | with_reducible exact hs | with_reducible apply hP.unit.lineBusy
                | with_reducible apply hP.unit.resolveFailed | with_reducible apply hP.mapLine
                | with_reducible apply hP.resolveHeld | with_reducible apply hP.runEffect
                | with_reducible apply hP.ownBreakEnded | split

theorem CellStable.endSending (hP : CellStable P) (s : State) (hs : P s) : P (endSending s) := by
  unfold Machine.endSending
  split
  · exact hP.unit.leaveLine _ (hP.setTransmitter .idle s hs)
  · split
    · exact hP.resolveHeld _ s hs
    · exact hP.unit.leaveLine _ hs
  · exact hs

theorem CellStable.frameGap (hP : CellStable P) (s : State) (hs : P s) : P (frameGap s) := by
  unfold Machine.frameGap; try dsimp only
  repeat' first | with_reducible exact hs | exact FeStep.same rfl rfl rfl | with_reducible apply hP.mapFe
                | with_reducible apply hP.clearFrame | split

theorem CellStable.receiverFree (hP : CellStable P) (s : State) (hs : P s) : P (receiverFree s) := by
  unfold Machine.receiverFree; try dsimp only
  repeat' first | with_reducible exact hs | with_reducible apply hP.setRx | split

theorem CellStable.lineFree (hP : CellStable P) (s : State) (hs : P s) : P (lineFree s) := by
  unfold Machine.lineFree; try dsimp only
  repeat' first | with_reducible exact hs | with_reducible apply hP.unit.matcherLineFree
                | with_reducible apply hP.mapLine | with_reducible apply hP.endSending
                | with_reducible apply hP.frameGap | with_reducible apply hP.receiverFree | split

theorem CellStable.watchExpectedEnd (hP : CellStable P) (s : State) (hs : P s) : P (watchExpectedEnd s) := by
  unfold Machine.watchExpectedEnd; try dsimp only
  repeat' first | with_reducible exact hs | exact FeStep.same rfl rfl rfl | with_reducible apply hP.mapFe
                | with_reducible apply hP.setDoubtful | split

theorem CellStable.catchUp (hP : CellStable P) (s : State) (hs : P s) : P (catchUp s) := by
  unfold Machine.catchUp; try dsimp only
  repeat' first | with_reducible exact hs | with_reducible apply hP.drain | split

theorem CellStable.takeBuffer (hP : CellStable P) (p : Payload) (s : State) (hs : P s) : P (takeBuffer p s) := by
  unfold Machine.takeBuffer; try dsimp only
  repeat' first | with_reducible exact hs | with_reducible apply hP.unit.fillImageBuffer | split

theorem CellStable.driveFrame (hP : CellStable P) (p : Payload) (s : State) (hs : P s) : P (driveFrame p s) := by
  unfold Machine.driveFrame; dsimp only
  refine hP.unit.lineBusy _ (hP.setTransmitter _ _ (hP.mapFe _ _ ⟨.inl ?_, .inl (Nat.le_refl _)⟩ (hP.takeBuffer p s hs)))
  simp [changeFirst_length]

theorem CellStable.transmitStart (hP : CellStable P) (dominantSeen : Bool) (s : State) (hs : P s)
    : P (transmitStart dominantSeen s) := by
  unfold Machine.transmitStart; try dsimp only
  repeat' first | with_reducible exact hs | with_reducible apply hP.unit.lineBusy | with_reducible apply hP.catchUp
                | with_reducible apply hP.driveFrame | split

theorem CellStable.transmitOvertaken (hP : CellStable P) (s : State) (hs : P s) : P (transmitOvertaken s) := by
  unfold Machine.transmitOvertaken
  split
  · exact hP.unit.leaveLine _ (hP.setTransmitter .idle s hs)
  · exact hs
  · exact hs
  · exact hs

theorem CellStable.arbitrationLost (hP : CellStable P) (s : State) (hs : P s) : P (arbitrationLost s) :=
  hP.unit.leaveLine _ (hP.count _ _ (hP.setTransmitter .idle s hs))

theorem CellStable.bitError (hP : CellStable P) (rec : Bool) (s : State) (hs : P s) : P (bitError rec s) := by
  unfold Machine.bitError; dsimp only
  have h := hP.setTransmitter .idle s hs
  split
  · exact hP.mapFe _ _ (.same rfl rfl rfl) h
  · exact hP.attemptMade _ h

theorem CellStable.frameMismatch (hP : CellStable P) (part : FramePart) (sentRecessive : Bool) (s : State) (hs
    : P s) : P (frameMismatch part sentRecessive s) := by
  unfold Machine.frameMismatch; try dsimp only
  repeat' first | with_reducible exact hs | with_reducible apply hP.arbitrationLost
                | with_reducible apply hP.bitError | split

theorem CellStable.stopMismatch (hP : CellStable P) (part : StopPart) (chars : List WireChar) (s : State) (hs : P s) :
    P (stopMismatch part chars s) := by
  unfold Machine.stopMismatch
  split
  · exact hP.setTransmitter _ s hs
  · exact hP.setTransmitter _ s hs
  all_goals exact hP.mapStop _ _ (hP.setTransmitter .idle s hs)

theorem CellStable.loopMismatch (hP : CellStable P) (place : ReadbackPlace) (s : State) (hs : P s) :
    P (loopMismatch place s) := by
  unfold Machine.loopMismatch
  split
  · exact hs
  · exact hP.setTransmitter .idle s hs
  · exact hs

theorem CellStable.readbackMismatch (hP : CellStable P) (place : ReadbackPlace) (sentRecessive : Bool) (s : State)
    (hs : P s) : P (readbackMismatch place sentRecessive s) := by
  unfold Machine.readbackMismatch; try dsimp only
  repeat' first | with_reducible exact hs | with_reducible apply hP.frameMismatch
                | with_reducible apply hP.stopMismatch | with_reducible apply hP.loopMismatch | split

theorem CellStable.afterAdmission (hP : CellStable P) (o : Origin) (s : State) (hs : P s)
    : P (afterAdmission o s) := by
  unfold Machine.afterAdmission; try dsimp only
  repeat' first | with_reducible exact hs | with_reducible apply hP.mapImage
                | with_reducible apply (hP.unit.head _).submitReport
                | with_reducible apply (hP.unit.head _).declareRetry
                | with_reducible apply (hP.unit.head _).reportRetry | with_reducible apply hP.unit.store.storePump
                | with_reducible apply hP.unit.submitImage | with_reducible apply hP.unit.endTransfer | split

theorem CellStable.heldRequestAdmit (hP : CellStable P) (s : State) (hs : P s) : P (heldRequestAdmit s) := by
  unfold Machine.heldRequestAdmit; try dsimp only
  repeat' first | with_reducible exact hs | with_reducible apply hP.unit.admitHeld
                | with_reducible apply hP.deliverNotSent | with_reducible apply hP.afterAdmission | split

theorem CellStable.submitRoll (hP : CellStable P) (s : State) (hs : P s) : P (submitRoll s) := by
  unfold Machine.submitRoll; try dsimp only
  repeat' first | with_reducible exact hs | with_reducible apply hP.unit.submit | split

theorem CellStable.rollTimerExpire (hP : CellStable P) (s : State) (hs : P s) : P (rollTimerExpire s) := by
  unfold Machine.rollTimerExpire; try dsimp only
  repeat' first | with_reducible exact hs | with_reducible apply hP.mapPeers | with_reducible apply hP.submitRoll
                | split

end Sys2Proof.Machine
end

