-- ==== Sys2Proof/Laws/Keeps.lean ====
section
/-! SUPPORT. The frames and the invariants of Safety.lean survive the primitive updates of the blocks they speak of; with
the lemmas of Laws/Frame.lean and Laws/Cell.lean they then survive every operation of those blocks. -/
namespace Sys2Proof.Machine
open State Sys2Proof.Config

/-! ## Frames -/

theorem cellFrame_refl (s : State) : cellFrame s s := ⟨rfl, rfl, rfl, rfl, rfl, rfl, rfl, rfl, rfl, rfl, rfl⟩

theorem unitFrame_refl (s : State) : unitFrame s s := ⟨cellFrame_refl s, rfl, .inl rfl, rfl, rfl, rfl, rfl⟩

theorem headFrame_refl (h : Head) (s : State) : headFrame h s s :=
  ⟨unitFrame_refl s, rfl, rfl, fun _ _ => ⟨rfl, rfl, rfl⟩, rfl⟩

theorem storeFrame_refl (s : State) : storeFrame s s := ⟨unitFrame_refl s, rfl, rfl, rfl, rfl, rfl, rfl, rfl, rfl⟩

theorem cellFrame_pending {s t : State} {g : LifeStore → LifeStore} (hg : ∀ l, ∃ p, g l = { l with pending := p })
    (h : cellFrame s t) : cellFrame s (t.mapLife g) := by
  obtain ⟨h1, h2, h3, h4, h5, h6, h7, h8, h9, h10, h11⟩ := h
  refine ⟨h1, h2, h3, h4, h5, h6, h7, h8, h9, h10, ?_⟩
  obtain ⟨p, hp⟩ := hg t.life
  simp only [State.mapLife, hp]
  rw [h11]

theorem unitFrame_pending {s t : State} {g : LifeStore → LifeStore} (hg : ∀ l, ∃ p, g l = { l with pending := p })
    (h : unitFrame s t) : unitFrame s (t.mapLife g) := ⟨cellFrame_pending hg h.1, h.2⟩

theorem unitFrame_fe {s t : State} {g : FrameEngine → FrameEngine} (hg : UnitFe t.fe (g t.fe)) (h : unitFrame s t) :
    unitFrame s (t.mapFe g) := by
  obtain ⟨h0, h1, h2, h3, h4, h5, h6⟩ := h
  refine ⟨h0, h1, h2, h3, h4, h5, ?_⟩
  have hr := hg.rest
  simp only [State.mapFe]
  rw [hr, h6]

theorem unitFrame_count {s t : State} {f : Counters → Counters} (hf : ∀ c, (f c).refusals = c.refusals)
    (h : unitFrame s t) : unitFrame s (t.count f) := by
  obtain ⟨h0, h1, h2, h3, h4, h5, h6⟩ := h
  exact ⟨h0, h1, h2, h3, h4, (hf _).trans h5, h6⟩

/-- The line is made busy by a stop call that begins (R12). -/
theorem unitFrame_busy {s t : State} (h : unitFrame s t) : unitFrame s (lineBusy t) := by
  obtain ⟨h0, h1, h2, h3⟩ := h
  refine ⟨h0, h1, .inr ?_, h3⟩
  show t.line.busy = s.line.busy
  rcases h2 with h2 | h2
  · rw [h2]
  · rw [h2]; rfl

theorem cellFrame_stable (s : State) : CellStable (cellFrame s) where
  mapHead := fun _ _ _ h => h
  mapSwap := fun _ _ _ h => h
  mapStore := fun _ _ h => h
  mapImage := fun _ _ h => h
  mapStop := fun _ _ h => h
  mapTag := fun _ _ h => h
  mapPeers := fun _ _ h => h
  mapLine := fun _ _ h => h
  mapCount := fun _ _ h => h
  setLevels := fun _ _ h => h
  setTransmitter := fun _ _ h => h
  setLineFault := fun _ _ h => h
  mapPending := fun _ _ hg h => cellFrame_pending hg h
  mapFe := fun _ _ _ h => h
  mapPool := fun _ _ _ h => h

theorem unitFrame_base (s : State) : BaseStable (unitFrame s) where
  mapPending := fun _ _ hg h => unitFrame_pending hg h
  mapFe := fun _ _ hg h => unitFrame_fe hg h

theorem unitFrame_counting (s : State) : CountStable (unitFrame s) where
  count := fun _ _ hf h => unitFrame_count hf h
  mapTag := fun _ _ h => h

theorem unitFrame_stable (s : State) : UnitStable (unitFrame s) where
  toBaseStable := unitFrame_base s
  toCountStable := unitFrame_counting s
  mapStop := fun _ _ h => h
  lineBusy := fun _ h => unitFrame_busy h
  setTransmitter := fun _ _ h => h
  head := fun _ =>
    { toBaseStable := unitFrame_base s, toCountStable := unitFrame_counting s, mapStop := fun _ _ h => h
      lineBusy := fun _ h => unitFrame_busy h
      setTransmitter := fun _ _ h => h, mapHead := fun _ _ h => h, mapSwap := fun _ _ h => h
      mapLevels := fun _ _ h => h }
  store :=
    { toBaseStable := unitFrame_base s, toCountStable := unitFrame_counting s, mapStore := fun _ _ h => h
      setReady := fun _ _ h => h, setDone := fun _ h => h, setFault := fun _ h => h }
  mapImage := fun _ _ h => h
  setAck := fun _ h => h

/-- A change of one head's units in a frame of that head. -/
theorem headFrame_mapHead {h : Head} {s t : State} (f : HeadUnit → HeadUnit) (x : headFrame h s t) :
    headFrame h s (t.mapHead h f) :=
  ⟨x.1, x.2.1, x.2.2.1, fun k hk => ⟨(PerHead.get_set_other _ _ hk).trans (x.2.2.2.1 k hk).1,
    (x.2.2.2.1 k hk).2⟩, x.2.2.2.2⟩

theorem headFrame_mapSwap {h : Head} {s t : State} (f : SwapUnit → SwapUnit) (x : headFrame h s t) :
    headFrame h s (t.mapSwap h f) :=
  ⟨x.1, x.2.1, x.2.2.1, fun k hk => ⟨(x.2.2.2.1 k hk).1,
    (PerHead.get_set_other _ _ hk).trans (x.2.2.2.1 k hk).2.1, (x.2.2.2.1 k hk).2.2⟩, x.2.2.2.2⟩

theorem headFrame_stable (h : Head) (s : State) : HeadStable h (headFrame h s) where
  count := fun _ _ hf x => ⟨unitFrame_count hf x.1, x.2⟩
  mapPending := fun _ _ hg x => ⟨unitFrame_pending hg x.1, x.2⟩
  mapFe := fun _ _ hg x => ⟨unitFrame_fe hg x.1, x.2⟩
  mapTag := fun _ _ x => x
  mapStop := fun _ _ x => x
  lineBusy := fun _ x => ⟨unitFrame_busy x.1, x.2⟩
  setTransmitter := fun _ _ x => x
  mapHead := fun f _ x => headFrame_mapHead f x
  mapSwap := fun f _ x => headFrame_mapSwap f x
  mapLevels := fun _ _ x =>
    ⟨x.1, x.2.1, x.2.2.1, fun k hk => ⟨(x.2.2.2.1 k hk).1, (x.2.2.2.1 k hk).2.1,
      (PerHead.get_set_other _ _ hk).trans (x.2.2.2.1 k hk).2.2⟩, x.2.2.2.2⟩

theorem quietFrame_stable (h : Head) (s : State) : QuietStable h (quietFrame h s) where
  mapPending := fun _ _ hg x => ⟨⟨unitFrame_pending hg x.1.1, x.1.2⟩, x.2⟩
  mapFe := fun _ _ hg x => ⟨⟨unitFrame_fe hg x.1.1, x.1.2⟩, x.2⟩
  mapStop := fun _ _ x => x
  lineBusy := fun _ x => ⟨⟨unitFrame_busy x.1.1, x.1.2⟩, x.2⟩
  setTransmitter := fun _ _ x => x
  mapHead := fun f _ x => ⟨headFrame_mapHead f x.1, x.2⟩
  mapSwap := fun f _ x => ⟨headFrame_mapSwap f x.1, x.2⟩

theorem swapFrame_stable (h : Head) (s : State) : SwapStable h (swapFrame h s) where
  mapPending := fun _ _ hg x => ⟨⟨⟨unitFrame_pending hg x.1.1.1, x.1.1.2⟩, x.1.2⟩, x.2⟩
  mapFe := fun _ _ hg x => ⟨⟨⟨unitFrame_fe hg x.1.1.1, x.1.1.2⟩, x.1.2⟩, x.2⟩
  mapSwap := fun f _ x => ⟨⟨headFrame_mapSwap f x.1.1, x.1.2⟩, x.2⟩

theorem quietFrame_refl (h : Head) (s : State) : quietFrame h s s := ⟨headFrame_refl h s, rfl, rfl, rfl⟩

theorem swapFrame_refl (h : Head) (s : State) : swapFrame h s s := ⟨quietFrame_refl h s, rfl, rfl, rfl, rfl⟩

theorem storeFrame_stable (s : State) : StoreStable (storeFrame s) where
  count := fun _ _ hf x => ⟨unitFrame_count hf x.1, x.2⟩
  mapPending := fun _ _ hg x => ⟨unitFrame_pending hg x.1, x.2⟩
  mapFe := fun _ _ hg x => ⟨unitFrame_fe hg x.1, x.2⟩
  mapTag := fun _ _ x => x
  mapStore := fun _ _ x => x
  setReady := fun _ _ x => x
  setDone := fun _ x => x
  setFault := fun _ x => x

theorem depotFrame_stable (s : State) : DepotStable (depotFrame s) where
  mapPending := fun _ _ hg x => ⟨⟨unitFrame_pending hg x.1.1, x.1.2⟩, x.2⟩
  mapFe := fun _ _ hg x => ⟨⟨unitFrame_fe hg x.1.1, x.1.2⟩, x.2⟩
  mapStore := fun _ _ x => x
  setReady := fun _ _ x => x
  setDone := fun _ x => x
  setFault := fun _ x => x

theorem depotFrame_refl (s : State) : depotFrame s s := ⟨storeFrame_refl s, rfl, rfl⟩

/-! ## Invariants -/

theorem queuesBounded_stable : CellStable State.queuesBounded where
  mapHead := fun _ _ _ h => h
  mapSwap := fun _ _ _ h => h
  mapStore := fun _ _ h => h
  mapImage := fun _ _ h => h
  mapStop := fun _ _ h => h
  mapTag := fun _ _ h => h
  mapPeers := fun _ _ h => h
  mapLine := fun _ _ h => h
  mapCount := fun _ _ h => h
  setLevels := fun _ _ h => h
  setTransmitter := fun _ _ h => h
  setLineFault := fun _ _ h => h
  mapPending := fun _ _ _ h => h
  mapFe := fun _ _ hg h =>
    ⟨hg.tx.elim (fun x => Nat.le_trans x h.1) id, hg.rx.elim (fun x => Nat.le_trans x h.2) id⟩
  mapPool := fun _ _ _ h => h

theorem digestTrue_stable : CellStable State.digestTrue where
  mapHead := fun _ _ _ h => h
  mapSwap := fun _ _ _ h => h
  mapStore := fun _ _ h => h
  mapImage := fun _ _ h => h
  mapStop := fun _ _ h => h
  mapTag := fun _ _ h => h
  mapPeers := fun _ _ h => h
  mapLine := fun _ _ h => h
  mapCount := fun _ _ h => h
  setLevels := fun _ _ h => h
  setTransmitter := fun _ _ h => h
  setLineFault := fun _ _ h => h
  mapPending := fun _ _ _ h => h
  mapFe := fun _ _ _ h => h
  mapPool := fun g s hg h => by
    rcases hg with ⟨ht, hd⟩ | hd
    · show (g s.pool).digest = tableDigest (g s.pool).table
      rw [ht, hd]; exact h
    · exact hd

theorem pagesSound_stable : CellStable State.pagesSound where
  mapHead := fun _ _ _ h => h
  mapSwap := fun _ _ _ h => h
  mapStore := fun _ _ h => h
  mapImage := fun _ _ h => h
  mapStop := fun _ _ h => h
  mapTag := fun _ _ h => h
  mapPeers := fun _ _ h => h
  mapLine := fun _ _ h => h
  mapCount := fun _ _ h => h
  setLevels := fun _ _ h => h
  setTransmitter := fun _ _ h => h
  setLineFault := fun _ _ h => h
  mapPending := fun g s hg h => by
    obtain ⟨p, hp⟩ := hg s.life
    simp only [State.pagesSound, State.mapLife, hp]
    exact h
  mapFe := fun _ _ _ h => h
  mapPool := fun _ _ _ h => h

end Sys2Proof.Machine
end

