-- ==== Sys2Proof/Laws/Life.lean ====
section
/-! SUPPORT. The order of commits: the id and the page that the commit engine takes are those of R186 and R187. -/
namespace Sys2Proof.Machine

/-- The id served next is the one `nextPending` gives (R186). -/
theorem nextPending_of_serves {l : LifeStore} {id : Nat} (h : l.serves id) :
    nextPending l.lastId l.pending = some id := by
  obtain ⟨hm, h⟩ := h
  unfold nextPending
  by_cases hlt : l.lastId < id
  · simp only [hlt, if_true] at h
    have : (l.pending.filter fun k => l.lastId < k).min? = some id := by
      rw [List.min?_eq_some_iff]
      refine ⟨List.mem_filter.2 ⟨hm, by simpa using hlt⟩, fun k hk => ?_⟩
      rw [List.mem_filter] at hk
      exact h k hk.1 (by simpa using hk.2)
    rw [this]
  · simp only [hlt, if_false] at h
    have h1 : (l.pending.filter fun k => l.lastId < k) = [] := by
      rw [List.filter_eq_nil_iff]
      intro k hk
      have := (h k hk).1
      simp only [decide_eq_true_eq]
      omega
    have h2 : l.pending.min? = some id := by
      rw [List.min?_eq_some_iff]
      exact ⟨hm, fun k hk => (h k hk).2⟩
    rw [h1, h2]
    rfl

/-- The page allocated next is the one `allocate` gives (R187). -/
theorem allocate_of_takes {l : LifeStore} {p : Nat} (h : l.takes p) : l.allocate = some p := by
  obtain ⟨hm, h⟩ := h
  have hok : ∀ q, (!l.badPages.contains q && !l.map.any fun m => m.2 == q) = true
      ↔ (q ∉ l.badPages ∧ ∀ m ∈ l.map, m.2 ≠ q) := by
    intro q
    simp
  have hin : ∀ q, q ∈ dataPages ↔ 4 ≤ q ∧ q ≤ 63 := by
    intro q
    unfold dataPages
    simp only [List.mem_map, List.mem_range]
    constructor
    · rintro ⟨a, ha, rfl⟩
      omega
    · intro hq
      exact ⟨q - 4, by omega, by omega⟩
  have hsort : dataPages.Pairwise (· < ·) := by decide
  have first : ∀ t : List Nat, t.Pairwise (· < ·) → p ∈ t → (∀ q ∈ t, l.mayTake q → p ≤ q) →
      (∀ q ∈ t, 4 ≤ q ∧ q ≤ 63) →
      t.find? (fun q => !l.badPages.contains q && !l.map.any fun m => m.2 == q) = some p := by
    intro t
    induction t with
    | nil => intro _ hp; simp at hp
    | cons a t ih =>
      intro hs hp hq hr
      rw [List.find?_cons]
      by_cases ha : a = p
      · subst ha
        rw [(hok a).2 ⟨hm.2.2.1, hm.2.2.2⟩]
      · have hp' : p ∈ t := by
          rcases List.mem_cons.1 hp with h | h
          · exact absurd h.symm ha
          · exact h
        have hlt : a < p := (List.pairwise_cons.1 hs).1 p hp'
        have : (!l.badPages.contains a && !l.map.any fun m => m.2 == a) = false := by
          rw [Bool.eq_false_iff]
          intro hc
          have hc := (hok a).1 hc
          have ha' := hr a List.mem_cons_self
          have := hq a List.mem_cons_self ⟨ha'.1, ha'.2, hc.1, hc.2⟩
          omega
        rw [this]
        exact ih (List.pairwise_cons.1 hs).2 hp' (fun q h1 h2 => hq q (List.mem_cons_of_mem _ h1) h2)
          (fun q h1 => hr q (List.mem_cons_of_mem _ h1))
  unfold LifeStore.allocate searchOrder
  rw [List.find?_append]
  by_cases hlt : l.lastWritten < p
  · simp only [hlt, if_true] at h
    rw [first (dataPages.filter (l.lastWritten < ·)) (hsort.filter _)
      (List.mem_filter.2 ⟨(hin p).2 ⟨hm.1, hm.2.1⟩, by simpa using hlt⟩)
      (fun q hq ht => h q ht (by simpa using (List.mem_filter.1 hq).2))
      (fun q hq => (hin q).1 (List.mem_filter.1 hq).1)]
    rfl
  · simp only [hlt, if_false] at h
    have hnone : (dataPages.filter (l.lastWritten < ·)).find?
        (fun q => !l.badPages.contains q && !l.map.any fun m => m.2 == q) = none := by
      rw [List.find?_eq_none]
      intro q hq hc
      rw [List.mem_filter] at hq
      have hr := (hin q).1 hq.1
      have hc := (hok q).1 hc
      have := (h q ⟨hr.1, hr.2, hc.1, hc.2⟩).1
      have hq2 : l.lastWritten < q := by simpa using hq.2
      omega
    rw [hnone, first (dataPages.filter (· ≤ l.lastWritten)) (hsort.filter _)
      (List.mem_filter.2 ⟨(hin p).2 ⟨hm.1, hm.2.1⟩, by simpa using hlt⟩)
      (fun q _ ht => (h q ht).2)
      (fun q hq => (hin q).1 (List.mem_filter.1 hq).1)]
    rfl

end Sys2Proof.Machine
end

