-- ==== Sys2Proof/Laws/Memory.lean ====
section
/-! SUPPORT. The memory of the life store (R181): every operation keeps its canonical form, and what a byte reads as after
a write of one byte or of a page. -/
namespace Sys2Proof.Machine.Memory
open Sys2Proof.Config

/-- The canonical form, said of all cells at once. -/
theorem wfAbove_iff (low : Nat) (m : Memory) :
    wfAbove low m = true ↔
      m.Pairwise (fun a b => a.1 < b.1) ∧ ∀ c ∈ m, low ≤ c.1 ∧ c.1 < 8192 ∧ c.2 ≠ blankByte := by
  induction m generalizing low with
  | nil => simp [wfAbove]
  | cons c rest ih =>
    obtain ⟨a, b⟩ := c
    simp only [wfAbove, Bool.and_eq_true, decide_eq_true_eq, bne_iff_ne, ih, List.pairwise_cons, List.mem_cons,
      forall_eq_or_imp]
    constructor
    · rintro ⟨⟨⟨hl, hu⟩, hb⟩, hp, hc⟩
      exact ⟨⟨fun x hx => (hc x hx).1, hp⟩, ⟨hl, hu, hb⟩, fun x hx => ⟨by have := (hc x hx).1; omega, (hc x hx).2⟩⟩
    · rintro ⟨⟨hlt, hp⟩, ⟨hl, hu, hb⟩, hc⟩
      exact ⟨⟨⟨hl, hu⟩, hb⟩, hp, fun x hx => ⟨hlt x hx, (hc x hx).2⟩⟩

theorem wf_iff (m : Memory) :
    wf m = true ↔ m.Pairwise (fun a b => a.1 < b.1) ∧ ∀ c ∈ m, c.1 < 8192 ∧ c.2 ≠ blankByte := by
  simp [wf, wfAbove_iff]

theorem wf_nil : wf [] = true := rfl

/-! ## Reading -/

theorem read_of_not_mem {m : Memory} {a : Nat} (h : ∀ c ∈ m, c.1 ≠ a) : read m a = blankByte := by
  induction m with
  | nil => rfl
  | cons c rest ih =>
    obtain ⟨k, b⟩ := c
    have hk : k ≠ a := h (k, b) (List.mem_cons_self ..)
    simp only [read, if_neg hk]
    exact ih fun c hc => h c (List.mem_cons_of_mem _ hc)

theorem read_append (m n : Memory) (a : Nat) :
    read (m ++ n) a = if m.any (fun c => c.1 == a) then read m a else read n a := by
  induction m with
  | nil => simp
  | cons c rest ih =>
    obtain ⟨k, b⟩ := c
    by_cases hk : k = a
    · simp [read, hk]
    · simp [read, hk, ih]

theorem read_filter {p : Nat → Bool} (m : Memory) (a : Nat) (h : p a = true) :
    read (m.filter fun c => p c.1) a = read m a := by
  induction m with
  | nil => rfl
  | cons c rest ih =>
    obtain ⟨k, b⟩ := c
    by_cases hk : k = a
    · subst hk; simp [h, read]
    · by_cases hp : p k = true
      · simp [hp, read, hk, ih]
      · simp [hp, read, hk, ih]

/-! ## Writing one byte -/

theorem mem_write {m : Memory} {a : Nat} {b : Byte} {c : Host.Cell} (hc : c ∈ write m a b) :
    c ∈ m ∨ (c = (a, b) ∧ b ≠ blankByte) := by
  induction m with
  | nil =>
    simp only [write] at hc
    split at hc
    · simp at hc
    · right; rename_i hb; exact ⟨by simpa using hc, hb⟩
  | cons d rest ih =>
    obtain ⟨k, x⟩ := d
    simp only [write] at hc
    split at hc
    · rcases List.mem_cons.1 hc with h | h
      · exact .inl (h ▸ List.mem_cons_self ..)
      · rcases ih h with h | h
        · exact .inl (List.mem_cons_of_mem _ h)
        · exact .inr h
    · split at hc
      · split at hc
        · exact .inl (List.mem_cons_of_mem _ hc)
        · rename_i hb
          rcases List.mem_cons.1 hc with h | h
          · exact .inr ⟨h, hb⟩
          · exact .inl (List.mem_cons_of_mem _ h)
      · split at hc
        · exact .inl hc
        · rename_i hb
          rcases List.mem_cons.1 hc with h | h
          · exact .inr ⟨h, hb⟩
          · exact .inl h

theorem write_pairwise {m : Memory} {a : Nat} {b : Byte} (hm : m.Pairwise fun x y => x.1 < y.1) :
    (write m a b).Pairwise fun x y => x.1 < y.1 := by
  induction m with
  | nil => simp only [write]; split <;> simp
  | cons d rest ih =>
    obtain ⟨k, x⟩ := d
    rw [List.pairwise_cons] at hm
    simp only [write]
    split
    · rename_i hk
      refine List.pairwise_cons.2 ⟨fun c hc => ?_, ih hm.2⟩
      rcases mem_write hc with h | ⟨h, -⟩
      · exact hm.1 c h
      · subst h; exact hk
    · split
      · rename_i hka
        subst hka
        split
        · exact hm.2
        · exact List.pairwise_cons.2 ⟨hm.1, hm.2⟩
      · split
        · exact List.pairwise_cons.2 hm
        · refine List.pairwise_cons.2 ⟨fun c hc => ?_, List.pairwise_cons.2 hm⟩
          rcases List.mem_cons.1 hc with h | h
          · subst h; simp only; omega
          · have := hm.1 c h; simp only at this ⊢; omega

/-- A byte written inside the 64 pages keeps the canonical form. -/
theorem wf_write {m : Memory} {a : Nat} {b : Byte} (hm : wf m = true) (ha : a < 8192) : wf (write m a b) = true := by
  rw [wf_iff] at hm ⊢
  refine ⟨write_pairwise hm.1, fun c hc => ?_⟩
  rcases mem_write hc with h | ⟨rfl, hb⟩
  · exact hm.2 c h
  · exact ⟨ha, hb⟩

theorem read_write_self {m : Memory} {a : Nat} {b : Byte} (hm : m.Pairwise fun x y => x.1 < y.1) :
    read (write m a b) a = b := by
  induction m with
  | nil => simp only [write]; split <;> simp_all [read]
  | cons d rest ih =>
    obtain ⟨k, x⟩ := d
    rw [List.pairwise_cons] at hm
    simp only [write]
    split
    · rename_i hk
      simp only [read, if_neg (Nat.ne_of_lt hk)]
      exact ih hm.2
    · split
      · rename_i hka
        subst hka
        split
        · rename_i hb
          rw [hb]
          exact read_of_not_mem fun c hc => Nat.ne_of_gt (hm.1 c hc)
        · simp [read]
      · split
        · rename_i h1 h2 hb
          rw [hb]
          refine read_of_not_mem fun c hc => ?_
          rcases List.mem_cons.1 hc with h | h
          · subst h; simp only; omega
          · have := hm.1 c h; simp only at this; omega
        · simp [read]

theorem read_write_other {m : Memory} {a a' : Nat} {b : Byte} (h : a' ≠ a) : read (write m a b) a' = read m a' := by
  induction m with
  | nil => simp only [write]; split <;> simp [read, Ne.symm h]
  | cons d rest ih =>
    obtain ⟨k, x⟩ := d
    simp only [write]
    split
    · simp only [read, ih]
    · split
      · rename_i hk
        subst hk
        split <;> simp [read, Ne.symm h]
      · split
        · rfl
        · simp [read, Ne.symm h]

/-! ## Writing a page -/

theorem mem_cellsFrom {bs : List Byte} {a : Nat} {c : Host.Cell} (hc : c ∈ cellsFrom a bs) :
    a ≤ c.1 ∧ c.1 < a + bs.length ∧ c.2 ≠ blankByte := by
  induction bs generalizing a with
  | nil => simp [cellsFrom] at hc
  | cons b bs ih =>
    simp only [cellsFrom] at hc
    split at hc
    · have := ih hc; simp only [List.length_cons]; exact ⟨by omega, by omega, this.2.2⟩
    · rename_i hb
      rcases List.mem_cons.1 hc with h | h
      · subst h; simp only [List.length_cons]; exact ⟨Nat.le_refl _, by omega, hb⟩
      · have := ih h; simp only [List.length_cons]; exact ⟨by omega, by omega, this.2.2⟩

theorem cellsFrom_pairwise (a : Nat) (bs : List Byte) : (cellsFrom a bs).Pairwise fun x y => x.1 < y.1 := by
  induction bs generalizing a with
  | nil => simp [cellsFrom]
  | cons b bs ih =>
    simp only [cellsFrom]
    split
    · exact ih _
    · exact List.pairwise_cons.2 ⟨fun c hc => by have := mem_cellsFrom hc; simp only; omega, ih _⟩

theorem fitPage_length (bytes : List Byte) : (fitPage bytes).length = 128 := by
  simp only [fitPage, List.length_append, List.length_take, List.length_replicate]; omega

/-- A page written, one of the 64, keeps the canonical form. -/
theorem wf_writePage {m : Memory} {p : Nat} (bytes : List Byte) (hm : wf m = true) (hp : p < 64) :
    wf (writePage m p bytes) = true := by
  rw [wf_iff] at hm ⊢
  have hl := fitPage_length bytes
  constructor
  · refine List.pairwise_append.2 ⟨List.pairwise_append.2 ⟨hm.1.filter _, cellsFrom_pairwise _ _, ?_⟩,
      hm.1.filter _, ?_⟩
    · intro x hx y hy
      have h1 := (List.mem_filter.1 hx).2
      have h2 := mem_cellsFrom hy
      simp only [decide_eq_true_eq] at h1
      omega
    · intro x hx y hy
      have h2 := (List.mem_filter.1 hy).2
      simp only [decide_eq_true_eq] at h2
      rcases List.mem_append.1 hx with h | h
      · have h1 := (List.mem_filter.1 h).2
        simp only [decide_eq_true_eq] at h1
        omega
      · have h1 := mem_cellsFrom h
        omega
  · intro c hc
    rcases List.mem_append.1 hc with h | h
    · rcases List.mem_append.1 h with h | h
      · exact hm.2 c (List.mem_filter.1 h).1
      · have h1 := mem_cellsFrom h
        exact ⟨by omega, h1.2.2⟩
    · exact hm.2 c (List.mem_filter.1 h).1

theorem read_cellsFrom (bs : List Byte) (a k : Nat) (hk : k < bs.length) :
    read (cellsFrom a bs) (a + k) = (bs[k]?).getD blankByte := by
  induction bs generalizing a k with
  | nil => simp at hk
  | cons b bs ih =>
    simp only [cellsFrom]
    cases k with
    | zero =>
      split
      · rename_i hb
        simp only [Nat.add_zero, List.getElem?_cons_zero, Option.getD_some, hb]
        exact read_of_not_mem fun c hc => by have := mem_cellsFrom hc; omega
      · simp [read]
    | succ k =>
      have hk' : k < bs.length := by simpa using hk
      have e : a + (k + 1) = a + 1 + k := by omega
      split
      · rw [e, ih (a + 1) k hk']; simp
      · simp only [read, if_neg (show a ≠ a + (k + 1) by omega)]
        rw [e, ih (a + 1) k hk']; simp

/-- A byte of another page reads as it did. -/
theorem read_writePage_other {m : Memory} {p a : Nat} (bytes : List Byte) (h : a < 128 * p ∨ 128 * p + 128 ≤ a) :
    read (writePage m p bytes) a = read m a := by
  have hl := fitPage_length bytes
  have hcells : ∀ c ∈ cellsFrom (128 * p) (fitPage bytes), c.1 ≠ a := fun c hc => by
    have := mem_cellsFrom hc; omega
  have hany : (cellsFrom (128 * p) (fitPage bytes)).any (fun c => c.1 == a) = false := by
    rw [List.any_eq_false]; intro c hc; simpa using hcells c hc
  unfold writePage
  rw [read_append, read_append]
  rcases h with h | h
  · have hhi : read (m.filter fun c => decide (128 * p + 128 ≤ c.1)) a = blankByte :=
      read_of_not_mem fun c hc => by have := (List.mem_filter.1 hc).2; simp only [decide_eq_true_eq] at this; omega
    have hlo := read_filter (p := fun k => decide (k < 128 * p)) m a (by simpa using h)
    by_cases hlow : ((m.filter fun c => decide (c.1 < 128 * p))).any (fun c => c.1 == a) = true
    · rw [List.any_append, hlow]; simp [hlo]
    · simp only [Bool.not_eq_true] at hlow
      rw [List.any_append, hlow, hany]
      simp only [Bool.or_false, Bool.false_eq_true, if_false, hhi]
      rw [← hlo]
      refine (read_of_not_mem fun c hc => ?_).symm
      rw [List.any_eq_false] at hlow
      simpa using hlow c hc
  · have hlow : ((m.filter fun c => decide (c.1 < 128 * p))).any (fun c => c.1 == a) = false := by
      rw [List.any_eq_false]; intro c hc
      have := (List.mem_filter.1 hc).2
      simp only [decide_eq_true_eq] at this
      simp only [beq_iff_eq]; omega
    rw [List.any_append, hlow, hany]
    simp only [Bool.or_false, Bool.false_eq_true, if_false]
    exact read_filter (p := fun k => decide (128 * p + 128 ≤ k)) m a (by simpa using h)

end Sys2Proof.Machine.Memory
end

