-- ==== Sys2Proof/Laws/Resync.lean ====
section
/-! SUPPORT. What a pool resync makes of each unit (R105, R108, R166, R179, R180), and what the end of a transmission
without an outcome makes of the transmit queue (R30). -/
namespace Sys2Proof.Machine
open State Sys2Proof.Config

/-! ## The transmit queue -/

theorem find?_offLine (l : List TxEntry) :
    (l.map fun e => ({ e with onLine := false } : TxEntry)).find? (·.onLine) = none := by
  induction l with
  | nil => rfl
  | cons e l _ => simp

/-- A state whose transmit queue is the one that `leaveLine` leaves has its transmission over, with the frame in place. -/
theorem frameStays_of_leaveLine {s t : State} (h : t.fe.txQueue = (leaveLine s).fe.txQueue) : frameStays s t := by
  refine ⟨h, ?_⟩
  have hl : (leaveLine s).fe.txQueue
      = (s.fe.txQueue.filter fun e => !(e.onLine && e.withdrawn)).map fun e => { e with onLine := false } := rfl
  unfold State.ownOnLine State.lineEntry
  rw [h, hl, find?_offLine]
  split <;> rfl

/-! ## Pool resync -/

theorem swapResynced_swapResync (h : Head) (s : State) : swapResynced h s (swapResync h s) := by
  unfold swapResynced swapResync State.claimedFamily enterBackoff
  cases hst : (s.swap h).state <;> simp only [hst] <;> cases h <;>
    first | rfl | (simp [State.mapSwap, State.swap] at *; first | done | rfl | exact hst)

theorem headResynced_headResync (h : Head) (s : State) : headResynced h s (headResync h s) := by
  cases h <;> rfl

theorem storeResynced_storeResync (s : State) : storeResynced s (storeResync s) := by
  unfold storeResync storeResynced
  cases hj : s.store.job with
  | none => simp [withdrawImagePages, State.mapStore, State.mapLife, hj]
  | some j =>
    obtain ⟨j, p⟩ := j
    cases p <;> cases hk : j.kind <;> simp [withdrawImagePages, State.mapStore, State.mapLife, hj, hk]
    all_goals cases s.store.heldCompletion <;> simp [heldOf]
    all_goals
      cases s.store.jobFrame with
      | none => rfl
      | some f =>
        obtain ⟨f, st⟩ := f
        cases f <;> rfl

theorem imageResync_image (s : State) :
    (imageResync s).image = { s.image with
      askTimer := none, askCount := 0, partSinceAsk := false, collection := none, responder := .idle, part0Sent := false
      buffer := none, repeatPending := false, watch := none, deferred := none } := by
  simp [imageResync, withdrawImage, endTransfer, withdrawFrames, State.mapImage, State.mapFe, ImageUnit.settled]

/-- What a pool purge and the image unit's part of a pool resync leave in the transmit queue and of the held requests. -/
theorem imageResync_purgePool_queue (s : State) :
    (∀ e ∈ (imageResync (purgePool s)).fe.txQueue, e.payload.isPool = true ∨ e.origin = .imageUnit →
        e.onLine = true ∧ e.withdrawn = true)
      ∧ (∀ e ∈ s.fe.txQueue, e.payload.isPool = false → e.origin ≠ .imageUnit →
          e ∈ (imageResync (purgePool s)).fe.txQueue)
      ∧ ∀ r ∈ (imageResync (purgePool s)).fe.held, r.2.isPool = false ∧ r.1 ≠ .imageUnit := by
  simp only [imageResync, withdrawImage, endTransfer, withdrawFrames, purgePool, State.mapImage, State.mapFe,
    FrameEngine.removed]
  refine ⟨?_, ?_, ?_⟩
  · intro e he h
    simp only [List.mem_map, List.mem_filter] at he
    obtain ⟨a, ⟨⟨b, ⟨⟨c, ⟨hc, h1⟩, rfl⟩, h2⟩, rfl⟩, h3⟩, rfl⟩ := he
    obtain ⟨o, p, n, l, w⟩ := c
    by_cases c1 : p.isPool = true <;> by_cases c2 : o = Origin.imageUnit <;> by_cases c3 : l = true <;>
      by_cases c4 : isPart p = true <;> simp_all
  · intro e he h1 h2
    simp only [List.mem_map, List.mem_filter]
    refine ⟨e, ⟨⟨e, ⟨⟨e, ⟨he, ?_⟩, ?_⟩, ?_⟩, ?_⟩, ?_⟩, ?_⟩ <;> simp_all
  · intro r hr
    simp only [List.mem_filter] at hr
    simp_all

end Sys2Proof.Machine
end

