-- ==== Sys2Proof/Laws/Service.lean ====
section
/-! SUPPORT. What taking a read of the service port changes beside its answer (R135, R201). -/
namespace Sys2Proof.Machine
open State

/-- Taking a read tells sensor levels of the heads, and nothing else. -/
theorem tellRead_eq (r : ServiceRead) (s : State) :
    tellRead r s = { s with levels := { s.levels with heads := (tellRead r s).levels.heads } } := by
  unfold tellRead
  split
  · unfold tellSensors; split <;> rfl
  all_goals rfl

/-- A READ_HEAD of a live head takes the LOAD and DRESS levels it tells. -/
theorem tellRead_head (h : Head) (load dress : Bool) (s : State) (hl : s.headsLive = true) :
    (tellRead (.head h load dress) s).headLevels h = { s.headLevels h with load := load, dress := dress } := by
  unfold tellRead; dsimp only [tellSensors]
  rw [if_pos hl]
  cases h <;> rfl

end Sys2Proof.Machine
end

