-- ==== Sys2Proof/Laws/StopCall.lean ====
section
/-! SUPPORT. What the stop call unit does with its requests (R40 to R43), case by case: the operations of the matcher's
ends meet `attemptFails` and `attemptCompletes` of Safety.lean. -/
namespace Sys2Proof.Machine
open State

theorem awaitingResolution_cons {s : State} {q : StopRequest} {rs : List StopRequest} (h : s.stop.requests = q :: rs) :
    s.awaitingResolution = q.awaiting := by simp [awaitingResolution, h]

/-- The first request is sent (R41). -/
theorem stopSend_sent {s : State} {q : StopRequest} {rs : List StopRequest} (h : s.stop.requests = q :: rs) :
    requestSent s q rs (stopSend s) := by
  unfold stopSend
  rw [h]
  cases s.transmitter <;>
    simp [requestSent, leaveLine, removeFrames, lineBusy, LineInterface.busy, State.mapFe, State.mapLine, State.mapStop,
      State.ownCall, stopChars, State.station]

/-- A sending leaves the matcher. -/
theorem stopSend_matcher (s : State) :
    (stopSend s).stop.matcher = s.stop.matcher ∧ (stopSend s).stop.event = s.stop.event
      ∧ (stopSend s).stop.failHeld = s.stop.failHeld := by
  unfold stopSend
  split
  · exact ⟨rfl, rfl, rfl⟩
  · cases s.transmitter <;> exact ⟨rfl, rfl, rfl⟩

/-- The first request is removed (R40). -/
theorem removeStopRequest_removed {s : State} {q : StopRequest} {rs : List StopRequest} (h : s.stop.requests = q :: rs) :
    requestRemoved s s.transmitter rs (removeStopRequest s)
      ∧ (rs = [] → (removeStopRequest s).stop.latch = s.stop.latch) := by
  unfold removeStopRequest
  cases rs with
  | nil => simp [requestRemoved, stopSend, State.mapStop, h]
  | cons q' rs' =>
    refine ⟨?_, by simp⟩
    exact stopSend_sent (s := s.mapStop fun u => { u with requests := u.requests.tail }) (by simp [State.mapStop, h])

theorem resendRequest_idle {s : State} (h : s.awaitingResolution = false) : resendRequest s = s := by
  simp [resendRequest, h]

/-- The request awaiting resolution is sent again, or removed after its fourth sending (R42). -/
theorem resendRequest_fails {s : State} (h : s.stop.matcher = .idle) : attemptFails s s.transmitter (resendRequest s) := by
  constructor
  · intro ha
    rw [resendRequest_idle ha, ← h]
    exact ⟨rfl, rfl⟩
  · intro q rs hq ha
    have hw : s.awaitingResolution = true := (awaitingResolution_cons hq).trans ha
    generalize hx : s.mapStop (fun u => { u with failHeld := false }) = x
    have hr : resendRequest s = if 4 ≤ q.sends then removeStopRequest x else stopSend x := by
      subst hx; simp [resendRequest, hw, State.mapStop, hq]
    rw [hr]
    have hq' : x.stop.requests = q :: rs := by subst hx; exact hq
    have hm := stopSend_matcher x
    have hm' := stopSend_matcher (x.mapStop fun u => { u with requests := u.requests.tail })
    refine ⟨?_, ?_, ?_, fun hs => ?_, fun hs => ?_⟩
    · split
      exacts [hm'.1.trans (by subst hx; exact h), hm.1.trans (by subst hx; exact h)]
    · split
      exacts [hm'.2.2.trans (by subst hx; rfl), hm.2.2.trans (by subst hx; rfl)]
    · split
      exacts [hm'.2.1.trans (by subst hx; rfl), hm.2.1.trans (by subst hx; rfl)]
    · rw [if_neg (by omega)]; subst hx; exact stopSend_sent hq'
    · rw [if_pos hs]; subst hx; exact removeStopRequest_removed hq'

/-- A failed attempt (R42, R43). -/
theorem matcherFailed_fails (s : State) : attemptFails s s.transmitter (matcherFailed s) :=
  resendRequest_fails (s := setMatcher .idle s) rfl

/-- A completed attempt (R42, R45). -/
theorem matcherComplete_completes (stamp : Time) (sender : Option Station) (s : State) :
    attemptCompletes s s.transmitter ⟨stamp, sender⟩ (matcherComplete stamp sender s) := by
  constructor
  · intro ha
    have hw : (s.mapStop fun u => { u with matcher := .idle, event := some ⟨stamp, sender⟩ }).awaitingResolution = false := ha
    simp only [matcherComplete, satisfyRequest, hw]
    exact ⟨rfl, rfl⟩
  · intro q rs hq ha
    have hw : (s.mapStop fun u => { u with matcher := .idle, event := some ⟨stamp, sender⟩ }).awaitingResolution = true :=
      (awaitingResolution_cons (rs := rs) (q := q) hq).trans ha
    simp only [matcherComplete, satisfyRequest, hw, if_true]
    have hm := stopSend_matcher ((s.mapStop fun u => { u with matcher := .idle, event := some ⟨stamp, sender⟩ }).mapStop
      fun u => { u with requests := u.requests.tail })
    exact ⟨hm.1, hm.2.1, removeStopRequest_removed (q := q) hq⟩

/-- A break or a disturbance ends the attempt (R43). -/
theorem matcherInterrupted_ends (s : State) :
    (s.stop.matcher = .idle → matcherInterrupted s = s)
      ∧ attemptEnds (fun _ => false) s s.transmitter (matcherInterrupted s) := by
  unfold matcherInterrupted attemptEnds
  cases s.stop.matcher with
  | idle => exact ⟨fun _ => rfl, trivial⟩
  | sync stamp n => exact ⟨nofun, matcherFailed_fails s⟩
  | code stamp taken matched missed => exact ⟨nofun, matcherFailed_fails s⟩
  | sender stamp => exact ⟨nofun, matcherComplete_completes stamp none s⟩
  | complement stamp data good => exact ⟨nofun, matcherComplete_completes stamp none s⟩

/-- Line free ends the attempt, or resolves a request with none (R42, R43). -/
theorem matcherLineFree_ends (s : State) :
    (s.stop.matcher = .idle → attemptFails s s.transmitter (matcherLineFree s))
      ∧ attemptEnds (fun matched => decide (5 ≤ matched)) s s.transmitter (matcherLineFree s) := by
  unfold matcherLineFree attemptEnds
  cases h : s.stop.matcher with
  | idle => exact ⟨fun _ => resendRequest_fails h, trivial⟩
  | sync stamp n => exact ⟨nofun, matcherFailed_fails s⟩
  | code stamp taken matched missed =>
    refine ⟨nofun, ?_⟩
    by_cases hm : 5 ≤ matched
    · simp only [hm, decide_true, if_true]; exact matcherComplete_completes stamp none s
    · simp only [hm, decide_false, if_false]; exact matcherFailed_fails s
  | sender stamp => exact ⟨nofun, matcherComplete_completes stamp none s⟩
  | complement stamp data good => exact ⟨nofun, matcherComplete_completes stamp none s⟩

/-! ## The states they start from -/

/-- What fails looks only at the stop call unit and at what a call of this station carries. -/
theorem attemptFails.of_stop {s u t : State} {still : Transmitter} (h : attemptFails s still t) (hs : s.stop = u.stop)
    (hc : s.ownCall = u.ownCall) : attemptFails u still t := by
  unfold attemptFails requestRemoved requestSent awaitingResolution at *
  rwa [hs, hc] at h

theorem attemptCompletes.of_stop {s u t : State} {still : Transmitter} {event : StopEvent}
    (h : attemptCompletes s still event t) (hs : s.stop = u.stop) (hc : s.ownCall = u.ownCall) :
    attemptCompletes u still event t := by
  unfold attemptCompletes requestRemoved requestSent awaitingResolution at *
  rwa [hs, hc] at h

theorem attemptEnds.of_stop {s u t : State} {still : Transmitter} {recognised : Nat → Bool}
    (h : attemptEnds recognised s still t) (hs : s.stop = u.stop) (hc : s.ownCall = u.ownCall) :
    attemptEnds recognised u still t := by
  unfold attemptEnds at *
  rw [hs] at h
  split at h
  · trivial
  · exact h.of_stop hs hc
  · split at h
    next hr => rw [if_pos hr]; exact h.of_stop hs hc
    next hr => rw [if_neg hr]; exact h.of_stop hs hc
  · exact h.of_stop hs hc
  · exact h.of_stop hs hc

end Sys2Proof.Machine
end

