-- ==== Sys2Proof/Laws/Store.lean ====
section
/-! SUPPORT. Where a job that arrives goes in the dispatch queue (R170), and what leaves a job in STARTING (R172). -/
namespace Sys2Proof.Machine

/-- An arriving job goes right behind the last queued job whose key is not later than its own, and the others keep their
order. -/
theorem insertJob_place (now : Time) (j : Job) (l : List Job) :
    ∃ before behind, l = before ++ behind ∧ insertJob now j l = before ++ j :: behind
      ∧ (∀ q ∈ behind, j.notLater now q = false)
      ∧ ∀ q, before.getLast? = some q → j.notLater now q = true := by
  induction l with
  | nil => exact ⟨[], [], rfl, rfl, by simp, by simp⟩
  | cons q qs ih =>
    unfold insertJob
    split
    next h =>
      obtain ⟨before, behind, hl, hi, hb, hf⟩ := ih
      refine ⟨q :: before, behind, by rw [hl]; rfl, by rw [hi]; rfl, hb, fun x hx => ?_⟩
      cases before with
      | nil =>
        obtain rfl : q = x := by simpa using hx
        simp only [List.any_cons, Bool.or_eq_true, List.any_eq_true] at h
        rcases h with h | ⟨y, hy, h⟩
        · exact h
        · rw [hl] at hy
          rw [hb y (by simpa using hy)] at h
          exact absurd h (by decide)
      | cons b bs => exact hf x (by simpa [List.getLast?_cons_cons] using hx)
    next h =>
      simp only [Bool.not_eq_true, List.any_eq_false] at h
      exact ⟨[], q :: qs, rfl, rfl, fun x hx => by simpa using h x hx, by simp⟩

/-- A frame that does not take the wheel of the job in STARTING out of CLAIMED leaves the job as it is (R172). -/
theorem startingTaken_of_not_taken {f : PoolFrame} {before after : Table} {s : State}
    (h : ∀ j, s.store.job = some j → claimedIn before j.job.serial = true → claimedIn after j.job.serial = true) :
    startingTaken f before after s = s := by
  unfold startingTaken
  split
  · next j hj =>
    refine if_neg fun ⟨_, _, hb, ha⟩ => ?_
    rw [h j hj hb] at ha
    exact absurd ha (by decide)
  · rfl

end Sys2Proof.Machine
end

