-- ==== Sys2Proof/Laws/Swap.lean ====
section
/-! SUPPORT. When the frames that a swap unit has called for go out (R152). -/
namespace Sys2Proof.Machine
open State

variable {h : Head} {s : State}

/-- With no frame called for nothing goes. -/
theorem swapPump_nil (hw : (s.swap h).wants = []) : swapPump h s = s := by
  unfold swapPump; rw [hw]; rfl

/-- While a frame is outstanding nothing goes. -/
theorem swapPump_outstanding (ho : (s.swap h).outstanding.isSome = true) : swapPump h s = s := by
  unfold swapPump
  cases (s.swap h).wants with
  | nil => rfl
  | cons w ws => exact if_pos (.inl ho)

/-- The only frame called for goes when none is outstanding and it waits for nothing. -/
theorem swapPump_single {w : Want} (hw : (s.swap h).wants = [w]) (ho : (s.swap h).outstanding = none)
    (hf : s.wantWaits h w = false) :
    swapPump h s = takeWant h w (s.mapSwap h fun u => { u with wants := [] }) := by
  unfold swapPump; rw [hw]; unfold swapPumpFrom
  rw [if_neg (by simp [ho, hf])]; rfl

/-- A submission that is not refused at once becomes the outstanding frame, admitted or held (R32, R152). -/
theorem submitRetryable_taken {f : PoolFrame} (hr : s.refusedAtOnce (.pool f) = false) :
    submitRetryable h f s
      = (submit (.swapUnit h) (.pool f) s).1.mapSwap h fun u => { u with outstanding := some ⟨f, false, u.state⟩ } := by
  unfold submitRetryable submit; dsimp only
  rw [if_neg (by simp [hr])]
  by_cases hm : s.txRoom = true
  · simp only [hm, if_true]
  · simp only [hm]; rfl

/-- A submission that is refused at once waits for its next one (R152). -/
theorem submitRetryable_refused {f : PoolFrame} (hr : s.refusedAtOnce (.pool f) = true) :
    submitRetryable h f s
      = s.mapSwap h fun u => { u with retries := u.retries ++ [⟨f, s.timer s.rollInterval, u.state⟩] } := by
  unfold submitRetryable submit; dsimp only
  rw [if_pos hr]

end Sys2Proof.Machine
end

