-- ==== Sys2Proof/WellFormed.lean ====
section
/-! DEFINITION. Well-formed commands: the operand values that the part can be given. The meanings are total and do not
assume it; a statement that needs it names it. -/
namespace Sys2Proof

/-- The command bytes that Formats 13.6 defines. -/
def definedCommands : List Byte :=
  [0x10#8, 0x11#8, 0x12#8, 0x13#8, 0x20#8, 0x21#8, 0x22#8, 0x23#8, 0x24#8]

/-- A sync character gives its start edge, its measurement, or both (R10). -/
def syncOperandsOk (start : Option SyncStart) (measure : Option SyncMeasure) : Bool :=
  start.isSome || measure.isSome

/-- A part of a frame that sends only one level (R14's table shows a dash for the other). -/
def readbackOk : ReadbackPlace → Bool → Bool
  | .frame .breakPart, sentRecessive => !sentRecessive
  | .frame .delimiter, sentRecessive => sentRecessive
  | .frame .vetoSlot, _ => false
  | .stopCall .longBreak, sentRecessive => !sentRecessive
  | .stopCall .delimiter, sentRecessive => sentRecessive
  | _, _ => true

/-- The operands of a command are ones the part can be given. -/
def Instr.wellFormed : Instr → Bool
  | .syncCharacter start measure => syncOperandsOk start measure
  | .dominantRunEnd run => 0 < run.slots
  | .vetoSlotEnd bits _ => bits.length == 11
  | .readbackMismatch place sentRecessive => readbackOk place sentRecessive
  | .pageEraseDone content => content.length == 128
  | .pageProgramDone content => content.length == 128
  | .load count bytes => bytes.length == count.toNat
  | .commitConfig _ reads => reads.length ≤ 4 && reads.all (·.length == 128)
  | .eraseData reads => reads.length ≤ 60 && reads.all (·.length == 128)
  | .undefinedCommand command => !definedCommands.contains command
  | .reset | .startUp _ _ | .loopbackSelfTestEnd _ _ | .syncTimeout | .framePathCharacter _ | .lineFree | .watchExpectedEnd
  | .transmitStart _ | .transmitOvertaken | .heldRequestAdmit | .stopCallSendComplete | .stopCharacter _
  | .rollTimerExpire | .roll | .peerItem | .peerSilenceTimeout _ | .disagreementRecordExpire
  | .enter | .claim | .dispatch | .deliver | .mount | .declare | .release | .quarantine | .rack | .remove
  | .imageAsk | .imagePart | .askTimerExpire | .imageWatchExpire
  | .dressStroke _ _ | .grindRise _ | .grindFall _ | .ackEvent _ | .contactRise _ | .contactFall _
  | .maximumContactTimerExpire _ | .contactTimeoutExpire _ | .loadPulse _ | .loadGateEnd _
  | .breakageReportRetry _ | .reconciliationDeclareRetry _ | .claimLifetimeExpire _ | .backoffExpire _
  | .changePosRise _ | .confirmWindowExpire _ | .swapFrameRetry _ | .swapTagRecord _
  | .tagByte _ _ | .tagGapTimeout | .storeTagRecord | .jobStart _ | .jobStrobeEnd _ | .gantryReadyRise
  | .gantryDone _ | .gantryFault _ | .claimWatchExpire _ | .storeFrameRetry | .commitStart | .commitMarkDone _
  | .clear | .readPage _ | .readHead _ _ _ | .readPool _ | .readPeer _ | .readCounters | .transactionEnd => true

end Sys2Proof
end

