-- ==== Sys2Proof/Tests/Slice0.lean ====
section
/-! SUPPORT. Small tests: ill-formed commands that the check refuses, known values of the formats, one or two steps of
each block, and for each statement a state and operands that meet its hypotheses. -/
namespace Sys2Proof.Tests
open Sys2Proof Sys2Proof.Machine

-- One theorem at a time: each waits for the kernel, and many at once take a thread each.
set_option Elab.async false

/-! ## Helpers -/

/-- The state a command gives. -/
def after (c : Instr) (s : State) : State :=
  match exec c s with
  | .next t => t
  | .fault _ | .refused _ => s

/-- The state a list of commands gives, one after another. -/
def afterAll (cs : List Instr) (s : State) : State := cs.foldl (fun s c => after c s) s

/-- A family with worn line 520800, last line 520040 and claim threshold 520840. -/
def family : Family := ⟨600000, 520000, 40, 5, 10, 1000, 20, 3, 40, 1000, 500⟩

def constants : StationConstants := ⟨0x5A, true, 100, 10, 20, 10, ⟨1, 2⟩⟩

/-- A live station that is SYNCED with an empty pool, its line idle and free. -/
def live (storeRole : Bool) : State :=
  { State.reset with
    timeBase := 1000, phase := .live, straps := ⟨5, storeRole, 0, false⟩, constants := constants
    families := List.replicate 16 family
    line := { LineInterface.afterReset with rx := .idle, free := true, freeTimer := 12 }
    pool := { PoolEngine.afterReset with sync := .synced } }

def grinder : State := live false
def store : State := live true

/-- A wheel on head 0 in a condition. -/
def wheel (diameter : Diameter) (c : Condition) : HeadRecord := ⟨7, 1, diameter, 0, 0, none, c⟩

def withRecord (r : HeadRecord) (s : State) : State := s.mapHead .h0 fun u => { u with record := some r }

def checks : CheckSet := ⟨10, 10, 1000, 3, 40, 500, 1000⟩

/-- A cycle with a contact since the time base value 0 and a full first gate of 20 pulses. -/
def contactCycle : Cycle := ⟨true, false, false, checks, some 0, .stopped, some ⟨0, 1000⟩, some ⟨0, 20⟩, 0⟩

def withCycle (c : Cycle) (s : State) : State := s.mapHead .h0 fun u => { u with cycle := some c }

def withLevels (l : HeadLevels) (s : State) : State := s.mapLevels .h0 fun _ => l

def withSwap (f : SwapUnit → SwapUnit) (s : State) : State := s.mapSwap .h0 f

/-- An item of station 9, for the consumers named. -/
def item (k : Kind) (r : Role) (data : List Byte) (peers pool image : Bool) : RxItem :=
  ⟨k, r, true, false, 9, data, 900, none, peers, pool, image⟩

def withQueue (q : List RxItem) (s : State) : State := setRxQueue q s

/-- A timer that is due at 1000. -/
def dueTimer : Timer := ⟨0, 1000⟩

/-! ## Ill-formed commands are refused -/

theorem test_syncCharacter_needs_a_part : (Instr.syncCharacter none none).wellFormed = false := by decide
theorem test_dominantRunEnd_needs_a_slot :
    (Instr.dominantRunEnd ⟨0, .line, false, 0⟩).wellFormed = false := by decide
theorem test_vetoSlotEnd_needs_eleven_bits :
    (Instr.vetoSlotEnd (List.replicate 10 (cleanBit true)) false).wellFormed = false := by decide
theorem test_readbackMismatch_needs_a_compared_level :
    (Instr.readbackMismatch (.frame .breakPart) true).wellFormed = false
      ∧ (Instr.readbackMismatch (.frame .delimiter) false).wellFormed = false
      ∧ (Instr.readbackMismatch (.frame .vetoSlot) true).wellFormed = false
      ∧ (Instr.readbackMismatch (.stopCall .longBreak) true).wellFormed = false
      ∧ (Instr.readbackMismatch (.stopCall .delimiter) false).wellFormed = false := by decide
theorem test_page_reads_need_128_bytes :
    (Instr.pageEraseDone (List.replicate 127 0)).wellFormed = false
      ∧ (Instr.pageProgramDone (List.replicate 129 0)).wellFormed = false := by decide +kernel
theorem test_load_needs_its_count : (Instr.load 2 [0]).wellFormed = false := by decide
theorem test_commitConfig_needs_its_reads :
    (Instr.commitConfig 0 (List.replicate 5 (List.replicate 128 0))).wellFormed = false
      ∧ (Instr.commitConfig 0 [[0]]).wellFormed = false := by decide +kernel
theorem test_eraseData_needs_its_reads :
    (Instr.eraseData (List.replicate 61 (List.replicate 128 0))).wellFormed = false
      ∧ (Instr.eraseData [[0]]).wellFormed = false := by decide +kernel
theorem test_undefinedCommand_is_not_defined : (Instr.undefinedCommand 0x10).wellFormed = false := by decide
theorem test_wellFormed_admits : (Instr.dominantRunEnd ⟨1, .line, false, 0⟩).wellFormed = true
    ∧ (Instr.load 1 [0]).wellFormed = true ∧ (Instr.undefinedCommand 0x25).wellFormed = true := by decide

/-! ## Known values of the formats -/

theorem test_no_word_spells_a_command : decodeTableWord 16 0x1234 = none := rfl
theorem test_crc_of_the_digits :
    crc16 [0x31, 0x32, 0x33, 0x34, 0x35, 0x36, 0x37, 0x38, 0x39] = 0x29B1#16 := by decide +kernel
theorem test_clean_character_is_read :
    decideCharacter (cleanChar 0xA5 true) = some ⟨0xA5, true, false, false⟩ := by decide
theorem test_veto_slot_classes :
    classifySlot ((List.replicate 2 true ++ List.replicate 4 false ++ List.replicate 5 true).map cleanBit) = .vetoSeen
      ∧ classifySlot ((List.replicate 2 true ++ List.replicate 3 false ++ List.replicate 6 true).map cleanBit)
        = .ambiguous
      ∧ classifySlot (([true, false] ++ List.replicate 9 true).map cleanBit) = .clear := by decide
theorem test_run_classes :
    [3, 4, 10, 11, 23, 24].map classOfLength
      = [.glitch, .disturbance, .disturbance, .breakRun, .breakRun, .longBreak] := by decide
theorem test_pool_frame_data_is_parsed :
    parsePool .mount (PoolFrame.mount 1 0x01020304 0x05060708 0x090A0B 1).data
      = some (.mount 1 0x01020304 0x05060708 0x090A0B 1) := by decide
theorem test_entry_record_is_decoded :
    decodeEntry 3 (Entry.bytes ⟨3, 0x01020304, 5, .returning, true, 0x090A0B, some ⟨17, .h1, true⟩, none⟩)
      = some ⟨3, 0x01020304, 5, .returning, true, 0x090A0B, some ⟨17, .h1, true⟩, none⟩ := by decide

/-! ## States that meet the hypotheses of the statements: the machine and start-up -/

theorem test_StepTakesFrontCommandOrTicks_hypotheses :
    (∃ s : State, s.pending = [.clear, .reset]) ∧ (∃ s : State, s.pending = [] ∧ s.phase = .held)
      ∧ ∃ s : State, s.pending = [] ∧ s.phase ≠ .held :=
  ⟨⟨{ grinder with pending := [.clear, .reset] }, rfl⟩, ⟨State.reset, by decide⟩, ⟨grinder, by decide⟩⟩

theorem test_step_takes_the_front_command :
    step { grinder with pending := [.lineFree, .reset] } = .next { grinder with pending := [.reset] } := rfl
theorem test_step_ticks : step grinder = .next { grinder with timeBase := 1001 } := rfl

/-- A life store with page 4 holding a byte and the engine at work. -/
def working (e : Engine) : State := { grinder with life := { grinder.life with pages := [(512, 1)], engine := e } }

theorem test_ResetKeepsPagesAlone_hypotheses :
    (working .idle).pagesSound ∧ (working (.erasing 1 63)).pagesSound ∧ (working (.programming 21 4 3)).pagesSound
      ∧ (working (.marking 2 63)).pagesSound ∧ (working (.configErase 0)).pagesSound
      ∧ (working (.configProgram 3 3)).pagesSound :=
  ⟨⟨by decide, by decide⟩, ⟨by decide, by decide⟩, ⟨by decide, by decide⟩, ⟨by decide, by decide⟩,
    ⟨by decide, by decide⟩, ⟨by decide, by decide⟩⟩

theorem test_failed_writes_are_stale :
    let page := pageImage 1 7 (recordBody (some (wheel 530000 .serving)))
    (validPage (page.take 127 ++ [0])).isSome = true ∧ validPage (stale (page.take 127 ++ [0])) = none
      ∧ stale (List.replicate 128 1) = List.replicate 128 1 := by decide +kernel

/-- A station in its loopback self-test, its transmitter sending the test ROLL. -/
def selfTesting : State :=
  selfTest { grinder with line := { grinder.line with free := false, freeTimer := 0 } }

theorem test_StartUpTakesItsMode_hypotheses :
    State.reset.phase = .held ∧ (∃ s : Straps, s.commission = true) ∧ ∃ s : Straps, s.commission = false ∧ s.stn = 31 :=
  ⟨rfl, ⟨⟨0, false, 0, true⟩, rfl⟩, ⟨⟨31, false, 0, false⟩, rfl, rfl⟩⟩

theorem test_commissioning_start :
    (after (.startUp ⟨5, false, 0, true⟩ InputLevels.low) State.reset).phase = .commissioning := by decide

/-- The self-test at this stage of the looped frame. -/
def looping (stage : LoopStage) : State :=
  { selfTesting with line := { selfTesting.line with loop := stage } }

/-- The looped frame behind its first check character, with this check to come. -/
def loopCheck : State :=
  (looping .frame).mapFe fun f => { f with rxState := .check, rxFrame := { RxFrame.empty with check := [0xFF] } }

theorem test_LoopbackSelfTestDecides_hypotheses :
    selfTesting.phase = .selfTest ∧ selfTesting.lineFault = false ∧ selfTesting.fe.txQueue = []
      ∧ selfTesting.fe.admissionsDue = 0 ∧ selfTesting.line.rx = .loopback ∧ selfTesting.line.loop = .awaitSync
      ∧ selfTesting.line.loopInternal = true ∧ (∃ chars, selfTesting.transmitter = .frame chars false)
      ∧ startConfirmed (3 : Nat) ⟨false, false, true, false, false, false⟩ = true
      ∧ (looping .sync).line.loop = .sync ∧ (looping .frame).line.loop = .frame ∧ FramePart.body ≠ .vetoSlot
      ∧ loopCheck.fe.rxState = .check ∧ loopCheck.fe.rxFrame.check = [0xFF] ∧ loopCheck.fe.rxFrame.crc = 0xFF#8 ++ 0xFF#8
      ∧ ((looping (.checked true)).line.loop = .checked true ∧ 700 ≤ 700)
      ∧ ¬(701 : Nat) ≤ 700 :=
  ⟨rfl, rfl, rfl, rfl, rfl, rfl, rfl, ⟨_, rfl⟩, by decide, rfl, rfl, by decide, rfl, rfl, by decide, by decide, by decide⟩

/-- The characters of the test ROLL as the receiver samples them over the internal loop, behind the sync character. -/
def loopedChars : List CharSamples := ((selfTesting.frameChars .roll).drop 1).map fun c => cleanChar c.data c.mark

/-- The sync character of the looped frame, of this span. -/
def loopedSync (span : Nat) : Instr :=
  .syncCharacter (some ⟨3, ⟨false, false, false, false, false, false⟩, 500⟩)
    (some ⟨span, cleanBit false, cleanBit true, cleanBit true⟩)

theorem test_self_test_passes :
    let looped := afterAll (loopedSync 128 :: loopedChars.map .framePathCharacter) selfTesting
    looped.line.loop = .checked true
      ∧ (after (.loopbackSelfTestEnd 700 InputLevels.low) looped).line.rx = .settling
      ∧ (after (.loopbackSelfTestEnd 701 InputLevels.low) looped).lineFault = true
      ∧ (after (.loopbackSelfTestEnd 700 InputLevels.low) (looping .frame)).lineFault = true
      ∧ (after (.loopbackSelfTestEnd 700 InputLevels.low)
          (after (.readbackMismatch (.frame .body) true) looped)).lineFault = true := by decide +kernel

theorem test_looped_frame_fails :
    (after (loopedSync 145) selfTesting).line.loop = .failed
      ∧ (after .syncTimeout (looping .sync)).line.loop = .failed
      ∧ (after (.framePathCharacter (cleanChar 0xFE false)) loopCheck).line.loop = .checked false
      ∧ (after (.framePathCharacter (cleanChar 0xFF false)) loopCheck).line.loop = .checked true
      ∧ (after (.framePathCharacter (cleanChar 0xFF false)) loopCheck).counters = Counters.zero := by decide +kernel

theorem test_pins_before_and_after_the_role :
    State.reset.rolePins = List.replicate 16 .unusedInput ∧ grinder.rolePins.length = 16
      ∧ grinder.rolePins ≠ List.replicate 16 .unusedInput ∧ store.rolePins ≠ grinder.rolePins
      ∧ { selfTesting with line := { selfTesting.line with loopInternal := false } }.pinInUse = true
      ∧ selfTesting.pinInUse = false := by decide

theorem test_CommandsBeforeLiveChangeNothing_hypotheses :
    (isLiveCommand .roll = true ∧ State.reset.isLive = false)
      ∧ ((headCommand (.dressStroke .h0 false)).isSome = true ∧ store.headsLive = false)
      ∧ (isStoreCommand (.jobStart true) = true ∧ grinder.storeLive = false) := by decide

/-- A store whose job from the change position 5/1 to slot 47 is in MOVING. -/
def carrying : State :=
  store.mapStore fun u =>
    { u with job := some ⟨⟨.ret, 7, .change 5 .h1, some (.slot 47), 900⟩, .moving⟩, strobe := some ⟨1000, 2000⟩ }

theorem test_OutputsFollowState_hypotheses :
    grinder.phase = .live ∧ grinder.straps.storeRole = false ∧ carrying.phase = .live
      ∧ ¬(carrying.straps.storeRole = false)
      ∧ carrying.store.job = some ⟨⟨.ret, 7, .change 5 .h1, some (.slot 47), 900⟩, .moving⟩
      ∧ (∀ j, grinder.store.job ≠ some ⟨j, .moving⟩) ∧ State.reset.phase ≠ .live :=
  ⟨rfl, rfl, rfl, by decide, rfl, fun _ h => (nomatch h), by decide⟩

theorem test_outputs :
    [grinder, withRecord (wheel 530000 .broken) grinder, withRecord (wheel 530000 (.hold .conflict)) grinder,
        withRecord (wheel 520000 .spent) grinder, { grinder with lineFault := true }, carrying].map State.code
      = [7, 12, 10, 8, 14, 1]
      ∧ carrying.jobFrom = 9 ∧ carrying.jobTo = 47 ∧ carrying.jobStrobe = true
      ∧ (withRecord (wheel 520000 .lastParts) grinder).toolOk .h0 = true
      ∧ (withSwap (fun u => { u with state := .delivered }) (withRecord (wheel 520000 .spent) grinder)).swapReq .h0 = true
      ∧ (withRecord (wheel 530000 .broken) grinder).feedHold = true := by decide

/-! ## The cell line -/

def receiving : State :=
  { grinder with line := { grinder.line with rx := .frame, free := false, freeTimer := 0 }
                 fe := { grinder.fe with rxState := .header } }

/-- A line run of so many bit-times, less one slot where `short`. -/
def lineRun (bitTimes : Nat) (short : Bool) : Run := ⟨16 * bitTimes - short.toNat, .line, true, 77⟩

/-- A station in an attempt of the matcher, with a request of its own that awaits resolution. -/
def attempting (rx : RxPath) (m : Matcher) : State :=
  { receiving with line := { receiving.line with rx := rx }, fe := grinder.fe
                   stop := { grinder.stop with matcher := m, requests := [⟨1, true⟩] } }

/-- The matcher has failed on a character that a run still going on has spoiled. -/
def spoiled : State := (attempting .ignore .idle).mapStop fun u => { u with failHeld := true }

/-- A run that the sampler reports as content, of so many slots. -/
def contentRun (slots : Nat) : Run := ⟨slots, .content, false, 77⟩

theorem test_DominantRunsByLength_hypotheses :
    receiving.transmitter = .idle ∧ receiving.fe.heldOutcome = none ∧ receiving.line.rx ≠ .off
      ∧ receiving.line.rx ≠ .loopback ∧ receiving.line.rx = .frame ∧ receiving.line.slotRun = false
      ∧ (contentRun 100).slots < 170 * receiving.line.bitTime / 128
      ∧ receiving.fe.rxState.receiving = true ∧ State.reset.line.rx = .off
      ∧ (lineRun 4 true).slots / 16 < 4 ∧ 4 ≤ (lineRun 4 false).slots / 16
      ∧ (lineRun 11 true).slots / 16 ≤ 10 ∧ 11 ≤ (lineRun 11 false).slots / 16
      ∧ (lineRun 24 true).slots / 16 ≤ 23 ∧ 24 ≤ (lineRun 24 false).slots / 16
      ∧ spoiled.stop.failHeld = true ∧ spoiled.stop.matcher = .idle ∧ spoiled.transmitter = .idle
      ∧ (attempting .slot (.sync 5 0)).stop.failHeld = false ∧ (attempting .sync .idle).line.rx = .sync
      ∧ (∃ s : State, s.line.slotRun = true ∧ s.line.rx = .idle)
      ∧ (attempting .slot (.sync 5 0)).line.rx = .slot
      ∧ (attempting .faultListen .idle).line.rx = .faultListen := by
  refine ⟨rfl, rfl, by decide, by decide, rfl, rfl, by decide, by decide, rfl, by decide, by decide, by decide, by decide,
    by decide, by decide, rfl, rfl, rfl, rfl, rfl, ?_, rfl, rfl⟩
  exact ⟨{ grinder with line := { grinder.line with slotRun := true } }, rfl, rfl⟩

/-- A disturbance takes the receiver of a frame to IDLE and fails the attempt, whose request is sent again; a request behind
a spoiled character waits through a long break and is sent again behind any other run. -/
theorem test_runs_at_the_matcher :
    (after (.dominantRunEnd (lineRun 5 false)) (attempting .sync (.code 5 0 0 0))).line.rx = .idle
      ∧ (after (.dominantRunEnd (lineRun 5 false)) (attempting .ignore (.code 5 0 0 0))).stop.requests = [⟨2, false⟩]
      ∧ (after (.dominantRunEnd (lineRun 5 false)) (attempting .ignore (.sender 5))).stop.event = some ⟨5, none⟩
      ∧ (after (.dominantRunEnd (lineRun 12 false)) (attempting .ignore (.sender 5))).stop.requests = []
      ∧ (after (.dominantRunEnd (lineRun 24 false)) spoiled).stop
        = ⟨[⟨1, true⟩], false, .sync 77 0, none, false⟩
      ∧ (after (.dominantRunEnd (lineRun 5 false)) spoiled).stop.requests = [⟨2, false⟩] := by decide

theorem test_runs_at_their_boundaries :
    (after (.dominantRunEnd (lineRun 4 true)) receiving).counters.framing = 1
      ∧ (after (.dominantRunEnd (lineRun 11 true)) receiving).fe.rxState = .watch
      ∧ (after (.dominantRunEnd (lineRun 11 false)) receiving).line.rx = .awaitSync
      ∧ (after (.dominantRunEnd (lineRun 24 false)) receiving).stop.matcher = .sync 77 0 := by decide

def startEdge : SyncStart := ⟨3, ⟨false, false, true, false, false, false⟩, 500⟩
def measure (span : Nat) : SyncMeasure := ⟨span, cleanBit false, cleanBit true, cleanBit true⟩
def listening (rx : RxPath) : State := { grinder with line := { grinder.line with rx := rx } }

theorem test_SyncCharacterIsJudged_hypotheses :
    (listening .awaitSync).line.rx = .awaitSync ∧ startConfirmed startEdge.recessiveBefore startEdge.start = true
      ∧ (listening .sync).line.rx = .sync ∧ (112 ≤ (measure 112).span ∧ (measure 144).span ≤ 144)
      ∧ majority (measure 112).pos8 = false ∧ majority (measure 112).pos9 = true
      ∧ ¬112 ≤ (measure 111).span ∧ ¬(measure 145).span ≤ 144 := by decide

theorem test_sync_spans :
    (after (.syncCharacter (some startEdge) (some (measure 144))) (listening .awaitSync)).fe.rxFrame.stamp = 500
      ∧ (after (.syncCharacter (some startEdge) (some (measure 145))) (listening .awaitSync)).counters.syncFault = 1
      ∧ (after .syncTimeout (listening .sync)).line.rx = .ignore := by decide

/-- A character whose stop bit reads dominant. -/
def framed (b : Byte) : CharSamples := { cleanChar b true with stop := cleanBit false }

def inBody : State :=
  { receiving with fe := { receiving.fe with rxState := .body
                                             rxFrame := { RxFrame.empty with
                                               h0 := some (Kind.h0 .claim), h1 := some 0x09, h2 := some 2 } } }

theorem test_FrameCharactersAreTaken_hypotheses :
    receiving.line.rx = .frame ∧ (decideCharacter (framed 0x55)).map Character.framing = some true
      ∧ decideCharacter (cleanChar (Kind.h0 .claim) true) = some ⟨Kind.h0 .claim, true, false, false⟩
      ∧ receiving.fe.rxState = .header ∧ receiving.fe.rxFrame.h0 = none
      ∧ (kindOfH0 (Kind.h0 .claim)).isSome = true ∧ kindOfH0 0x00 = none
      ∧ decideCharacter (cleanChar 0x01 false) = some ⟨0x01, false, false, false⟩
      ∧ inBody.line.rx = .frame ∧ inBody.fe.rxState = .body
      ∧ inBody.fe.rxFrame.data.length + 1 < (inBody.fe.rxFrame.h2.map BitVec.toNat).getD 0 := by decide

/-- A framing mark decides before mark 0 (notes/assumptions/62.md). -/
theorem test_framing_mark_decides_before_mark_0 :
    let c := { cleanChar 0x55 false with stop := cleanBit false }
    let t := after (.framePathCharacter c) receiving
    decideCharacter c = some ⟨0x55, false, false, true⟩ ∧ receiving.fe.rxState.receiving = true
      ∧ t.fe.rxState = .watch ∧ t.counters.unknownKind = receiving.counters.unknownKind := by decide

/-- The receive side as it stands behind so many characters of a claim. -/
def receivedSome (h0 h1 h2 : Option Byte) (st : RxState) (data : List Byte) : State :=
  { receiving with fe := { receiving.fe with rxState := st
                                             rxFrame := { RxFrame.empty with h0 := h0, h1 := h1, h2 := h2, data := data } } }

theorem test_later_characters_hypotheses :
    let k := Kind.h0 .claim
    (∃ a, (receivedSome (some k) none none .header []).fe.rxFrame.h0 = some a)
      ∧ (receivedSome (some k) none none .header []).fe.rxFrame.h1 = none
      ∧ (receivedSome (some k) (some 9) none .header []).fe.rxFrame.h1 = some 9
      ∧ kindOfH0 k = some .claim ∧ allowedLength .claim (2 : Byte).toNat = true
      ∧ allowedLength .claim (3 : Byte).toNat = false ∧ allowedLength .imageAsk (0 : Byte).toNat = true
      ∧ (receivedSome (some k) (some 9) (some 2) .body [1]).fe.rxFrame.data.length + 1 = 2
      ∧ (receivedSome (some k) (some 9) (some 2) .check [1, 1]).fe.rxState = .check
      ∧ (receivedSome (some k) (some 9) (some 2) .check [1, 1]).fe.rxFrame.check = [] := by decide

theorem test_length_is_checked :
    (after (.framePathCharacter (cleanChar 3 true)) (receivedSome (some (Kind.h0 .claim)) (some 9) none .header [])).fe.rxState
        = .sleep
      ∧ (after (.framePathCharacter (cleanChar 2 true))
          (receivedSome (some (Kind.h0 .claim)) (some 9) none .header [])).fe.rxState = .body := by decide +kernel

/-- CLAIM of head 1 and family 1 from station 9, a synced grinder, character by character. -/
def claimBytes : List Byte := [Kind.h0 .claim, h1Byte .grinder true false 9, 2, 1, 1]

def claimChars : List CharSamples :=
  (claimBytes.take 3).map (cleanChar · true) ++ (claimBytes.drop 3).map (cleanChar · false)
    ++ (be16 (crc16 claimBytes)).map (cleanChar · false)

def atSlot : State := afterAll (claimChars.map Instr.framePathCharacter) receiving

theorem test_frame_reaches_its_slot :
    atSlot.fe.rxState = .slot false false ∧ atSlot.line.rx = .slot := by decide +kernel

theorem test_SecondCheckCharacterOpensSlot_hypotheses :
    let s := afterAll ((claimChars.take 6).map Instr.framePathCharacter) receiving
    s.line.rx = .frame ∧ s.fe.rxState = .check ∧ s.fe.rxFrame.check = [hi8 (crc16 claimBytes)]
      ∧ decideCharacter (cleanChar (lo8 (crc16 claimBytes)) false)
        = some ⟨lo8 (crc16 claimBytes), false, false, false⟩ := by decide +kernel

def clearSlot : List Slot3 := List.replicate 11 (cleanBit true)
def vetoedSlot : List Slot3 := (List.replicate 7 true ++ List.replicate 4 false).map cleanBit
def weakSlot : List Slot3 := (List.replicate 7 true ++ [false] ++ List.replicate 3 true).map cleanBit

theorem test_VetoSlotDecidesAcceptance_hypotheses :
    atSlot.fe.rxState = .slot false false ∧ atSlot.fe.deaf = false ∧ atSlot.ownOnLine = none
      ∧ acceptedItem atSlot.fe.rxFrame none
        = some ⟨.claim, .grinder, true, false, 9, [1, 1], 0, none, true, true, false⟩
      ∧ (9 : Station) ≠ atSlot.station
      ∧ (9 : Station) = ({ atSlot with straps := { atSlot.straps with stn := 9 } } : State).station
      ∧ classifySlot clearSlot = .clear ∧ classifySlot vetoedSlot = .vetoSeen
      ∧ classifySlot weakSlot = .ambiguous := by decide +kernel

theorem test_slot_ends :
    (after (.vetoSlotEnd clearSlot false) atSlot).fe.rxQueue.length = 1
      ∧ (after (.vetoSlotEnd vetoedSlot false) atSlot).counters.vetoesSeen = 1
      ∧ (after (.vetoSlotEnd weakSlot false) atSlot).fe.doubtful = true := by decide +kernel

/-- A run is content only where a receiver assembles a character, and veto activity only in a slot or begun there. -/
theorem test_runs_by_their_place :
    [listening .frame, listening .idle, listening .slot, attempting .idle (.sync 5 0)].map
        (fun s => s.runClass (contentRun 100))
      = [none, some .disturbance, some .disturbance, none]
      ∧ [listening .slot, listening .idle].map (fun s => s.runClass ⟨100, .veto, false, 77⟩)
        = [none, some .disturbance]
      ∧ (after (.vetoSlotEnd vetoedSlot true) atSlot).runClass (lineRun 12 false) = none
      ∧ (after (.dominantRunEnd (lineRun 12 false)) (after (.vetoSlotEnd vetoedSlot true) atSlot)).line.rx = .idle
      ∧ (listening .frame).runClass { contentRun 100 with coveredStop := true } = some .disturbance := by decide +kernel

/-- A claim of swap unit 0 on the line at its slot, and the same frame of another station at a DEAF station. -/
def ownSlot (attempts : Nat) : State :=
  (withSwap (fun u => { u with state := .claiming, outstanding := some ⟨.claim 0 1, false, .claiming⟩ }) atSlot).mapFe
    fun f => { f with txQueue := [⟨.swapUnit .h0, .pool (.claim 0 1), attempts, true, false⟩] }

def deafSlot (deaf : Bool) (queue : List RxItem) : State :=
  atSlot.mapFe fun f => { f with rxState := .slot false true, vetoRun := 8, deaf := deaf, rxQueue := queue }

theorem test_own_and_deaf_slots_hypotheses :
    (ownSlot 2).fe.rxState = .slot false false ∧ (ownSlot 2).fe.deaf = false ∧ (ownSlot 2).fe.heldOutcome = none
      ∧ (∃ e i, (ownSlot 2).lineEntry = some e ∧ e.withdrawn = false ∧ e.attempts < 3 ∧ e.origin ≠ .imageUnit
          ∧ acceptedItem (ownSlot 2).fe.rxFrame (some e.origin) = some i ∧ e.payload = .pool (.claim 0 1))
      ∧ ((ownSlot 2).swap .h0).outstanding = some ⟨.claim 0 1, false, .claiming⟩
      ∧ (deafSlot false []).ownOnLine = none ∧ (deafSlot false []).fe.deaf = false ∧ 8 ≤ (deafSlot false []).fe.vetoRun
      ∧ (deafSlot true []).fe.deaf = true ∧ (deafSlot true []).fe.rxQueue = []
      ∧ (deafSlot true [item .roll .grinder [] true false false]).fe.rxQueue ≠ []
      ∧ (∀ i, acceptedItem (deafSlot true []).fe.rxFrame none = some i → i.sender ≠ (deafSlot true []).station) := by
  have h : acceptedItem (deafSlot true []).fe.rxFrame none
      = some ⟨.claim, .grinder, true, false, 9, [1, 1], 0, none, true, true, false⟩ := by decide +kernel
  have ho : acceptedItem (ownSlot 2).fe.rxFrame (some (.swapUnit .h0))
      = some ⟨.claim, .grinder, true, false, 9, [1, 1], 0, some (.swapUnit .h0), true, true, false⟩ := by decide +kernel
  refine ⟨by decide +kernel, by decide +kernel, by decide +kernel, ?_, by decide +kernel, by decide +kernel,
    by decide +kernel, by decide +kernel, by decide +kernel, by decide +kernel, by decide +kernel, ?_⟩
  · exact ⟨⟨.swapUnit .h0, .pool (.claim 0 1), 2, true, false⟩, _, by decide +kernel, rfl, by decide, by decide, ho, rfl⟩
  · intro i hi
    have hi := Option.some.inj (h.symm.trans hi)
    subst hi
    decide +kernel

theorem test_own_and_deaf_slots :
    ((after (.vetoSlotEnd clearSlot false) (ownSlot 2)).swap .h0).outstanding = some ⟨.claim 0 1, true, .claiming⟩
      ∧ (after (.vetoSlotEnd clearSlot false) (ownSlot 2)).fe.rxQueue.length = 1
      ∧ (after (.vetoSlotEnd vetoedSlot false) (ownSlot 2)).fe.txQueue.map TxEntry.attempts = [3]
      ∧ (after (.vetoSlotEnd vetoedSlot false) (deafSlot false [])).fe.deaf = true
      ∧ (after (.vetoSlotEnd clearSlot false) (deafSlot true [])).fe.deaf = false
      ∧ (after (.vetoSlotEnd clearSlot false) (deafSlot true [])).fe.rxQueue.length = 1 := by decide +kernel

/-- The eighth veto in a row, at a grinder with this swap unit and at a store with this unit. -/
def resyncing (f : SwapUnit → SwapUnit) : State := withSwap f (deafSlot false [])
def resyncingStore (u : StoreUnit) : State :=
  { deafSlot false [] with straps := store.straps, store := u, life := { grinder.life with pending := [1, 16] } }

theorem test_pool_resync_hypotheses :
    (resyncing id).fe.rxState = .slot false true ∧ (resyncing id).ownOnLine = none ∧ (resyncing id).headsLive = true
      ∧ (resyncing id).fe.deaf = false ∧ 8 ≤ (resyncing id).fe.vetoRun
      ∧ (resyncingStore store.store).storeLive = true ∧ (resyncingStore store.store).ownOnLine = none
      ∧ (resyncingStore store.store).fe.rxState = .slot false true := by decide +kernel

theorem test_swap_units_are_resynced :
    [.idle, .claiming, .backoff, .await, .delivered, .confirming, .mounting, .failed].map
        (fun st => ((after (.vetoSlotEnd vetoedSlot false) (resyncing fun u => { u with state := st })).swap .h0).state)
      = [.idle, .backoff, .backoff, .idle, .idle, .idle, .idle, .failed] := by decide +kernel

/-- A job in progress of each kind in each phase, and its completion, after a pool resync. -/
theorem test_jobs_are_resynced :
    let t := fun (k : JobKind) (p : JobPhase) => after (.vetoSlotEnd vetoedSlot false) (resyncingStore { store.store with
      job := some ⟨⟨k, 2, .slot 47, none, 900⟩, p⟩, jobFrame := some ⟨.quarantine 2 4 0, .submitted⟩ })
    [JobKind.fetch, .ret].map (fun k => [JobPhase.starting, .armed, .moving, .closing].map fun p =>
        ((t k p).store.job.map JobInProgress.phase, (t k p).store.heldCompletion))
      = [[(none, none), (none, none), (some .moving, none), (some .closing, some .fault)],
        [(none, none), (some .armed, none), (some .moving, none), (some .closing, some .fault)]]
      ∧ (t .ret .moving).life.pending = [1] := by decide +kernel

def busy (rx : RxPath) : State := { grinder with line := { grinder.line with rx := rx, free := false, freeTimer := 0 } }

theorem test_LineFreeAndWatchEnd_hypotheses :
    (busy .settling).freeCounts = true ∧ (busy .settling).line.free = false ∧ (busy .ignore).freeCounts = true
      ∧ (∃ s : State, s.freeCounts = true ∧ s.line.free = false ∧ s.fe.rxState = .sleep)
      ∧ (∃ s : State, s.freeCounts = true ∧ s.line.free = false ∧ s.fe.rxState.receiving = true)
      ∧ ∃ (s : State) (w : Watch), s.fe.watch = some w ∧ w.lengthUs ≤ (s.timeBase - w.stamp).toNat :=
  ⟨by decide, by decide, by decide,
    ⟨{ busy .ignore with fe := { grinder.fe with rxState := .sleep } }, by decide⟩, ⟨receiving, by decide⟩,
    ⟨{ grinder with fe := { grinder.fe with watch := some ⟨0, 1000⟩ } }, ⟨0, 1000⟩, by decide⟩⟩

theorem test_line_free_at_the_matcher_hypotheses :
    let s : Matcher → State := fun m => attempting .ignore m
    (s .idle).freeCounts = true ∧ (s .idle).line.free = false ∧ (s .idle).awaitingResolution = true
      ∧ (busy .settling).awaitingResolution = false
      ∧ (s (.code 5 5 5 0)).stop.matcher = .code 5 5 5 0 ∧ (s (.code 5 4 4 0)).stop.matcher = .code 5 4 4 0 := by decide

theorem test_line_free_at_the_matcher :
    [.idle, .sync 5 1, .code 5 4 4 0, .code 5 5 5 0, .complement 5 9 true].map
        (fun m => ((after .lineFree (attempting .ignore m)).stop.requests, (after .lineFree (attempting .ignore m)).line.free,
          (after .lineFree (attempting .ignore m)).stop.event))
      = [([⟨2, false⟩], false, none), ([⟨2, false⟩], false, none), ([⟨2, false⟩], false, none),
        ([], true, some ⟨5, none⟩), ([], true, some ⟨5, none⟩)] := by decide

theorem test_line_free_settles : (after .lineFree (busy .settling)).line.rx = .idle := by decide

/-- Frames in the transmit queue. -/
def withTx (q : List TxEntry) (s : State) : State := s.mapFe fun f => { f with txQueue := q }
def entryOf (o : Origin) (p : Payload) : TxEntry := ⟨o, p, 0, false, false⟩
def rollEntry : TxEntry := entryOf .peerTable .roll
def claimEntry : TxEntry := entryOf (.swapUnit .h0) (.pool (.claim 0 1))

def askEntry : TxEntry := entryOf .imageUnit .imageAsk
def partEntry (k : Nat) : TxEntry := entryOf .imageUnit (.imagePart k)

/-- A responder with part 0 at the head of the queue. -/
def responding (r : Responder) (b : Option ImageBuffer) : State :=
  (withTx [partEntry 0] grinder).mapImage fun u => { u with responder := r, buffer := b }

theorem test_TransmitStartDrivesHead_hypotheses :
    (withTx [claimEntry, rollEntry] grinder).mayTransmit = true
      ∧ (withTx [claimEntry, rollEntry] grinder).txHead = some claimEntry
      ∧ claimEntry.payload = .pool (.claim 0 1)
      ∧ (withTx [rollEntry] grinder).mayTransmit = true ∧ (withTx [rollEntry] grinder).txHead = some rollEntry
      ∧ (withTx [rollEntry] grinder).fe.rxQueue = []
      ∧ (withTx [askEntry] grinder).txHead = some askEntry ∧ askEntry.payload = .imageAsk
      ∧ (responding .queued none).mayTransmit = true ∧ (responding .queued none).txHead = some (partEntry 0)
      ∧ (responding .queued none).image.responder = .queued
      ∧ (responding .running (some ⟨[], 0, 0xFFFF⟩)).image.buffer = some ⟨[], 0, 0xFFFF⟩
      ∧ (responding .running (some ⟨[], 0, 0xFFFF⟩)).image.responder ≠ .queued := by decide

/-- A ROLL at the head while an item of an IMAGE_ASK waits. -/
def behindHand : State :=
  withTx [rollEntry] (setRxQueue [⟨.imageAsk, .grinder, false, false, 9, [], 900, none, true, false, true⟩] grinder)

theorem test_catch_up_hypotheses :
    behindHand.isLive = true ∧ behindHand.mayTransmit = true ∧ behindHand.txHead = some rollEntry
      ∧ rollEntry.payload = .roll ∧ behindHand.fe.rxQueue.length ≤ 4
      ∧ (∀ i ∈ behindHand.fe.rxQueue, (i.forPool = true → i.kind.isPool = true)
        ∧ (i.forImage = true → i.kind = .imageAsk ∨ i.kind = .imagePart))
      ∧ (∀ i ∈ behindHand.fe.rxQueue, i.forPeers = true ∨ i.forPool = true ∨ i.forImage = true)
      ∧ (1 : Nat) ≠ 0 := by decide

/-- The part that the ask calls for goes before the ROLL, and the state is the one that the two commands lead to. -/
theorem test_catch_up_takes_the_items :
    let t := after (.transmitStart false) behindHand
    t = after (.transmitStart false) (afterAll [.peerItem, .imageAsk] behindHand)
      ∧ t.fe.rxQueue = [] ∧ t.image.responder = .running ∧ t.lineEntry = some { partEntry 0 with onLine := true }
      ∧ t.peers.records.length = 1 := by decide +kernel

theorem test_frames_carry_their_data :
    [withTx [rollEntry] (withRecord (wheel 530000 .wornSoon) grinder), withTx [askEntry] grinder, responding .queued none].map
        (fun s => match (after (.transmitStart false) s).transmitter with
          | .frame chars _ => chars.map WireChar.data
          | .idle | .stopCall _ _ => [])
      = [[0xAA, 0xA1, 0x45, 9, 0x40, 0, 0, 0xFF, 0xFF, 0, 0, 2, 0],
          [0xAA, 0x62, 0x45, 0], [0xAA, 0x63, 0x45, 7, 0, 0, 0, 1, 0, 0xFF, 0xFF]].map
        fun l => l ++ be16 (crc16 (l.drop 1)) := by decide +kernel

theorem test_transmit_start_drives :
    (after (.transmitStart false) (withTx [claimEntry] grinder)).lineEntry = some { claimEntry with onLine := true } := by
  decide +kernel

/-- A frame of this station on the line, after so many attempts. -/
def sending (e : TxEntry) (attempts : Nat) (breaking : Bool) : State :=
  { withTx [{ e with onLine := true, attempts := attempts }] grinder with
    transmitter := .frame [⟨0xAA, true⟩] breaking }

theorem test_MismatchKeepsOrCountsAttempt_hypotheses :
    (sending rollEntry 0 true).transmitter = .frame [⟨0xAA, true⟩] true
      ∧ (∀ e ∈ (sending rollEntry 0 true).fe.txQueue, e.withdrawn = false)
      ∧ (sending rollEntry 0 true).line.loopInternal = false := by decide

theorem test_overtaken_frame_stays :
    (after .transmitOvertaken (sending rollEntry 0 true)).fe.txQueue = [rollEntry]
      ∧ (after (.readbackMismatch (.frame .arbitrationData) true) (sending rollEntry 0 false)).counters.arbLosses = 1 := by
  decide

theorem test_bit_error_hypotheses :
    (sending rollEntry 2 false).transmitter = .frame [⟨0xAA, true⟩] false
      ∧ (sending rollEntry 2 false).line.loopInternal = false
      ∧ (sending rollEntry 2 false).lineEntry = some { rollEntry with onLine := true, attempts := 2 }
      ∧ (sending rollEntry 3 false).lineEntry = some { rollEntry with onLine := true, attempts := 3 }
      ∧ rollEntry.withdrawn = false ∧ rollEntry.origin = .peerTable ∧ FramePart.body ≠ .vetoSlot
      ∧ FramePart.body ≠ .arbitrationData := by decide

/-- The frames of the other blocks at their fourth attempt. -/
def failing (o : Origin) (f : PoolFrame) : State := sending (entryOf o (.pool f)) 3 false

theorem test_fourth_attempts_hypotheses :
    let claim := withSwap (fun u => { u with state := .claiming, outstanding := some ⟨.claim 0 1, false, .claiming⟩ })
      (failing (.swapUnit .h0) (.claim 0 1))
    let report := (withRecord (wheel 530000 .broken) (failing (.headUnit .h0) (.quarantine 7 1 1))).mapHead .h0
      fun u => { u with report := .outstanding }
    (claim.swap .h0).outstanding = some ⟨.claim 0 1, false, .claiming⟩ ∧ (claim.swap .h0).state = .claiming
      ∧ (claim.swap .h0).wants = [] ∧ claim.lineEntry = some ⟨.swapUnit .h0, .pool (.claim 0 1), 3, true, false⟩
      ∧ (report.head .h0).report = .outstanding ∧ (report.head .h0).record = some (wheel 530000 .broken)
      ∧ report.lineEntry = some ⟨.headUnit .h0, .pool (.quarantine 7 1 1), 3, true, false⟩
      ∧ ((after (.readbackMismatch (.frame .body) false) claim).swap .h0).state = .backoff
      ∧ ((after (.readbackMismatch (.frame .body) false) report).head .h0).report = .due
      ∧ (∃ s : State, s.store.jobFrame = some ⟨.deliver 3, .submitted⟩ ∧ s.store.track = none ∧ s.store.sendList = []
          ∧ s.lineEntry = some ⟨.storeUnit, .pool (.deliver 3), 3, true, false⟩) :=
  ⟨by decide, by decide, by decide, by decide, by decide, by decide, by decide, by decide, by decide,
    { failing .storeUnit (.deliver 3) with
      store := { grinder.store with jobFrame := some ⟨.deliver 3, .submitted⟩ } }, by decide⟩

theorem test_fourth_attempt_fails :
    (after (.readbackMismatch (.frame .body) false) (sending rollEntry 3 false)).fe.txQueue = []
      ∧ (after (.readbackMismatch (.frame .body) false) (sending rollEntry 2 false)).fe.txQueue
        = [{ rollEntry with attempts := 3 }] := by decide

/-- A frame of this station that its own receiver did not follow to its slot, and a bit error held for its run. -/
def unfollowed : State := { sending claimEntry 1 false with line := receiving.line }
def heldError : State := after (.readbackMismatch (.frame .body) true) { sending rollEntry 1 false with line := receiving.line }

theorem test_run_behind_own_frame_hypotheses :
    unfollowed.transmitter = .frame [⟨0xAA, true⟩] false ∧ unfollowed.fe.heldOutcome = none
      ∧ (sending rollEntry 0 true).transmitter = .frame [⟨0xAA, true⟩] true
      ∧ (sending rollEntry 0 true).fe.heldOutcome = none ∧ (sending rollEntry 0 true).line.rx = .idle
      ∧ unfollowed.line.rx = .frame ∧ unfollowed.fe.watch = none ∧ unfollowed.stop.matcher = .idle
      ∧ unfollowed.stop.failHeld = false ∧ unfollowed.line.slotRun = false
      ∧ heldError.transmitter = .idle ∧ heldError.fe.heldOutcome.isSome = true
      ∧ heldError.lineEntry = some { rollEntry with onLine := true, attempts := 1 } ∧ heldError.line.rx = .frame
      ∧ heldError.fe.watch = none ∧ heldError.stop.matcher = .idle ∧ heldError.stop.failHeld = false
      ∧ unfollowed.freeCounts = true ∧ unfollowed.line.free = false ∧ heldError.freeCounts = true
      ∧ heldError.line.free = false := by decide

/-- A break and another station's frame behind a frame of this station: the frame stays, and the other one is not its own. -/
theorem test_frame_behind_own_break_is_not_own :
    let s := afterAll ([.dominantRunEnd (lineRun 14 false), .syncCharacter (some startEdge) (some (measure 128))]
      ++ claimChars.map Instr.framePathCharacter ++ [.vetoSlotEnd clearSlot false]) unfollowed
    s.fe.rxQueue.map RxItem.own = [none] ∧ s.fe.txQueue = [{ claimEntry with attempts := 1 }]
      ∧ s.transmitter = .idle := by decide +kernel

/-- A held bit error: the next run decides it, and line free counts its attempt. -/
theorem test_held_bit_error_ends :
    [Instr.lineFree, .dominantRunEnd (lineRun 14 false), .dominantRunEnd (lineRun 24 false)].map
        (fun c => ((after c heldError).fe.heldOutcome, (after c heldError).fe.txQueue))
      = [(none, [{ rollEntry with attempts := 2 }]), (none, [{ rollEntry with attempts := 2 }]),
        (none, [{ rollEntry with attempts := 1 }])] := by decide

theorem test_SubmissionAndAdmission_hypotheses :
    let claim : Payload := .pool (.claim 0 1)
    (∃ s : State, s.lineFault = true) ∧ claim.isPool = true
      ∧ (∃ s : State, s.pool.sync ≠ .synced) ∧ (∃ s : State, s.fe.deaf = true)
      ∧ (∃ s : State, s.peers.familyMismatch = true) ∧ (∃ s : State, s.peers.roleClash = true)
      ∧ (∃ e ∈ (withTx [claimEntry] grinder).fe.txQueue, ∃ g, e.payload = .pool (.claim 0 g))
      ∧ ((withTx (List.replicate 5 rollEntry) grinder).refusedAtOnce claim = false
        ∧ (withTx (List.replicate 5 rollEntry) grinder).fe.txQueue.length
          + (withTx (List.replicate 5 rollEntry) grinder).fe.admissionsDue < 6)
      ∧ ((withTx (List.replicate 6 rollEntry) grinder).refusedAtOnce claim = false
        ∧ 6 ≤ (withTx (List.replicate 6 rollEntry) grinder).fe.txQueue.length
          + (withTx (List.replicate 6 rollEntry) grinder).fe.admissionsDue) :=
  ⟨⟨{ grinder with lineFault := true }, rfl⟩, rfl, ⟨State.reset, by decide⟩,
    ⟨{ grinder with fe := { grinder.fe with deaf := true } }, rfl⟩,
    ⟨{ grinder with peers := { grinder.peers with familyMismatch := true } }, rfl⟩,
    ⟨{ grinder with peers := { grinder.peers with roleClash := true } }, rfl⟩,
    ⟨claimEntry, by decide, 1, rfl⟩, by decide, by decide⟩

/-- Two held requests and one admission due. -/
def heldTwo (sync : SyncState) : State :=
  { grinder with
    pool := { grinder.pool with sync := sync }
    fe := { grinder.fe with held := [(.peerTable, .roll), (.swapUnit .h0, .pool (.claim 0 1))], admissionsDue := 1 } }

theorem test_HeldRequestAdmit_hypotheses :
    let claim : Payload := .pool (.claim 0 1)
    0 < (heldTwo .synced).fe.admissionsDue
      ∧ (heldTwo .synced).fe.held = [(.peerTable, .roll)] ++ (.swapUnit .h0, claim) :: []
      ∧ claim.cls < Payload.roll.cls ∧ (heldTwo .synced).refusedAtOnce claim = false
      ∧ (let s : State := { heldTwo .synced with
            lineFault := true, fe := { (heldTwo .synced).fe with held := [(.peerTable, .roll)] } }
         0 < s.fe.admissionsDue ∧ s.fe.held = [] ++ (.peerTable, .roll) :: [] ∧ s.refusedAtOnce .roll = true) := by
  decide

/-- One held request of a block, and one admission due. -/
def heldOne (o : Origin) (p : Payload) (s : State) : State :=
  s.mapFe fun f => { f with held := [(o, p)], admissionsDue := 1 }

/-- The held CLAIM of swap unit 0, beside a CLAIM of its head in the queue. -/
def claimBarred : State :=
  heldOne (.swapUnit .h0) (.pool (.claim 0 1)) (withTx [claimEntry]
    (withSwap (fun u => { u with state := .claiming, outstanding := some ⟨.claim 0 1, false, .claiming⟩ }) grinder))

def doubtless (s : State) : State := { s with pool := { s.pool with sync := .joining } }

/-- Held frames that a station that is no longer SYNCED drops. -/
def releaseBarred : State :=
  doubtless (heldOne (.swapUnit .h0) (.pool (.release 7 0)) (withSwap (fun u =>
    { u with state := .delivered, held := some 7, outstanding := some ⟨.release 7 0, false, .delivered⟩ }) grinder))
def reportBarred : State :=
  doubtless (heldOne (.headUnit .h0) (.pool (.quarantine 7 1 1)) ((withRecord (wheel 530000 .broken) grinder).mapHead .h0
    fun u => { u with report := .outstanding }))
def declareBarred : State :=
  doubtless (heldOne (.headUnit .h0) (.pool (.declare 0 7 1 530000)) ((withRecord (wheel 530000 .serving) grinder).mapHead
    .h0 fun u => { u with declare := some ⟨.declare 0 7 1 530000, none⟩ }))
def jobBarred : State :=
  doubtless (heldOne .storeUnit (.pool (.deliver 3))
    (store.mapStore fun u => { u with jobFrame := some ⟨.deliver 3, .submitted⟩ }))
def trackBarred : State :=
  doubtless (heldOne .storeUnit (.pool (.quarantine 3 quarantineLostTrack 0))
    (store.mapStore fun u => { u with track := some ⟨.quarantine 3 quarantineLostTrack 0, .submitted⟩ }))
def listBarred : State :=
  doubtless (heldOne .storeUnit (.pool (.release 2 releaseExpired))
    (store.mapStore fun u => { u with claims := [⟨2, 9, 0, true, true⟩] }))

theorem test_dropped_requests_hypotheses :
    (∀ s ∈ [claimBarred, releaseBarred, reportBarred, declareBarred, jobBarred, trackBarred, listBarred],
        0 < s.fe.admissionsDue ∧ 0 < s.constants.rollIntervalMs
          ∧ ∃ o p, s.fe.held = [] ++ (o, p) :: [] ∧ s.refusedAtOnce p = true)
      ∧ (claimBarred.swap .h0).wants = [] ∧ (0 : Byte) = headByte .h0 ∧ (releaseBarred.swap .h0).state ≠ .idle
      ∧ (reportBarred.head .h0).report = .outstanding ∧ (declareBarred.head .h0).report ≠ .due
      ∧ jobBarred.store.sendList = [] ∧ trackBarred.store.jobFrame = none ∧ listBarred.store.track = none
      ∧ (∃ s : State, s.lineFault = true ∧ s.fe.held = [] ++ (.imageUnit, .imageAsk) :: [] ∧ s.image.deferred = none) := by
  refine ⟨?_, by decide, by decide, by decide, by decide, by decide, by decide, by decide, by decide,
    ⟨{ heldOne .imageUnit .imageAsk grinder with lineFault := true }, rfl, rfl, rfl⟩⟩
  intro s hs
  simp only [List.mem_cons, List.not_mem_nil, or_false] at hs
  rcases hs with rfl | rfl | rfl | rfl | rfl | rfl | rfl <;> exact ⟨by decide, by decide, _, _, rfl, by decide⟩

theorem test_requests_are_dropped :
    ((after .heldRequestAdmit claimBarred).swap .h0).state = .backoff
      ∧ (after .heldRequestAdmit claimBarred).fe.txQueue = [claimEntry]
      ∧ ((after .heldRequestAdmit releaseBarred).swap .h0).retries = [⟨.release 7 0, ⟨1000, 100000⟩, .delivered⟩]
      ∧ ((after .heldRequestAdmit reportBarred).head .h0).reportRetry = some ⟨1000, 100000⟩
      ∧ ((after .heldRequestAdmit declareBarred).head .h0).declare
        = some ⟨.declare 0 7 1 530000, some ⟨1000, 100000⟩⟩
      ∧ (after .heldRequestAdmit jobBarred).store.jobFrame = some ⟨.deliver 3, .waiting ⟨1000, 100000⟩⟩
      ∧ (after .heldRequestAdmit trackBarred).store.track
        = some ⟨.quarantine 3 quarantineLostTrack 0, .waiting ⟨1000, 100000⟩⟩
      ∧ (after .heldRequestAdmit listBarred).store.claims = [⟨2, 9, 0, true, false⟩] := by decide

/-- Held requests of the head unit, the store unit and the image unit, with one more frame that waits behind each. -/
def headBehind : State :=
  heldOne (.headUnit .h0) (.pool (.declare 0 7 1 530000)) ((withRecord (wheel 530000 .broken) grinder).mapHead .h0
    fun u => { u with report := .due, reportReason := 1 })
def storeBehind : State :=
  heldOne .storeUnit (.pool (.remove 2 0)) (store.mapStore fun u => { u with sendList := [.release 4 releaseExpired] })
def imageBehind : State :=
  heldOne .imageUnit (.imagePart 0) (grinder.mapImage fun u => { u with deferred := some .imageAsk })

theorem test_requests_behind_hypotheses :
    (∀ s ∈ [headBehind, storeBehind, imageBehind], 0 < s.fe.admissionsDue
        ∧ ∃ o p, s.fe.held = [] ++ (o, p) :: [] ∧ s.refusedAtOnce p = false)
      ∧ (headBehind.head .h0).report = .due ∧ (headBehind.head .h0).reportRetry = none
      ∧ (headBehind.head .h0).declare = none ∧ storeBehind.store.sendList = [.release 4 releaseExpired]
      ∧ (PoolFrame.release 4 releaseExpired).kind ≠ .claim ∧ imageBehind.image.deferred = some .imageAsk
      ∧ (∃ s : State, s.fe.held = [(.headUnit .h0, .pool (.declare 0 7 1 530000))] ∧ (s.head .h0).report ≠ .due
          ∧ ∀ f tm, (s.head .h0).declare ≠ some ⟨f, some tm⟩) := by
  refine ⟨?_, by decide, by decide, by decide, by decide, by decide, by decide,
    ⟨heldOne (.headUnit .h0) (.pool (.declare 0 7 1 530000)) grinder, rfl, by decide, fun _ _ h => nomatch h⟩⟩
  intro s hs
  simp only [List.mem_cons, List.not_mem_nil, or_false] at hs
  rcases hs with rfl | rfl | rfl <;> exact ⟨by decide, _, _, rfl, by decide⟩

theorem test_requests_behind_follow :
    (after .heldRequestAdmit headBehind).fe.txQueue.length = 2
      ∧ (after .heldRequestAdmit storeBehind).fe.txQueue.length = 2
      ∧ (after .heldRequestAdmit imageBehind).fe.txQueue.length = 2
      ∧ ((after .heldRequestAdmit headBehind).head .h0).report = .outstanding := by decide

theorem test_held_request_is_admitted :
    (after .heldRequestAdmit (heldTwo .synced)).fe.txQueue = [claimEntry] := by decide

/-! ## A configuration that passes its check -/

def familyBytes : List Byte := [0x09, 0x27, 0xC0, 0x07, 0xEF, 0x40, 40, 5, 0, 10, 3, 0xE8, 0x50, 0xC1, 0x4A, 0x0A]
def page0 : List Byte := Memory.fitPage [0x5A, 1, 0, 100, 0, 10, 20, 10, 1, 2]
def page1 : List Byte := (List.replicate 8 familyBytes).flatten
def configCheck : Word16 := crc16 (page0 ++ (page1 ++ page1))

/-- Pages 0 to 2. -/
def configCells : Memory := Memory.cellsFrom 0 page0 ++ Memory.cellsFrom 128 page1 ++ Memory.cellsFrom 256 page1

/-- Pages 0 to 3 with a check of this value. -/
def configPages (x : Word16) : Memory := configCells ++ [(384, hi8 x), (385, lo8 x)]

theorem of16_hi8_lo8 (x : Word16) : of16 (hi8 x) (lo8 x) = x := by
  unfold of16 hi8 lo8
  apply BitVec.eq_of_toNat_eq
  have := x.isLt
  simp only [BitVec.toNat_append, BitVec.extractLsb'_toNat, Nat.shiftRight_eq_div_pow]
  rw [← Nat.shiftLeft_add_eq_or_of_lt (by omega), Nat.shiftLeft_eq]
  omega

theorem configPages_low (x : Word16) (p : Nat) (hp : p < 3) :
    Memory.readPage (configPages x) p = Memory.readPage configCells p := by
  have h : Memory.pageCells (configPages x) p = Memory.pageCells configCells p := by
    unfold Memory.pageCells configPages
    rw [List.filter_append]
    refine (List.append_right_eq_self.2 (List.filter_eq_nil_iff.2 ?_))
    intro c hc
    simp only [List.mem_cons, List.not_mem_nil, or_false] at hc
    rcases hc with rfl | rfl <;> simp <;> omega
  unfold Memory.readPage
  rw [h]

theorem configPages_check (x : Word16) : wordAt (Memory.readPage (configPages x) 3) 0 = x := by
  have h0 : Memory.pageCells configCells 3 = [] := by decide +kernel
  have h : Memory.pageCells (configPages x) 3 = [(384, hi8 x), (385, lo8 x)] := by
    unfold configPages
    unfold Memory.pageCells at *
    rw [List.filter_append, h0]
    rfl
  unfold Memory.readPage
  rw [h]
  exact of16_hi8_lo8 x

theorem configCells_read :
    Memory.readPage configCells 0 = page0 ∧ Memory.readPage configCells 1 = page1
      ∧ Memory.readPage configCells 2 = page1 := by decide +kernel

theorem test_configuration_is_taken :
    ∃ c, checkConfiguration (configPages configCheck) = some c ∧ c.families = List.replicate 16 family
      ∧ c.constants = constants := by
  have hc : parseConstants page0 = some constants := by decide +kernel
  have hf : parseFamilies 16 (page1 ++ page1) = some (List.replicate 16 family) := by decide +kernel
  have hx : crc16 (page0 ++ (page1 ++ page1)) = configCheck := rfl
  refine ⟨⟨constants, List.replicate 16 family, crc16 (page1 ++ page1)⟩, ?_, rfl, rfl⟩
  unfold checkConfiguration
  simp only [configPages_low _ 0 (by decide), configPages_low _ 1 (by decide), configPages_low _ 2 (by decide),
    configCells_read, configPages_check, hx, if_true, hc, hf]

theorem test_blank_configuration_is_bad : checkConfiguration [] = none := by
  have h : parseConstants (Memory.readPage [] 0) = none := by decide +kernel
  unfold checkConfiguration
  simp only [h]
  split <;> rfl

/-- Page 4 with a head record of sequence 7, behind the configuration pages. -/
def recordPage : List Byte := (pageImage 1 7 (recordBody (some (wheel 530000 .wornSoon)))).take 127 ++ [0]
def journal : Memory := configPages configCheck ++ Memory.cellsFrom 512 recordPage

theorem readPage_journal (p : Nat) (h : Memory.pageCells (Memory.cellsFrom 512 recordPage) p = []) :
    Memory.readPage journal p = Memory.readPage (configPages configCheck) p := by
  have hp : Memory.pageCells journal p = Memory.pageCells (configPages configCheck) p := by
    unfold Memory.pageCells at h ⊢
    unfold journal
    rw [List.filter_append, h, List.append_nil]
  unfold Memory.readPage
  rw [hp]

theorem test_journal_is_scanned :
    (∃ c, checkConfiguration journal = some c ∧ c.families = List.replicate 16 family)
      ∧ validPage (Memory.readPage journal 4) = some (1, 7)
      ∧ parseRecord (pageBody 1 (Memory.readPage journal 4)) = .wheel (wheel 530000 .wornSoon) := by
  have h4 : Memory.readPage journal 4 = recordPage := by
    have h : Memory.pageCells journal 4 = Memory.cellsFrom 512 recordPage := by
      have h1 : Memory.pageCells configCells 4 = [] := by decide +kernel
      have h2 : Memory.pageCells (Memory.cellsFrom 512 recordPage) 4 = Memory.cellsFrom 512 recordPage := by
        decide +kernel
      unfold Memory.pageCells at h1 h2 ⊢
      unfold journal configPages
      rw [List.filter_append, List.filter_append, h1, h2]
      rfl
    have hr : Memory.bytesFrom (Memory.cellsFrom 512 recordPage) (128 * 4) 128 = recordPage := by decide +kernel
    unfold Memory.readPage
    rw [h, hr]
  refine ⟨?_, by rw [h4]; decide +kernel, by rw [h4]; decide +kernel⟩
  obtain ⟨c, hc, hf, _⟩ := test_configuration_is_taken
  refine ⟨c, ?_, hf⟩
  rw [← hc]
  unfold checkConfiguration
  simp only [readPage_journal 0 (by decide +kernel), readPage_journal 1 (by decide +kernel),
    readPage_journal 2 (by decide +kernel), readPage_journal 3 (by decide +kernel)]

/-- There is a last written page, and of two pages of the highest sequence it is the lower one (notes/assumptions/33.md). -/
theorem test_last_written_page :
    (∃ p, 4 ≤ p ∧ p ≤ 63 ∧ (validPage (Memory.readPage journal p)).isSome = true)
      ∧ newest [⟨4, 1, 7⟩, ⟨9, 2, 9⟩, ⟨12, 1, 9⟩] = some ⟨9, 2, 9⟩ :=
  ⟨⟨4, by decide, by decide, by rw [test_journal_is_scanned.2.1]; rfl⟩, by decide⟩

/-! ## Stop calls and peers -/

/-- A stop call being sent for these requests. -/
def calling (rs : List StopRequest) : State :=
  { grinder with transmitter := .stopCall [⟨0xAA, true⟩] false, stop := { grinder.stop with requests := rs } }

theorem test_StopCallCompletes_hypotheses :
    (calling [⟨1, false⟩]).transmitter = .stopCall [⟨0xAA, true⟩] false
      ∧ (calling [⟨1, false⟩]).stop.requests = [⟨1, false⟩]
      ∧ (calling [⟨1, false⟩, ⟨0, false⟩]).stop.requests = [⟨1, false⟩, ⟨0, false⟩]
      ∧ (calling [⟨1, false⟩]).line.loopInternal = false ∧ StopPart.cellCode ≠ .sender
      ∧ StopPart.cellCode ≠ .complement := by decide

theorem test_stop_calls_end :
    (after .stopCallSendComplete (calling [⟨1, false⟩])).transmitter = .idle
      ∧ (after (.readbackMismatch (.stopCall .cellCode) false) (calling [⟨1, false⟩])).stop.requests = [⟨1, true⟩]
      ∧ (calling [⟨1, false⟩, ⟨0, false⟩]).line.free = true
      ∧ (after .stopCallSendComplete (calling [⟨1, false⟩, ⟨0, false⟩])).line.free = false := by decide

def matching (m : Matcher) : State := { grinder with stop := { grinder.stop with matcher := m } }
def readChar (b : Byte) : Character := ⟨b, true, false, false⟩

/-- The matcher stands here while this station's requests stand so, the first awaiting resolution. -/
def unresolved (m : Matcher) (rs : List StopRequest) : State :=
  { grinder with stop := { grinder.stop with matcher := m, requests := rs } }

theorem test_StopCharacterIsMatched_hypotheses :
    decideCharacter (cleanChar 0xAA true) = some (readChar 0xAA)
      ∧ decideCharacter (cleanChar 0x5A true) = some (readChar 0x5A)
      ∧ decideCharacter { cleanChar 0 true with recessiveBefore := 2 } = none ∧ (matching .idle).stop.matcher = .idle
      ∧ (matching (.sync 50 2)).awaitingResolution = false ∧ (matching (.sync 50 2)).stop.matcher = .sync 50 2
      ∧ (matching (.code 50 3 3 0)).stop.matcher = .code 50 3 3 0
      ∧ (matching (.code 50 0 0 0)).stop.matcher = .code 50 0 0 0
      ∧ (matching (.code 50 5 4 1)).stop.matcher = .code 50 5 4 1
      ∧ (matching (.code 50 5 5 0)).stop.matcher = .code 50 5 5 0
      ∧ (matching (.sender 50)).stop.matcher = .sender 50
      ∧ (readChar 0x5A).data = (matching (.code 50 5 4 1)).constants.cellCode
      ∧ (readChar 0x5A).mark = true ∧ (readChar 0x5A).framing = false
      ∧ ¬(readChar 0xAA).data = (matching (.code 50 1 0 1)).constants.cellCode
      ∧ ¬(readChar 0x5A).data = 0xAA#8
      ∧ (matching (.complement 50 9 true)).stop.matcher = .complement 50 9 true
      ∧ (unresolved (.sync 50 0) [⟨3, true⟩]).stop.requests = [⟨3, true⟩]
      ∧ (unresolved (.sync 50 0) [⟨4, true⟩, ⟨0, false⟩]).stop.requests = [⟨4, true⟩, ⟨0, false⟩] := by decide

theorem test_spoiled_character_hypotheses :
    ∃ ch, decideCharacter (framed 0xAA) = some ch ∧ ch.framing = true ∧ ¬(ch.mark = true ∧ ch.framing = false) :=
  ⟨⟨0xAA, true, false, true⟩, by decide⟩

/-- A failure on a character with a framing mark leaves the request to the class of the run. -/
theorem test_spoiled_character_holds_the_request :
    (after (.stopCharacter (framed 0xAA)) (unresolved (.sync 50 0) [⟨3, true⟩])).stop
        = ⟨[⟨3, true⟩], false, .idle, none, true⟩
      ∧ (after (.stopCharacter (framed 0xAA)) (matching (.sync 50 0))).stop.failHeld = false := by decide

/-- A request held for the class of a run is sent again at line free, and the hold ends with it. -/
theorem test_line_free_ends_the_hold :
    ((after .lineFree spoiled).stop.requests, (after .lineFree spoiled).stop.failHeld) = ([⟨2, false⟩], false) := by decide

theorem test_unresolved_requests :
    [(after (.stopCharacter (cleanChar 0x5A true)) (unresolved (.code 50 4 4 0) [⟨1, true⟩])).stop.requests,
        (after (.stopCharacter (cleanChar 246 true)) (unresolved (.complement 50 9 true) [⟨1, true⟩])).stop.requests,
        (after (.stopCharacter (cleanChar 0x5A true)) (unresolved (.sync 50 0) [⟨3, true⟩])).stop.requests,
        (after (.stopCharacter (cleanChar 0x5A true)) (unresolved (.sync 50 0) [⟨4, true⟩])).stop.requests,
        (after (.stopCharacter (cleanChar 0xAA true)) (unresolved (.code 50 1 0 1) [⟨4, true⟩, ⟨0, false⟩])).stop.requests]
      = [[], [], [⟨4, false⟩], [], [⟨1, false⟩]] := by decide

theorem test_stop_call_is_matched :
    (after (.stopCharacter (cleanChar 0xAA true)) (matching (.sync 50 2))).stop.matcher = .code 50 0 0 0
      ∧ (after (.stopCharacter (cleanChar 0x5A true)) (matching (.code 50 5 4 1))).stop.latch = true
      ∧ (after (.stopCharacter (cleanChar 0x5A true)) (matching (.code 50 3 3 0))).stop.matcher = .code 50 4 4 0
      ∧ (after (.stopCharacter (cleanChar 0xAA true)) (matching (.code 50 0 0 0))).stop.matcher = .code 50 1 0 1
      ∧ (after (.stopCharacter (cleanChar 0xAA true)) (matching (.code 50 5 5 0))).stop.matcher = .sender 50
      ∧ (after (.stopCharacter (cleanChar 9 true)) (matching (.sender 50))).stop.matcher = .complement 50 9 true
      ∧ (after (.stopCharacter (cleanChar 246 true)) (matching (.complement 50 9 true))).stop.event
        = some ⟨50, some 9⟩ := by decide

def withRollTimer (t : Timer) (s : State) : State := s.mapPeers fun p => { p with rollTimer := some t }

theorem test_RollTimerSubmitsRoll_hypotheses :
    (withRollTimer dueTimer grinder).peers.rollTimer = some dueTimer
      ∧ dueTimer.length ≤ ((withRollTimer dueTimer grinder).timeBase - dueTimer.start).toNat
      ∧ ((withRollTimer ⟨0, 1001⟩ grinder).timeBase - (0 : Time)).toNat < 1001
      ∧ (withRollTimer dueTimer grinder).lineFault = false
      ∧ (withRollTimer dueTimer grinder).fe.txQueue.length + (withRollTimer dueTimer grinder).fe.admissionsDue < 6
      ∧ 6 ≤ (withTx (List.replicate 6 rollEntry) (withRollTimer dueTimer grinder)).fe.txQueue.length := by decide

theorem test_roll_is_submitted :
    (after .rollTimerExpire (withRollTimer dueTimer grinder)).fe.txQueue = [rollEntry] := by decide

def withPeers (rs : List PeerRecord) (s : State) : State := s.mapPeers fun p => { p with records := rs }
def peer9 (silent : Bool) (r : Role) : PeerRecord := ⟨0, 9, r, 500, silent, none⟩

/-- A ROLL of station 9 with this generation and digest and the station's own family digest. -/
def rollItem (r : Role) (generation digest : Word16) : RxItem :=
  item .roll r ([0] ++ be16 generation ++ be16 digest ++ be16 0 ++ [0, 0]) true false false

def rollSeen (generation digest : Word16) : RollValues := ⟨true, false, generation, digest, 0, 0, 0, false⟩

theorem test_RollIsTakenAndCompared_hypotheses :
    let s := withPeers [peer9 false .store] (withQueue [rollItem .store 0 0xFFFF] grinder)
    s.isLive = true ∧ s.fe.rxQueue = [rollItem .store 0 0xFFFF] ∧ (rollItem .store 0 0xFFFF).kind = .roll
      ∧ (rollItem .store 0 0xFFFF).forPeers = true
      ∧ rollValues (rollItem .store 0 0xFFFF) = some (rollSeen 0 0xFFFF)
      ∧ (rollItem .store 0 0xFFFF).own = none ∧ s.peer 9 = some (peer9 false .store) ∧ s.synced = true
      ∧ (rollItem .store 0 0xFFFF).synced = true ∧ s.isStore = false ∧ s.familyDigest = 0 ∧ s.fe.deaf = false
      ∧ s.pool.generation = 0 ∧ s.pool.digest = 0xFFFF
      ∧ ¬((rollSeen 1 0xFFFF).generation = s.pool.generation) ∧ ¬((rollSeen 0 0).digest = s.pool.digest)
      ∧ ({ rollItem .store 0 0xFFFF with own := some .peerTable } : RxItem).own.isSome = true := by decide

/-- A station that has heard a ROLL of station 9 and may hold a disagreement record. -/
def hearing (d : Option Disagreement) (i : RxItem) (s : State) : State :=
  (withPeers [peer9 false i.role] (withQueue [i] s)).mapPeers fun p => { p with disagreement := d }

def strangeRoll (r : Role) : RxItem :=
  item .roll r ([0] ++ be16 0 ++ be16 0xFFFF ++ be16 7 ++ [0, 0]) true false false

theorem test_roll_disagreements_hypotheses :
    let i := rollItem .grinder 1 0xFFFF
    (hearing none i grinder).synced = true ∧ i.role = .grinder ∧ i.synced = true ∧ i.doubtful = false
      ∧ rollValues i = some (rollSeen 1 0xFFFF) ∧ (rollSeen 1 0xFFFF).generation ≠ (hearing none i grinder).pool.generation
      ∧ (hearing none i grinder).peers.disagreement = none
      ∧ (hearing (some ⟨9, 0⟩) i grinder).peers.disagreement = some ⟨i.sender, 0⟩
      ∧ (hearing (some ⟨8, 0⟩) i grinder).peers.disagreement = some ⟨8, 0⟩ ∧ (8 : Station) ≠ i.sender
      ∧ (rollValues (strangeRoll .store)).map RollValues.familyDigest = some 7 ∧ (7 : Word16) ≠ grinder.familyDigest
      ∧ grinder.isStore = false ∧ grinder.peers.familyMismatch = false ∧ store.isStore = true
      ∧ store.peers.roleClash = false
      ∧ ({ strangeRoll .store with sender := 4 } : RxItem).sender.toNat < store.station.toNat
      ∧ store.station.toNat ≤ (strangeRoll .store).sender.toNat := by decide

theorem test_divergence_hypotheses :
    let i := rollItem .grinder 1 0xFFFF
    (hearing (some ⟨8, 0⟩) i grinder).headsLive = true ∧ (hearing (some ⟨8, 0⟩) i store).storeLive = true
      ∧ (hearing (some ⟨8, 0⟩) i store).synced = true ∧ (hearing (some ⟨8, 0⟩) i store).isLive = true
      ∧ grinder.peers.familyMismatch = false ∧ grinder.peers.roleClash = false
      ∧ grinder.image.askingStopped = false ∧ grinder.lineFault = false := by decide

theorem test_roll_disagreements :
    (after .roll (hearing none (rollItem .grinder 1 0xFFFF) grinder)).peers.disagreement = some ⟨9, 900⟩
      ∧ (after .roll (hearing (some ⟨8, 0⟩) (rollItem .grinder 1 0xFFFF) grinder)).pool.sync = .joining
      ∧ (after .roll (hearing none (strangeRoll .grinder) grinder)).counters.familyDiff = 1
      ∧ (after .roll (hearing none (strangeRoll .store) grinder)).peers.familyMismatch = true
      ∧ (after .roll (hearing none (strangeRoll .store) store)).peers.roleClash = false := by decide

theorem test_rolls_are_compared :
    (after .roll (withPeers [peer9 false .store] (withQueue [rollItem .store 0 0xFFFF] grinder))).pool.sync = .synced
      ∧ (after .roll (withPeers [peer9 false .store] (withQueue [rollItem .store 1 0xFFFF] grinder))).pool.sync
        = .joining := by decide

def claimItem : RxItem := item .claim .grinder [0, 1] true true false

/-- Sixteen LIVE records of the stations 10 to 25. -/
def sixteen : List PeerRecord := (List.range 16).map fun n => ⟨n, BitVec.ofNat 5 (10 + n), .grinder, 500, false, none⟩

theorem test_PeerItemLearnsSender_hypotheses :
    let s := withQueue [claimItem] grinder
    s.isLive = true ∧ s.fe.rxQueue = [claimItem] ∧ claimItem.kind ≠ .roll ∧ claimItem.forPeers = true
      ∧ claimItem.own = none ∧ s.peer 9 = none ∧ (∀ r ∈ s.peers.records, r.pos ≠ 0)
      ∧ (withPeers (sixteen.take 15) s).peer 9 = none
      ∧ (∀ r ∈ (withPeers (sixteen.take 15) s).peers.records, r.pos ≠ 15)
      ∧ (∀ k < 15, ∃ r ∈ (withPeers (sixteen.take 15) s).peers.records, r.pos = k)
      ∧ (withPeers sixteen s).peer 9 = none ∧ (∀ k < 16, ∃ r ∈ (withPeers sixteen s).peers.records, r.pos = k)
      ∧ (withPeers sixteen s).peers.silentOrder = [] ∧ claimItem.role = .grinder
      ∧ (withPeers [peer9 false .grinder] s).peer 9 = some (peer9 false .grinder)
      ∧ ({ claimItem with own := some (.swapUnit .h0) } : RxItem).own.isSome = true := by decide

/-- Sixteen records as a frame of station 9 arrives: the first SILENT, or all LIVE with the fifth heard longest ago. -/
def crowded (silent : Bool) : State :=
  (withPeers (sixteen.modify 4 fun r => { r with silent := silent, lastHeard := 100 })
    (withQueue [{ claimItem with role := .store }] grinder)).mapPeers
    fun p => { p with silentOrder := if silent then [14] else [] }

theorem test_peer_is_replaced_hypotheses :
    (crowded true).peers.silentOrder = [14]
      ∧ (crowded true).peer 14 = some ⟨4, 14, .grinder, 100, true, none⟩
      ∧ (crowded true).peer 9 = none ∧ (crowded false).peer 9 = none
      ∧ (∀ k < 16, ∃ x ∈ (crowded true).peers.records, x.pos = k)
      ∧ (∀ k < 16, ∃ x ∈ (crowded false).peers.records, x.pos = k)
      ∧ (crowded false).peers.silentOrder = []
      ∧ (⟨4, 14, .grinder, 100, false, none⟩ : PeerRecord) ∈ (crowded false).peers.records
      ∧ (∀ x ∈ (crowded false).peers.records, x ≠ ⟨4, 14, .grinder, 100, false, none⟩ → x.role = .grinder →
          x.silent = false → ((crowded false).timeBase - x.lastHeard).toNat < ((crowded false).timeBase - (100 : Time)).toNat)
      ∧ (∀ r ∈ sixteen.map fun r => { r with role := Role.store }, r.role = .store ∨ r.silent = true) := by decide

theorem test_peer_is_replaced :
    [crowded true, crowded false].map (fun s => ((after .peerItem s).peers.records.map PeerRecord.station)[4]?)
      = [some 9, some 9] := by decide

/-- A ROLL of station 9, a store's, at a table of 16 records. -/
def crowdedRoll (silent : Bool) : State := setRxQueue [rollItem .store 0 0xFFFF] (crowded silent)

theorem test_unknown_roll_hypotheses :
    (crowdedRoll true).isLive = true ∧ (crowdedRoll true).peer 9 = none ∧ (crowdedRoll false).peer 9 = none
      ∧ (crowdedRoll true).peers.silentOrder = [14] ∧ (crowdedRoll false).peers.silentOrder = []
      ∧ rollValues (rollItem .store 0 0xFFFF) = some (rollSeen 0 0xFFFF)
      ∧ (∃ k < 16, ∀ r ∈ (withPeers (sixteen.take 15) grinder).peers.records, r.pos ≠ k)
      ∧ (rollItem .grinder 0 0xFFFF).role = .grinder := by decide

theorem test_unknown_roll_is_learned_with_its_values :
    [after .roll (withQueue [rollItem .store 0 0xFFFF] grinder), after .roll (crowdedRoll true),
        after .roll (crowdedRoll false)].map (fun s => s.peers.records.filter fun r => r.station == 9)
      = [0, 4, 4].map fun n => [⟨n, 9, .store, 900, false, some (rollSeen 0 0xFFFF)⟩] := by decide

theorem test_peer_is_learned :
    (after .peerItem (withQueue [claimItem] grinder)).peers.records = [⟨0, 9, .grinder, 900, false, none⟩]
      ∧ (after .peerItem (withPeers sixteen (withQueue [claimItem] grinder))).counters.unlearned = 1 := by decide

def late : State :=
  { withPeers [peer9 false .grinder] grinder with timeBase := 400500 }.mapPeers
    fun p => { p with disagreement := some ⟨9, 500⟩ }

theorem test_PeerTimersExpire_hypotheses :
    late.isLive = true ∧ late.peer 9 = some (peer9 false .grinder)
      ∧ 4 * (late.constants.rollIntervalMs * 1000) ≤ (late.timeBase - (500 : Time)).toNat
      ∧ late.peers.disagreement = some ⟨9, 500⟩ := by decide

theorem test_peer_goes_silent :
    (after (.peerSilenceTimeout 9) late).peers.silentOrder = [9]
      ∧ (after .disagreementRecordExpire late).peers.disagreement = none := by decide

/-! ## The sister pool -/

def entry (pos : Nat) (serial : Serial) (s : PoolState) (h : Option Holder) (slot : Option (BitVec 6)) : Entry :=
  ⟨pos, serial, 1, s, false, 530000, h, slot⟩

/-- One entry of each state; station 5 holds a wheel on its way at head 1, and one MOUNTED at head 0. -/
def table : Table :=
  [entry 0 1 .free none (some 0), entry 1 2 .claimed (some ⟨5, .h1, false⟩) (some 47),
    entry 2 3 .transit (some ⟨6, .h0, false⟩) none, entry 3 4 .delivered (some ⟨6, .h1, true⟩) none,
    entry 4 5 .mounted (some ⟨5, .h0, false⟩) none, entry 5 6 .returning (some ⟨5, .h0, true⟩) none,
    { entry 6 7 .returning (some ⟨5, .h0, true⟩) none with spent := true },
    entry 7 8 .quarantined (some ⟨5, .h1, false⟩) none, entry 63 9 .quarantined none none]

/-- A table of 64 entries. -/
def fullTable : Table := (List.range 64).map fun n => entry n (BitVec.ofNat 32 (n + 10)) .quarantined none none

/-- Where an entry's holder stands. -/
def spot (e : Entry) : Option (Station × Head) := e.holder.map fun h => (h.station, h.head)

/-- What decides that two entries differ as R62 and R64 ask. -/
def differ (a b : Entry) : Bool :=
  a.serial != b.serial && (a.slot.isNone || a.slot != b.slot)
    && (a.state != .mounted || b.state != .mounted || spot a != spot b)
    && (!a.onTheWay || !b.onTheWay || spot a != spot b)

theorem spot_of_heldAt {e : Entry} {st : Station} {h : Head} (he : e.heldAt st h = true) : spot e = some (st, h) := by
  unfold Entry.heldAt at he
  unfold spot
  cases hh : e.holder with
  | none => simp [hh] at he
  | some x =>
    simp only [hh, Option.any_some, Bool.and_eq_true, beq_iff_eq] at he
    simp [he.1, he.2]

theorem apart_of_differ {a b : Entry} (h : differ a b = true) : a.apart b := by
  simp only [differ, Bool.and_eq_true, Bool.or_eq_true, bne_iff_ne, Option.isNone_iff_eq_none, Bool.not_eq_true'] at h
  refine ⟨h.1.1.1, ?_, ?_, ?_⟩
  · intro hs
    rcases h.1.1.2 with h0 | h0
    · simp [h0] at hs
    · exact h0
  · rintro ha hb st k ⟨h1, h2⟩
    rcases h.1.2 with (h0 | h0) | h0
    · exact h0 ha
    · exact h0 hb
    · exact h0 ((spot_of_heldAt h1).trans (spot_of_heldAt h2).symm)
  · rintro ha hb st k ⟨h1, h2⟩
    rcases h.2 with (h0 | h0) | h0
    · simp [ha] at h0
    · simp [hb] at h0
    · exact h0 ((spot_of_heldAt h1).trans (spot_of_heldAt h2).symm)

/-- One entry by itself, decided. -/
def soundOne (e : Entry) : Bool :=
  decide (e.pos < 64) && e.serial != 0 && e.slot.all (fun n => n.toNat < 48) && e.agrees

theorem tableLaws_of {t : Table} (h1 : t.Pairwise fun a b => a.pos < b.pos)
    (h2 : t.Pairwise fun a b => differ a b = true) (h3 : ∀ e ∈ t, soundOne e = true) : tableLaws t := by
  refine ⟨h1, h2.imp fun h => apart_of_differ h, fun e he => ?_⟩
  have h := h3 e he
  simp only [soundOne, Bool.and_eq_true, decide_eq_true_eq, bne_iff_ne] at h
  refine ⟨h.1.1.1, h.1.1.2, fun n hn => ?_, h.2⟩
  have := h.1.2
  rw [hn] at this
  simpa [Config.slotCount] using this

theorem test_table_keeps_the_laws : tableLaws table :=
  tableLaws_of (by decide +kernel) (by decide +kernel) (by decide +kernel)

theorem test_full_table_keeps_the_laws : tableLaws fullTable ∧ fullTable.length = 64 :=
  ⟨tableLaws_of (by decide +kernel) (by decide +kernel) (by decide +kernel), by decide⟩

theorem test_RoleAndFieldChecks_hypotheses :
    roleAllowed (PoolFrame.kind (.enter 1 1 1 47)) .store = true ∧ roleAllowed (PoolFrame.kind (.claim 1 15)) .grinder = true
      ∧ roleAllowed (PoolFrame.kind (.release 1 5)) .grinder = true ∧ badField (.enter 1 15 1 47) = false
      ∧ badField (.enter 1 16 1 47) = true ∧ badField (.enter 1 15 1 48) = true
      ∧ roleAllowed .enter .grinder = false ∧ roleAllowed .claim .store = false := by decide

theorem test_EnterAddsFreeEntry_hypotheses :
    badField (.enter 20 1 530000 46) = false ∧ tableLaws table ∧ (∃ e ∈ table, e.serial = 9)
      ∧ ((∀ e ∈ table, e.serial ≠ 20) ∧ (∃ e ∈ table, e.slot = some ((47 : Byte).setWidth 6)))
      ∧ ((∀ e ∈ table, e.slot ≠ some ((46 : Byte).setWidth 6)) ∧ table.length < 64)
      ∧ ((∀ e ∈ fullTable, e.serial ≠ 80) ∧ (∀ e ∈ fullTable, e.slot ≠ some ((46 : Byte).setWidth 6))) :=
  ⟨by decide, test_table_keeps_the_laws, by decide, by decide, by decide, by decide +kernel⟩

theorem test_ClaimSelectsSmallest_hypotheses :
    badField (.claim 1 1) = false ∧ badField (.claim 0 1) = false ∧ tableLaws table
      ∧ (∃ e ∈ table, e.state ∈ [PoolState.claimed, .transit, .delivered] ∧ e.heldAt 5 .h1 = true)
      ∧ (∀ e ∈ table, e.state ∈ [PoolState.claimed, .transit, .delivered] → e.heldAt 5 .h0 = false)
      ∧ (∃ e ∈ table, e.state = .free ∧ e.family = (1 : Byte).setWidth 4
          ∧ (familyAt grinder.families 1).minDiameter.toNat
            + ((familyAt grinder.families 1).reserve + 1) * (familyAt grinder.families 1).depth < e.diameter.toNat)
      ∧ (∀ e ∈ table, ¬(e.state = .free ∧ e.family = (2 : Byte).setWidth 4)) :=
  ⟨by decide, by decide, test_table_keeps_the_laws, by decide, by decide, by decide, by decide⟩

theorem test_claim_threshold_is_strict :
    eligible grinder.families 1 { entry 0 1 .free none (some 0) with diameter := 520840 } = false
      ∧ eligible grinder.families 1 { entry 0 1 .free none (some 0) with diameter := 520841 } = true := by decide

theorem test_DispatchAndDeliver_hypotheses :
    tableLaws table ∧ (20 : Serial) ≠ 0 ∧ (∀ e ∈ table, e.serial ≠ 20)
      ∧ (∃ e ∈ table, e.serial = 1 ∧ e.state ≠ .claimed ∧ e.state ≠ .transit)
      ∧ (∃ e ∈ table, e.serial = 2 ∧ e.state = .claimed) ∧ ∃ e ∈ table, e.serial = 3 ∧ e.state = .transit :=
  ⟨test_table_keeps_the_laws, by decide, by decide, by decide, by decide, by decide⟩

theorem test_MountChangesWheels_hypotheses :
    badField (.mount 1 2 5 530000 1) = false ∧ badField (.mount 0 20 0 0 0) = false ∧ tableLaws table
      ∧ (∀ e ∈ table, e.serial ≠ 20) ∧ (∃ e ∈ table, e.serial = 1 ∧ e.state ∉ [PoolState.claimed, .transit, .delivered])
      ∧ (∃ e ∈ table, e.serial = 2 ∧ e.state ∈ [PoolState.claimed, .transit, .delivered] ∧ e.heldAt 5 .h0 = false)
      ∧ ∃ e ∈ table, e.serial = 2 ∧ e.state ∈ [PoolState.claimed, .transit, .delivered] ∧ e.heldAt 5 .h1 = true :=
  ⟨by decide, by decide, test_table_keeps_the_laws, by decide, by decide, by decide, by decide⟩

theorem test_DeclareStatesMountedWheel_hypotheses :
    badField (.declare 1 5 15 0) = false ∧ tableLaws table
      ∧ (∃ e ∈ table, e.serial = 5 ∧ e.state = .mounted ∧ e.heldAt 5 .h1 = false)
      ∧ (∃ e ∈ table, e.serial = 9 ∧ e.state = .quarantined)
      ∧ (∃ e ∈ table, e.serial = 1 ∧ ¬(e.state = .mounted ∧ e.heldAt 5 .h1 = false) ∧ e.state ≠ .quarantined)
      ∧ ((∀ e ∈ table, e.serial ≠ 20) ∧ table.length < 64)
      ∧ tableLaws fullTable ∧ ((∀ e ∈ fullTable, e.serial ≠ 80) ∧ fullTable.length = 64) :=
  ⟨by decide, test_table_keeps_the_laws, by decide, by decide, by decide, by decide,
    test_full_table_keeps_the_laws.1, by decide +kernel⟩

theorem test_ReleaseByItsChecks_hypotheses :
    badField (.release 2 5) = false ∧ badField (.release 2 1) = false ∧ tableLaws table
      ∧ (∀ e ∈ table, e.serial ≠ 20) ∧ (∃ e ∈ table, e.serial = 2 ∧ e.state = .claimed ∧ e.heldByStation 5 = true)
      ∧ ∃ e ∈ table, e.serial = 4 ∧ e.state = .delivered ∧ e.heldByStation 6 = true :=
  ⟨by decide, by decide, test_table_keeps_the_laws, by decide, by decide, by decide⟩

theorem test_QuarantineRackRemove_hypotheses :
    badField (.quarantine 5 5 1) = false ∧ tableLaws table ∧ (∀ e ∈ table, e.serial ≠ 20)
      ∧ (∃ e ∈ table, e.serial = 9 ∧ e.heldByStation 5 = false) ∧ ∃ e ∈ table, e.serial = 5 ∧ e.heldByStation 5 = true :=
  ⟨by decide, test_table_keeps_the_laws, by decide, by decide, by decide⟩

theorem test_rack_and_remove_hypotheses :
    badField (.rack 6 47) = false ∧ badField (.remove 9 3) = false ∧ tableLaws table
      ∧ (∀ e ∈ table, e.serial ≠ 20) ∧ (∃ e ∈ table, e.serial = 7 ∧ e.state = .returning ∧ e.spent = true)
      ∧ (∃ e ∈ table, e.serial = 6 ∧ e.state = .returning ∧ e.spent = false)
      ∧ (∃ x ∈ table, x.slot = some ((47 : Byte).setWidth 6)) ∧ (∀ x ∈ table, x.slot ≠ some ((46 : Byte).setWidth 6))
      ∧ (∃ e ∈ table, e.serial = 5 ∧ e.state ∈ [PoolState.claimed, .transit, .delivered, .mounted])
      ∧ ∃ e ∈ table, e.serial = 9 ∧ e.state ∈ [PoolState.free, .returning, .quarantined] :=
  ⟨by decide, by decide, test_table_keeps_the_laws, by decide, by decide, by decide, by decide, by decide, by decide,
    by decide⟩

def withTable (t : Table) (s : State) : State := s.mapPool fun p => { p with table := t, digest := tableDigest t }

/-- An item of station 5's store with a pool frame in it. -/
def poolItem (f : PoolFrame) (r : Role) : RxItem := { item f.kind r f.data false true false with sender := 5 }

theorem test_PoolCommandBySyncState_hypotheses :
    let i := poolItem (.rack 6 46) .store
    let s := withTable table (withQueue [i] store)
    poolCommandKind .rack = some .rack ∧ s.isLive = true ∧ s.synced = true ∧ s.fe.rxQueue = [] ++ i :: []
      ∧ i.forPool = true ∧ i.kind = .rack ∧ parsePool i.kind i.data = some (.rack 6 46)
      ∧ (∃ tab sel, applyFrame s.families s.pool.table i.sender i.role (.rack 6 46) = .applied tab sel)
      ∧ applyFrame s.families s.pool.table i.sender i.role (.rack 6 47) = .refused .slotTaken
      ∧ State.reset.synced = false :=
  ⟨rfl, by decide, by decide, rfl, rfl, rfl, by decide, ⟨_, _, rfl⟩, by decide, by decide⟩

/-- A pool command takes this frame at a store whose pool holds `table`. -/
def applied (c : Instr) (f : PoolFrame) (r : Role) : State :=
  after c (withTable table (withQueue [poolItem f r] store))

theorem test_pool_commands_change_states :
    let stateOf := fun (s : State) (serial : Serial) => (findSerial s.pool.table serial).map Entry.state
    stateOf (applied .enter (.enter 20 1 530000 46) .store) 20 = some .free
      ∧ stateOf (applied .claim (.claim 0 1) .grinder) 1 = some .claimed
      ∧ stateOf (applied .dispatch (.dispatch 2) .store) 2 = some .transit
      ∧ stateOf (applied .deliver (.deliver 3) .store) 3 = some .delivered
      ∧ stateOf (applied .mount (.mount 1 2 0 0 0) .grinder) 2 = some .mounted
      ∧ stateOf (applied .declare (.declare 0 1 1 530000) .grinder) 5 = some .quarantined
      ∧ stateOf (applied .release (.release 2 1) .grinder) 2 = some .free
      ∧ stateOf (applied .quarantine (.quarantine 5 1 1) .grinder) 5 = some .quarantined
      ∧ stateOf (applied .rack (.rack 6 46) .store) 6 = some .free
      ∧ stateOf (applied .remove (.remove 9 2) .store) 9 = none := by decide +kernel

theorem test_EveryFrameKeepsTableLaws_hypotheses :
    tableLaws table ∧ ∃ t' sel, applyFrame grinder.families table 5 .store (.rack 6 46) = .applied t' sel :=
  ⟨test_table_keeps_the_laws, _, _, rfl⟩

/-! ## The image unit -/

def askItem : RxItem := item .imageAsk .grinder [] false false true

def withImage (f : ImageUnit → ImageUnit) (s : State) : State := s.mapImage f

theorem test_ImageAskIsAnswered_hypotheses :
    let s := withQueue [askItem] grinder
    s.isLive = true ∧ s.fe.rxQueue = [askItem] ∧ askItem.kind = .imageAsk ∧ askItem.forImage = true
      ∧ askItem.forPeers = false ∧ askItem.forPool = false ∧ askItem.own = none ∧ s.fe.deaf = false
      ∧ s.image.responder = .idle ∧ s.mayRespond = true ∧ s.lineFault = false ∧ s.fe.held = []
      ∧ s.fe.txQueue.length + s.fe.admissionsDue < 6
      ∧ ({ s with fe := { s.fe with doubtful := true } } : State).mayRespond = false
      ∧ (withImage (fun u => { u with responder := .running }) s).image.responder = .running
      ∧ (withImage (fun u => { u with responder := .queued }) s).image.responder = .queued := by decide

theorem test_image_ask_is_answered :
    (after .imageAsk (withQueue [askItem] grinder)).image.responder = .queued := by decide

def joiner : State := { grinder with pool := { grinder.pool with sync := .joining } }

/-- A DEAF station without a pool, with one item for one consumer in its receive queue. -/
def deafJoiner (i : RxItem) : State := { setRxQueue [i] joiner with fe := { joiner.fe with rxQueue := [i], deaf := true } }

def lastItems : List (Instr × RxItem) :=
  [(.roll, { rollItem .store 0 0 with own := some .peerTable }), (.peerItem, item .imageAsk .grinder [] true false false),
    (.rack, poolItem (.rack 6 46) .store), (.imageAsk, askItem)]

theorem test_last_item_ends_deaf_hypotheses :
    (∀ x ∈ lastItems, (deafJoiner x.2).isLive = true ∧ (deafJoiner x.2).fe.deaf = true
        ∧ (deafJoiner x.2).fe.rxQueue = [x.2] ∧ (deafJoiner x.2).mayAsk = true ∧ (deafJoiner x.2).lineFault = false
        ∧ (deafJoiner x.2).fe.held = [] ∧ (deafJoiner x.2).fe.txQueue.length + (deafJoiner x.2).fe.admissionsDue < 6)
      ∧ lastItems.map (fun x => (x.2.forPeers, x.2.forPool, x.2.forImage, x.2.own.isSome))
        = [(true, false, false, true), (true, false, false, false), (false, true, false, false),
          (false, false, true, false)]
      ∧ poolCommandKind .rack = some .rack ∧ joiner.synced = false := by decide

theorem test_last_item_ends_deaf :
    lastItems.map (fun x => (after x.1 (deafJoiner x.2)).fe.deaf) = [false, false, false, false]
      ∧ lastItems.map (fun x => (after x.1 (deafJoiner x.2)).fe.txQueue) = [[askEntry], [askEntry], [askEntry], [askEntry]] := by
  decide

/-- Five FREE wheels, as the buffer of a responder holds them. -/
def image : ImageBuffer :=
  let es := (List.range 5).map fun n =>
    entry n (BitVec.ofNat 32 (n + 1)) .free none (some (BitVec.ofNat 6 n))
  ⟨es, 40, crc16 (es.flatMap Entry.bytes)⟩

def partItem (k : Nat) : RxItem := item .imagePart .store (imagePartData image k) false false true

/-- The collection after part 0 of `image`. -/
def collected (responder : Station) : Collection := ⟨responder, 40, 2, 5, 1, image.entries.take 4⟩

theorem test_ImagePartIsCollected_hypotheses :
    joiner.isLive = true ∧ (partItem 0).kind = .imagePart ∧ (partItem 0).forImage = true
      ∧ (partItem 0).forPeers = false ∧ (partItem 0).forPool = false ∧ (partItem 0).own = none
      ∧ joiner.fe.deaf = false ∧ joiner.pool.sync = .joining
      ∧ (∃ p, imagePartHead (partItem 0).data = some p ∧ p.index = 0
          ∧ wellFormedPart p = some (image.entries.take 4, none))
      ∧ ∃ p, imagePartHead (partItem 1).data = some p ∧ p.index ≠ 0
          ∧ wellFormedPart p = some (image.entries.drop 4, some image.digest)
          ∧ (collected 9).responder = (partItem 1).sender ∧ (collected 8).responder ≠ (partItem 1).sender
          ∧ p.count = (collected 9).partCount ∧ p.index = (collected 9).nextIndex
          ∧ (∀ x, (collected 9).entries.getLast? = some x → ∀ e ∈ image.entries.drop 4, x.serial.toNat < e.serial.toNat)
          ∧ crc16 (((collected 9).entries ++ image.entries.drop 4).flatMap Entry.bytes) = image.digest :=
  ⟨rfl, rfl, rfl, rfl, rfl, rfl, rfl, rfl,
    ⟨⟨40, 0, 2, 5, (image.entries.take 4).flatMap Entry.bytes⟩, by decide +kernel⟩,
    ⟨⟨40, 1, 2, 5, (image.entries.drop 4).flatMap Entry.bytes ++ be16 image.digest⟩, by decide +kernel⟩⟩

/-- A part 0 that is the last too, of one wheel, with a digest. -/
def onePart (digest : Word16) : RxItem :=
  item .imagePart .store (imagePartData ⟨image.entries.take 1, 40, digest⟩ 0) false false true

/-- A part that is not well formed: it carries none of its entries. -/
def badPart (k : Byte) : RxItem := item .imagePart .store [0, 40, k, 3, 9] false false true

/-- A part of this index with four wheels from this serial on, of an image of three parts. -/
def middlePart (k : Byte) (serial : Nat) : RxItem :=
  item .imagePart .store ([0, 40, k, 3, 9] ++ ((List.range 4).map fun n =>
    entry n (BitVec.ofNat 32 (serial + n)) .free none (some (BitVec.ofNat 6 (serial + n)))).flatMap Entry.bytes)
    false false true

/-- A joiner that has collected part 0 of the three from this station, and whose ask timer runs. -/
def collecting (responder : Station) : State :=
  withImage (fun u =>
    { u with askTimer := some dueTimer, askCount := 3
             collection := some ⟨responder, 40, 3, 9, 1, image.entries.take 4⟩ }) joiner

theorem test_image_parts_hypotheses :
    ((imagePartHead (onePart 0).data).bind wellFormedPart).map Prod.snd = some (some 0)
      ∧ ((imagePartHead (badPart 0).data).map ImagePartHead.index) = some 0
      ∧ (imagePartHead (badPart 1).data).bind wellFormedPart = none
      ∧ (((imagePartHead (middlePart 1 5).data).bind wellFormedPart).map Prod.snd) = some none
      ∧ crc16 ((image.entries.take 1).flatMap Entry.bytes) ≠ 0 ∧ joiner.mayAsk = true ∧ joiner.fe.held = []
      ∧ joiner.fe.txQueue.length + joiner.fe.admissionsDue < 6 ∧ grinder.pool.sync ≠ .joining
      ∧ (∃ s : State, s.image.responder = .running ∧ s.image.part0Sent = true ∧ s.image.watch = none) := by
  refine ⟨by decide +kernel, by decide, by decide +kernel, by decide +kernel, by decide +kernel, rfl, rfl, by decide,
    by decide, withImage (fun u => { u with responder := .running, part0Sent := true }) grinder, rfl, rfl, rfl⟩

theorem test_image_parts_are_collected :
    ([collecting 9, collecting 8].flatMap fun s => [middlePart 1 5, middlePart 2 5, middlePart 1 3, badPart 1, badPart 0].map
        fun i => (after .imagePart (withQueue [i] s)).image.collection.map fun c => c.entries.length)
      = [some 8, none, none, none, none, some 4, some 4, some 4, some 4, none]
      ∧ (after .imagePart (withQueue [middlePart 1 5] (collecting 9))).image.askTimer = some ⟨1000, 500000⟩ := by
  decide +kernel

theorem test_one_part_images :
    let good := after .imagePart (withQueue [onePart (crc16 ((image.entries.take 1).flatMap Entry.bytes))] joiner)
    let bad := after .imagePart (withQueue [onePart 0] joiner)
    good.pool.sync = .synced ∧ good.pool.table.length = 1 ∧ good.image.watch = none
      ∧ bad.pool.sync = .joining ∧ bad.fe.txQueue = [askEntry] ∧ bad.image.askCount = 0 := by decide +kernel

theorem test_part_0_sets_the_watch :
    let t := after .imagePart (withQueue [partItem 0] (responding .queued none))
    t.image.watch = some ⟨9, 40, ⟨1000, 300000⟩⟩ ∧ t.image.responder = .idle ∧ t.fe.txQueue = []
      ∧ (after .imagePart (withQueue [partItem 1] t)).image.watch = none
      ∧ (after .imagePart (withQueue [partItem 0] (withImage (fun u =>
          { u with responder := .running, part0Sent := true }) grinder))).image.watch = none := by decide +kernel

theorem test_image_is_loaded :
    let s := afterAll [.imagePart, .imagePart] (withQueue [partItem 0, partItem 1] joiner)
    s.pool.sync = .synced ∧ s.pool.generation = 40 ∧ s.pool.table.length = 5 := by decide +kernel

theorem test_AskTimerAsksOrFounds_hypotheses :
    let s := withImage (fun u => { u with askTimer := some dueTimer }) { joiner with pool := PoolEngine.afterReset }
    let j := withImage (fun u => { u with askTimer := some dueTimer }) joiner
    s.isLive = true ∧ s.image.askTimer = some dueTimer ∧ dueTimer.length ≤ (s.timeBase - dueTimer.start).toNat
      ∧ s.lineFault = false ∧ s.fe.held = [] ∧ s.mayAsk = true ∧ s.fe.txQueue.length + s.fe.admissionsDue < 6
      ∧ s.pool.sync = .unsynced ∧ j.mayAsk = true ∧ j.pool.sync = .joining ∧ j.isStore = false
      ∧ (∃ (t : State) (w : ImageWatch), t.image.watch = some w ∧ w.timer.length ≤ (t.timeBase - w.timer.start).toNat) :=
  ⟨rfl, rfl, by decide, rfl, rfl, rfl, by decide, rfl, rfl, rfl, rfl,
    withImage (fun u => { u with watch := some ⟨9, 40, dueTimer⟩ }) grinder, ⟨9, 40, dueTimer⟩, rfl, by decide⟩

/-- The timer that an ask queued at the load has started ends at a SYNCED station (notes/assumptions/63.md). -/
theorem test_ask_timer_in_synced_hypotheses :
    let s := withImage (fun u => { u with askTimer := some dueTimer }) grinder
    s.isLive = true ∧ s.image.askTimer = some dueTimer ∧ dueTimer.length ≤ (s.timeBase - dueTimer.start).toNat
      ∧ s.pool.sync ≠ .joining ∧ s.pool.sync = .synced := by decide

/-- A store about to found at the end of its third ask. -/
def founder : State :=
  withImage (fun u => { u with askTimer := some dueTimer, askCount := 2 })
    (withPeers [peer9 true .store] { store with pool := { store.pool with sync := .joining } })

theorem test_founding_hypotheses :
    founder.isLive = true ∧ founder.isStore = true ∧ founder.image.askTimer = some dueTimer
      ∧ dueTimer.length ≤ (founder.timeBase - dueTimer.start).toNat ∧ founder.pool.sync = .joining
      ∧ founder.image.collection = none ∧ founder.image.askCount = 2 ∧ founder.image.partSinceAsk = false
      ∧ founder.peers.roleClash = false
      ∧ ∀ r ∈ founder.peers.records, r.role = .store → r.silent = true := by decide

/-- A store that hears another store asks again. -/
theorem test_store_asks_beside_another :
    let s := withPeers [peer9 false .store] founder
    s.mayAsk = true ∧ (∃ r ∈ s.peers.records, r.role = .store ∧ r.silent = false)
      ∧ (after .askTimerExpire s).pool.sync = .joining ∧ (after .askTimerExpire s).image.askCount = 3
      ∧ (after .askTimerExpire s).fe.txQueue = [askEntry] := by decide

/-- A page of store entries that are CLAIMED, on their way and MOUNTED. -/
def storedEntriesNow : List Entry :=
  [entry 0 1 .claimed (some ⟨6, .h0, false⟩) (some 3), entry 1 2 .free none (some 3), entry 2 1 .free none (some 4),
    entry 3 4 .transit (some ⟨6, .h0, false⟩) none, entry 4 5 .mounted (some ⟨6, .h0, false⟩) none,
    entry 5 6 .mounted (some ⟨6, .h0, false⟩) none, entry 10 7 .delivered (some ⟨6, .h1, true⟩) none]

/-- A part that is all of an image of these entries, with its digest. -/
def wholeImage (es : List Entry) : RxItem :=
  item .imagePart .store (imagePartData ⟨es, 40, crc16 (es.flatMap Entry.bytes)⟩ 0) false false true

/-- The station as it stands when it has loaded these entries. -/
def loaded (es : List Entry) (s : State) : State :=
  after .imagePart (withQueue [wholeImage es] { s with pool := { s.pool with sync := .joining } })

theorem test_reconciliation_hypotheses :
    ([entry 0 1 .mounted (some ⟨5, .h0, false⟩) none, entry 1 2 .delivered (some ⟨5, .h1, true⟩) none].map
        Entry.serial).Nodup
      ∧ grinder.fe.deaf = false ∧ grinder.peers.familyMismatch = false ∧ grinder.peers.roleClash = false
      ∧ grinder.lineFault = false ∧ grinder.fe.held = [] ∧ grinder.fe.txQueue.length + grinder.fe.admissionsDue ≤ 2
      ∧ grinder.isStore = false ∧ store.isStore = true ∧ (grinder.swap .h0).held = none
      ∧ (grinder.swap .h0).notNeeded = false ∧ (grinder.swap .h0).outstanding = none
      ∧ (grinder.swap .h0).wants = [] ∧ (grinder.swap .h1).wants = [] ∧ (grinder.swap .h0).retries = [] ∧ (grinder.swap .h0).state = .idle
      ∧ store.store.queue = [] ∧ store.store.sendList = [] ∧ store.store.jobFrame = none
      ∧ store.store.heldCompletion = none := by decide

/-- The head of the loaded table: its DECLARE, nothing, its report, or the wheel it adopts. -/
theorem test_heads_are_reconciled :
    let mounted := entry 0 7 .mounted (some ⟨5, .h0, false⟩) none
    let serving := withRecord (wheel 530000 .serving) grinder
    let broken := (withRecord (wheel 530000 .broken) grinder).mapHead .h0 fun u => { u with report := .due }
    (loaded [mounted] serving).head .h0 = serving.head .h0
      ∧ (loaded [] serving).head .h0
        = { serving.head .h0 with declare := some ⟨.declare 0 7 1 530000, none⟩ }
      ∧ entryOf (.headUnit .h0) (.pool (.declare 0 7 1 530000)) ∈ (loaded [] serving).fe.txQueue
      ∧ ((loaded [] broken).head .h0).report = .outstanding
      ∧ ((loaded [entry 0 7 .quarantined (some ⟨5, .h0, false⟩) none] broken).head .h0).report = .none
      ∧ ((loaded [mounted] grinder).head .h0).record = some ⟨7, 1, 530000, 0, 0, none, .serving⟩
      ∧ headId .h0 ∈ (loaded [mounted] grinder).life.pending := by decide +kernel

/-- The swap unit of the loaded table: what it adopts, and what it does with a wheel of another family. -/
theorem test_swap_units_are_reconciled :
    let onIts (st : PoolState) (h : Head) (change : Bool) : List Entry :=
      [entry 0 8 st (some ⟨5, h, change⟩) (if st = .claimed then some 3 else none)]
    let failed := withSwap (fun u => { u with state := .failed }) grinder
    let u := grinder.swap .h0
    (loaded (onIts .claimed .h0 false) grinder).swap .h0
        = { u with state := .await, held := some 8, heldFamily := 1, claimStamp := some 1000
                   lifetime := some ⟨1000, 10000000⟩ }
      ∧ (loaded (onIts .transit .h0 false) grinder).swap .h0
        = { u with state := .await, held := some 8, heldFamily := 1, claimStamp := some 1000 }
      ∧ (loaded (onIts .delivered .h0 true) grinder).swap .h0
        = { u with state := .delivered, held := some 8, heldFamily := 1, window := .stopped }
      ∧ (loaded (onIts .delivered .h1 true) grinder).swap .h1
        = { u with state := .delivered, held := some 8, heldFamily := 1, window := .stopped, notNeeded := true
                   outstanding := some ⟨.release 8 releaseNotNeeded, false, .delivered⟩ }
      ∧ (loaded (onIts .transit .h1 false) grinder).swap .h1
        = { u with state := .await, held := some 8, heldFamily := 1, claimStamp := some 1000, notNeeded := true }
      ∧ (loaded (onIts .claimed .h0 false) failed).swap .h0 = failed.swap .h0
      ∧ (loaded [] grinder).swap .h1
        = { u with state := .claiming, outstanding := some ⟨.claim 1 2, false, .claiming⟩ } := by decide +kernel

/-- A store's job with a completion held through a pool resync. -/
def heldJob (j : Job) (c : HeldCompletion) : State :=
  store.mapStore fun u => { u with job := some ⟨j, .closing⟩, heldCompletion := some c }

/-- The store of the loaded table: pages, jobs, claims, the track scan, and a held completion. -/
theorem test_store_is_reconciled :
    let t := loaded [entry 0 2 .claimed (some ⟨6, .h1, false⟩) (some 47), entry 1 3 .transit (some ⟨6, .h0, false⟩) none,
      entry 2 6 .returning (some ⟨5, .h0, true⟩) none, entry 3 8 .quarantined (some ⟨5, .h1, true⟩) none] store
    let fetched (e : Entry) := loaded [e] (heldJob ⟨.fetch, 3, .slot 2, some (.change 6 .h0), 0⟩ .done)
    let returned (e : Entry) := loaded [e] (heldJob ⟨.ret, 6, .change 5 .h0, some (.slot 2), 0⟩ .done)
    t.life.pending = [16, 17, 18, 19, 20, 21]
      ∧ t.store.queue = [⟨.ret, 6, .change 5 .h0, none, 1000⟩, ⟨.ret, 8, .change 5 .h1, none, 1000⟩,
          ⟨.fetch, 2, .slot 47, some (.change 6 .h1), 1000⟩]
      ∧ t.store.claims = [⟨2, 6, 1000, false, false⟩]
      ∧ t.store.track = some ⟨.quarantine 3 quarantineLostTrack 0, .submitted⟩
      ∧ (fetched (entry 0 3 .transit (some ⟨6, .h0, false⟩) none)).store.jobFrame = some ⟨.deliver 3, .submitted⟩
      ∧ (fetched (entry 0 3 .quarantined none none)).store.job = none
      ∧ (returned (entry 0 6 .returning (some ⟨5, .h0, true⟩) none)).store.jobFrame = some ⟨.rack 6 2, .submitted⟩
      ∧ (returned (entry 0 6 .free none (some 1))).store.job = none
      ∧ (loaded [entry 0 6 .returning (some ⟨5, .h0, true⟩) none]
          (heldJob ⟨.ret, 6, .change 5 .h0, some (.slot 2), 0⟩ .fault)).store.jobFrame
        = some ⟨.quarantine 6 quarantineGantryFault 0, .submitted⟩ := by decide +kernel

theorem test_founded_entries :
    foundedTable storedEntriesNow
      = [entry 0 1 .free none (some 3), entry 3 4 .quarantined none none, entry 4 5 .mounted (some ⟨6, .h0, false⟩) none,
        entry 5 6 .quarantined none none, entry 10 7 .delivered (some ⟨6, .h1, true⟩) none] := by decide

theorem test_founding_rows_hypotheses :
    (entry 0 1 .claimed none (some 3)).state = .claimed ∧ (entry 3 4 .transit none none).state = .transit
      ∧ (entry 5 6 .mounted none none).state ≠ .claimed ∧ (entry 5 6 .mounted none none).state ≠ .transit
      ∧ (∃ a ∈ foundedTable (storedEntriesNow.take 1), a.serial = 1 ∧ a.slot = some 3)
      ∧ (∃ a ∈ foundedTable (storedEntriesNow.take 5), a.state = .mounted ∧ a.holder = some ⟨6, .h0, false⟩)
      ∧ (∀ a ∈ foundedTable (storedEntriesNow.take 5), a.serial ≠ 6) := by decide

theorem test_store_founds :
    (after .askTimerExpire founder).pool.sync = .synced ∧ (after .askTimerExpire founder).pool.generation = 1 := by
  decide

/-! ## The heads -/

theorem test_EvaluationByZone_hypotheses :
    let f := familyAt grinder.families 1
    f.minDiameter.toNat + f.reserve * f.depth < (wheel 520801 .serving).diameter.toNat
      ∧ (wheel 520800 .serving).diameter.toNat ≤ f.minDiameter.toNat + f.reserve * f.depth
      ∧ f.minDiameter.toNat + f.depth ≤ (wheel 520040 .serving).diameter.toNat
      ∧ (wheel 520039 .serving).diameter.toNat < f.minDiameter.toNat + f.depth := by decide

theorem test_zones_at_their_lines :
    [(520801 : Diameter), 520800, 520040, 520039].map
        (fun d => ((wheel d .serving).evaluated grinder.families).condition)
      = [.serving, .wornSoon, .wornSoon, .lastParts] := by decide

theorem test_DressStrokeIsAccounted_hypotheses :
    let f := familyAt grinder.families 1
    grinder.headsLive = true ∧ ((withRecord (wheel 520881 .serving) grinder).head .h0).record = some (wheel 520881 .serving)
      ∧ Condition.serving ≠ .spent ∧ Condition.serving ≠ .broken
      ∧ (wheel 520039 .lastParts).diameter.toNat < f.minDiameter.toNat + f.depth
      ∧ ¬(wheel 520040 .wornSoon).diameter.toNat < f.minDiameter.toNat + f.depth
      ∧ f.minDiameter.toNat + f.reserve * f.depth < (wheel 520841 .serving).diameter.toNat - f.depth
      ∧ f.reserve ≠ 0 ∧ (Condition.hold .missing).isHold = true
      ∧ ((withCycle contactCycle (withRecord (wheel 520881 .serving) grinder)).head .h0).cycle = some contactCycle
      ∧ (grinder.head .h0).record = none ∧ (grinder.head .h0).dressRisen = false ∧ grinder.life.fault = false
      ∧ ((after (.dressStroke .h0 false) grinder).head .h0).dressRisen = true
      ∧ (wheel 520840 .serving).diameter.toNat - f.depth ≤ f.minDiameter.toNat + f.reserve * f.depth
      ∧ f.minDiameter.toNat + f.depth ≤ (wheel 520080 .wornSoon).diameter.toNat - f.depth
      ∧ (wheel 520079 .wornSoon).diameter.toNat - f.depth < f.minDiameter.toNat + f.depth := by decide

theorem test_dress_strokes :
    ((after (.dressStroke .h0 false) (withRecord (wheel 520840 .serving) grinder)).head .h0).record
        = some { wheel 520800 .wornSoon with dressCount := 1 }
      ∧ (after (.dressStroke .h0 false) grinder).counters.strokesIgnored = 1
      ∧ (afterAll [.dressStroke .h0 false, .dressStroke .h0 false] grinder).counters.strokesIgnored = 1
      ∧ (afterAll [.dressStroke .h0 false, .dressStroke .h0 true] grinder).counters.strokesIgnored = 2 := by decide

theorem test_GrindRiseOpensCycle_hypotheses :
    grinder.headsLive = true ∧ (grinder.headLevels .h0).grind = false
      ∧ ((withRecord (wheel 530000 .lastParts) grinder).head .h0).record = some (wheel 530000 .lastParts)
      ∧ Condition.lastParts ∈ [Condition.serving, .wornSoon, .lastParts]
      ∧ Condition.spent ∉ [Condition.serving, .wornSoon, .lastParts]
      ∧ ((withLevels ⟨true, false, false, false, false⟩ grinder).headLevels .h0).grind = true := by decide

theorem test_grind_rise :
    ((after (.grindRise .h0) (withRecord (wheel 530000 .serving) grinder)).head .h0).cycle.map Cycle.checks = some checks
      ∧ (after (.grindRise .h0) grinder).counters.cyclesRefused = 1 := by decide

/-- A head in an open cycle, its GRIND level high. -/
def grinding (r : HeadRecord) (c : Cycle) : State :=
  withLevels ⟨true, false, true, false, false⟩ (withCycle c (withRecord r grinder))

def lastParts (n : Byte) : HeadRecord := { wheel 520000 .lastParts with partsLeft := some n }

theorem test_GrindFallCountsPart_hypotheses :
    let s := grinding (lastParts 1) contactCycle
    s.headsLive = true ∧ (s.headLevels .h0).grind = true ∧ (s.head .h0).cycle = some contactCycle
      ∧ (s.head .h0).record = some (lastParts 1) ∧ contactCycle.evaluationPending = false ∧ s.life.fault = false
      ∧ ({ contactCycle with evaluationPending := true } : Cycle).evaluationPending = true
      ∧ (wheel 520800 .serving).condition ∈ [Condition.serving, .wornSoon, .lastParts]
      ∧ Condition.spent ∉ [Condition.serving, .wornSoon, .lastParts]
      ∧ contactCycle.contactFlag = true ∧ contactCycle.verdictFlag = false
      ∧ (wheel 530000 .serving).condition ≠ .lastParts ∧ (lastParts 1).partsLeft = some 1 := by decide

theorem test_grind_fall_evaluates :
    let pending : Cycle := { contactCycle with evaluationPending := true }
    ((after (.grindFall .h0) (grinding (wheel 520800 .serving) pending)).head .h0).record
        = some { wheel 520800 .wornSoon with partsCount := 1 }
      ∧ ((after (.grindFall .h0) (grinding (lastParts 1) pending)).head .h0).record
        = some { lastParts 0 with partsCount := 1, condition := .spent } := by decide

theorem test_grind_fall_counts :
    ((after (.grindFall .h0) (grinding (lastParts 1) contactCycle)).head .h0).record
        = some { lastParts 0 with partsCount := 1, condition := .spent }
      ∧ ((after (.grindFall .h0) (grinding (lastParts 2) contactCycle)).head .h0).record
        = some { lastParts 1 with partsCount := 1 } := by decide

theorem test_AckEndsHolds_hypotheses :
    grinder.isLive = true ∧ grinder.isStore = false ∧ store.isStore = true
      ∧ ((withSwap (fun u => { u with state := .failed }) grinder).swap .h0).state = .failed
      ∧ (withRecord (wheel 530000 (.hold .conflict)) grinder).condition .h0 = some (.hold .conflict)
      ∧ ((withRecord (wheel 530000 (.hold .missing)) grinder).head .h0).record = some (wheel 530000 (.hold .missing))
      ∧ HoldReason.missing ≠ .conflict ∧ (withRecord (wheel 530000 .broken) grinder).condition .h0 = some .broken
      ∧ grinder.levels.ack = false ∧ (after (.ackEvent false) grinder).levels.ack = true := by decide

theorem test_ack_ends_holds :
    (after (.ackEvent false) (withRecord (wheel 530000 (.hold .missing)) grinder)).condition .h0 = some .serving
      ∧ (after (.ackEvent false) (withRecord (wheel 530000 (.hold .conflict)) grinder)).condition .h0 = none := by decide

theorem test_ContactAndLoadEdges_hypotheses :
    grinder.headsLive = true ∧ (grinder.headLevels .h0).contact = false ∧ (grinder.head .h0).cycle = none
      ∧ ((grinding (wheel 530000 .serving) contactCycle).headLevels .h0).contact = true
      ∧ ((withCycle contactCycle grinder).headLevels .h0).contact = false
      ∧ ((withCycle contactCycle grinder).head .h0).cycle = some contactCycle
      ∧ ({ contactCycle with maxTimer := some ⟨0, 1000⟩ } : Cycle).maxTimer = some ⟨0, 1000⟩
      ∧ (grinder.timeBase - (0 : Time)).toNat ≤ 1000 ∧ 999 < (grinder.timeBase - (0 : Time)).toNat := by decide

theorem test_overlong_contact :
    (after (.contactFall .h0) (grinding (wheel 530000 .serving) { contactCycle with maxTimer := some ⟨0, 1000⟩ })).condition
        .h0 = some .serving
      ∧ (after (.contactFall .h0) (grinding (wheel 530000 .serving) { contactCycle with maxTimer := some ⟨0, 999⟩ })).condition
        .h0 = some (.hold .overlong) := by decide

theorem test_contact_edges :
    ((after (.contactRise .h0) (withCycle { contactCycle with gate := none } grinder)).head .h0).cycle.bind Cycle.gate
        = some ⟨1000, 0⟩
      ∧ ((after (.contactFall .h0) (grinding (wheel 530000 .serving) contactCycle)).head .h0).cycle.bind Cycle.gate
        = none := by decide

theorem test_load_pulse_saturates :
    ((after (.loadPulse .h0) (withCycle { contactCycle with gate := some ⟨0, 0xFFFF⟩ } grinder)).head .h0).cycle.bind
        Cycle.gate = some ⟨0, 0xFFFF⟩ := by decide

/-- A cycle whose contact timeout and maximum contact timer are both due at 1000. -/
def timedCycle : Cycle := { contactCycle with timeout := .running dueTimer, maxTimer := some dueTimer }

theorem test_ContactTimersGiveVerdicts_hypotheses :
    let s := grinding (wheel 530000 .serving) timedCycle
    s.headsLive = true ∧ (s.head .h0).cycle = some timedCycle ∧ (s.head .h0).record = some (wheel 530000 .serving)
      ∧ dueTimer.length ≤ (s.timeBase - dueTimer.start).toNat ∧ timedCycle.maxTimer = some dueTimer
      ∧ timedCycle.timeout = .running dueTimer ∧ timedCycle.verdictFlag = false
      ∧ (wheel 530000 .serving).condition ∈ [Condition.serving, .wornSoon, .lastParts]
      ∧ ({ timedCycle with verdictFlag := true } : Cycle).verdictFlag = true := by decide

theorem test_contact_timers :
    (after (.maximumContactTimerExpire .h0) (grinding (wheel 530000 .serving) timedCycle)).condition .h0
        = some (.hold .overlong)
      ∧ (after (.contactTimeoutExpire .h0) (grinding (wheel 530000 .serving) timedCycle)).condition .h0
        = some (.hold .missing) := by decide

/-- The end of a gate of 10 ms begun at the settle point, with this count and so many misses before it. -/
def gateEnd (pulses : Word16) (misses : Nat) : State :=
  { grinding (wheel 530000 .serving) { contactCycle with gate := some ⟨40000, pulses⟩, misses := misses } with
    timeBase := 50000 }

theorem test_LoadGateIsChecked_hypotheses :
    let s := gateEnd 9 1
    s.headsLive = true ∧ (s.head .h0).record = some (wheel 530000 .serving)
      ∧ (s.head .h0).cycle = some { contactCycle with gate := some ⟨40000, 9⟩, misses := 1 }
      ∧ contactCycle.contact = some 0 ∧ contactCycle.verdictFlag = false
      ∧ checks.gateMs * 1000 ≤ (s.timeBase - (40000 : Time)).toNat
      ∧ checks.settleMs * 1000 ≤ ((40000 : Time) - 0).toNat ∧ ¬checks.settleMs * 1000 ≤ ((39999 : Time) - 0).toNat
      ∧ (9 : Word16).toNat < checks.loadFloor.toNat ∧ ¬(10 : Word16).toNat < checks.loadFloor.toNat
      ∧ checks.loadCeiling.toNat < (1001 : Word16).toNat ∧ ¬checks.loadCeiling.toNat < (1000 : Word16).toNat
      ∧ 1 + 1 < checks.missLimit ∧ checks.missLimit ≤ 2 + 1 := by decide

theorem test_load_gates :
    (after (.loadGateEnd .h0) (gateEnd 1001 0)).condition .h0 = some .broken
      ∧ (after (.loadGateEnd .h0) (gateEnd 1000 0)).condition .h0 = some .serving
      ∧ (after (.loadGateEnd .h0) (gateEnd 9 1)).condition .h0 = some .serving
      ∧ ((after (.loadGateEnd .h0) (gateEnd 9 2)).head .h0).reportReason = quarantineLost := by decide

/-- A broken head whose report waits for its next submission, and one with a DECLARE that does. -/
def reporting : State :=
  (withRecord (wheel 530000 .broken) grinder).mapHead .h0 fun u =>
    { u with report := .due, reportRetry := some dueTimer,
             declare := some ⟨.declare 0 7 1 530000, some dueTimer⟩ }

theorem test_HeadFramesAreRetried_hypotheses :
    reporting.headsLive = true ∧ (reporting.head .h0).record = some (wheel 530000 .broken)
      ∧ dueTimer.length ≤ (reporting.timeBase - dueTimer.start).toNat ∧ reporting.poolBarred = false
      ∧ reporting.lineFault = false ∧ reporting.holdsRequest (.headUnit .h0) = false
      ∧ reporting.fe.txQueue.length + reporting.fe.admissionsDue < 6 ∧ (reporting.head .h0).report = .due
      ∧ (reporting.head .h0).reportRetry = some dueTimer
      ∧ (reporting.head .h0).declare = some ⟨.declare 0 7 1 530000, some dueTimer⟩ :=
  ⟨rfl, rfl, by decide, by decide, rfl, by decide, by decide, rfl, rfl, rfl⟩

theorem test_head_frames_are_retried :
    (after (.breakageReportRetry .h0) reporting).fe.txQueue.map TxEntry.payload = [.pool (.quarantine 7 1 1)]
      ∧ (after (.reconciliationDeclareRetry .h0) reporting).fe.txQueue.map TxEntry.payload
        = [.pool (.declare 0 7 1 530000)] := by decide

/-! ## The swap units -/

/-- A swap unit in a state that holds wheel 8, with no frame outstanding. -/
def holding (st : SwapState) (f : SwapUnit → SwapUnit) : State :=
  withSwap (fun u => f { u with state := st, held := some 8, heldFamily := 1 }) (withRecord (wheel 520000 .spent) grinder)

/-- Wheel 1 is FREE, and wheel 8 is on its way to head 0 in this state. -/
def onItsWay (st : PoolState) (s : State) : State :=
  withTable [entry 0 1 .free none (some 0),
    entry 1 8 st (some ⟨5, .h0, st == .delivered⟩) (if st = .claimed then some 1 else none)] s

def awaiting : State :=
  onItsWay .claimed (holding .await fun u => { u with claimStamp := some 0, lifetime := some dueTimer })
def confirming : State := holding .confirming fun u => { u with window := .running dueTimer, attempts := 3 }
def delivered : State := holding .delivered id
def backedOff (r : HeadRecord) : State :=
  withSwap (fun u => { u with state := .backoff, backoff := some dueTimer }) (withRecord r grinder)

theorem test_SwapTimersAndRetries_hypotheses :
    awaiting.headsLive = true ∧ dueTimer.length ≤ (awaiting.timeBase - dueTimer.start).toNat
      ∧ (awaiting.swap .h0).outstanding = none ∧ awaiting.poolBarred = false ∧ awaiting.lineFault = false
      ∧ awaiting.fe.txQueue.length + awaiting.fe.admissionsDue < 6
      ∧ (awaiting.swap .h0).lifetime = some dueTimer ∧ (awaiting.swap .h0).state = .await
      ∧ (∃ e, findSerial awaiting.pool.table 8 = some e ∧ e.state = .claimed) ∧ (awaiting.swap .h0).held = some 8
      ∧ (awaiting.swap .h0).wants = [] ∧ (confirming.swap .h0).wants = []
      ∧ (confirming.swap .h0).outstanding = none ∧ (confirming.swap .h0).window = .running dueTimer
      ∧ (confirming.swap .h0).state = .confirming ∧ (confirming.swap .h0).held = some 8
      ∧ (delivered.swap .h0).state = .delivered ∧ (delivered.swap .h0).notNeeded = false
      ∧ ((backedOff (wheel 520000 .spent)).swap .h0).backoff = some dueTimer
      ∧ ((backedOff (wheel 520000 .spent)).swap .h0).tagDeclare = false
      ∧ needsSister ((backedOff (wheel 530000 .serving)).condition .h0) = false
      ∧ needsSister ((backedOff (wheel 520000 .spent)).condition .h0) = true
      ∧ ((backedOff (wheel 520000 .spent)).swap .h0).held = none
      ∧ (backedOff (wheel 520000 .spent)).fe.doubtful = false
      ∧ ((backedOff (wheel 520000 .spent)).head .h0).declare = none
      ∧ ((backedOff (wheel 520000 .spent)).swap .h0).retries = []
      ∧ (backedOff (wheel 520000 .spent)).claimQueued (headByte .h0) = false := by
  refine ⟨by decide, by decide, by decide, by decide, by decide, by decide, by decide, by decide, ⟨_, rfl, rfl⟩, ?_⟩
  decide

theorem test_swap_timers :
    ((after (.claimLifetimeExpire .h0) awaiting).swap .h0).outstanding = some ⟨.release 8 1, false, .await⟩
      ∧ ((after (.confirmWindowExpire .h0) confirming).swap .h0).attempts = 3
      ∧ ((after (.changePosRise .h0) delivered).swap .h0).state = .confirming
      ∧ ((after (.backoffExpire .h0) (backedOff (wheel 520000 .spent))).swap .h0).state = .claiming := by decide

/-- A unit in a state that holds this wheel, with a frame that waits for its next submission behind one that is not due. -/
def retrying (held : Serial) (st : SwapState) (f : PoolFrame) : State :=
  onItsWay .claimed (holding st fun u =>
    { u with held := some held, claimStamp := some 0, notNeeded := true
             retries := [⟨.release held releaseWindow, ⟨0, 1001⟩, .failed⟩, ⟨f, dueTimer, st⟩] })

/-- The same while another frame of the unit is outstanding. -/
def retryingBehind (st : SwapState) (f : PoolFrame) : State :=
  withSwap (fun u => { u with outstanding := some ⟨.release 8 releaseNotNeeded, true, st⟩ }) (retrying 8 st f)

theorem test_SwapFrameRetry_hypotheses :
    let s := retrying 8 .await (.release 8 releaseExpired)
    s.headsLive = true
      ∧ (s.swap .h0).retries = [⟨.release 8 releaseWindow, ⟨0, 1001⟩, .failed⟩]
          ++ [⟨.release 8 releaseExpired, dueTimer, .await⟩]
      ∧ (s.timeBase - (0 : Time)).toNat < 1001
      ∧ dueTimer.length ≤ (s.timeBase - dueTimer.start).toNat ∧ s.poolBarred = false
      ∧ s.lineFault = false ∧ s.fe.txQueue.length + s.fe.admissionsDue < 6
      ∧ (s.swap .h0).wants = [] ∧ (s.swap .h0).outstanding = none
      ∧ (s.swap .h0).held = some 8 ∧ (s.swap .h0).state = .await
      ∧ ((retrying 8 .mounting (.mount 0 8 7 520000 1)).head .h0).report = .none
      ∧ ((retryingBehind .await (.release 8 releaseExpired)).swap .h0).outstanding.isSome = true
      ∧ ((retryingBehind .await (.release 8 releaseExpired)).swap .h0).wants = []
      ∧ ((retrying 9 .await (.release 8 releaseExpired)).swap .h0).held ≠ some 8 := by decide

theorem test_swap_frame_waits_behind_another :
    ((after (.swapFrameRetry .h0) (retryingBehind .confirming (.release 8 releaseWindow))).swap .h0).wants
        = [.again (.release 8 releaseWindow) .confirming]
      ∧ (after (.swapFrameRetry .h0) (retryingBehind .confirming (.release 8 releaseWindow))).fe.txQueue = [] := by
  decide

/-- A RELEASE(EXPIRED) that waits for its next submission waits on at the DISPATCH (R152). -/
theorem test_waiting_release_stays_at_dispatch :
    let s := retrying 8 .await (.release 8 releaseExpired)
    ((heldDispatched .h0 8 s).swap .h0).retries = (s.swap .h0).retries
      ∧ ((after (.swapFrameRetry .h0) (heldDispatched .h0 8 s)).swap .h0).outstanding
        = some ⟨.release 8 releaseExpired, false, .await⟩ := by decide

/-- A window RELEASE answered *not sent* stays due beside the RELEASE of a wheel that is not needed any more (R152). -/
theorem test_two_frames_wait :
    let s := markNotNeeded .h0 (retrying 8 .confirming (.release 8 releaseWindow))
    let t := swapNotSent .h0 (.release 8 releaseNotNeeded) s
    (s.swap .h0).outstanding = some ⟨.release 8 releaseNotNeeded, false, .confirming⟩
      ∧ (t.swap .h0).retries.map SwapRetry.frame
        = [.release 8 releaseWindow, .release 8 releaseWindow, .release 8 releaseNotNeeded]
      ∧ ((after (.swapFrameRetry .h0) t).swap .h0).outstanding
        = some ⟨.release 8 releaseWindow, false, .confirming⟩ := by decide

theorem test_transit_is_adopted_with_a_stamp :
    let u := (swapAdopt .h0 (onItsWay .transit grinder)).swap .h0
    u.state = .await ∧ u.held = some 8 ∧ u.claimStamp = some 1000 ∧ u.lifetime = none := by decide

theorem test_swap_frame_is_retried :
    [after (.swapFrameRetry .h0) (retrying 8 .await (.release 8 releaseExpired)),
        after (.swapFrameRetry .h0) (retrying 8 .confirming (.release 8 releaseWindow)),
        after (.swapFrameRetry .h0) (retrying 8 .delivered (.release 8 releaseNotNeeded)),
        after (.swapFrameRetry .h0) (retrying 8 .mounting (.mount 0 8 7 520000 1)),
        after (.swapFrameRetry .h0) (retrying 8 .failed (.quarantine 3 quarantineTagMismatch 0)),
        after (.swapFrameRetry .h0) (retrying 9 .await (.release 8 releaseExpired))].map (·.fe.txQueue.length)
      = [1, 1, 1, 1, 1, 0] := by decide

def withTag (a : TagAssembly) (s : State) : State := setAssembly a s
def headTag (serial : Serial) (place : Byte) : TagRecord := ⟨3, serial, 1, 530000, place⟩

/-- An empty head whose swap unit is in this state. -/
def emptyHead (st : SwapState) : State := withSwap (fun u => { u with state := st }) grinder

theorem test_SwapTagRecordIsJudged_hypotheses :
    let s := withTag (.waiting (headTag 8 0)) confirming
    s.headsLive = true ∧ s.tag = ⟨none, none, .waiting (headTag 8 0)⟩ ∧ (headTag 8 0).kind = 3
      ∧ (headTag 8 0).place = headByte .h0 ∧ 1 < (headTag 8 2).place.toNat
      ∧ (s.swap .h0).state = .confirming ∧ (s.swap .h0).window = .running dueTimer ∧ (s.swap .h0).held = some 8
      ∧ (s.swap .h0).notNeeded = false ∧ (headTag 8 0).family = (s.swap .h0).heldFamily.setWidth 8
      ∧ ¬(headTag 9 0).serial = 8 ∧ (s.swap .h0).outstanding = none ∧ (s.swap .h0).wants = []
      ∧ s.poolBarred = false ∧ s.lineFault = false ∧ s.fe.txQueue.length + s.fe.admissionsDue < 6
      ∧ (s.head .h0).report = .none ∧ (s.head .h0).record = some (wheel 520000 .spent)
      ∧ (delivered.swap .h0).state = .delivered ∧ (awaiting.swap .h0).state = .await
      ∧ (delivered.swap .h0).window = .stopped ∧ (grinder.swap .h0).state = .idle ∧ grinder.condition .h0 = none
      ∧ (grinder.swap .h0).tagDeclare = false ∧ grinder.synced = true ∧ (grinder.swap .h0).retries = []
      ∧ ((holding .delivered fun u => { u with notNeeded := true }).swap .h0).notNeeded = true
      ∧ (confirming.condition .h0).isSome = true := by decide

theorem test_swap_tag_rows :
    [((true, 8), delivered), ((true, 9), delivered), ((true, 8), awaiting), ((true, 9), awaiting),
        ((true, 8), holding .delivered fun u => { u with notNeeded := true }),
        ((true, 9), holding .delivered fun u => { u with notNeeded := true }),
        ((true, 8), holding .confirming fun u => { u with window := .expired }),
        ((true, 8), emptyHead .idle), ((true, 8), emptyHead .backoff), ((true, 8), emptyHead .failed),
        ((false, 8), emptyHead .idle)].map
        (fun x => let t := after (.swapTagRecord x.1.1) (withTag (.waiting (headTag x.1.2 0)) x.2)
          ((t.swap .h0).state, t.counters.tagsIgnored, t.fe.txQueue.map (·.payload.kind)))
      = [(.mounting, 0, [.mount]), (.failed, 0, [.quarantine]), (.mounting, 0, [.mount]), (.await, 1, []),
        (.delivered, 1, []), (.failed, 0, [.quarantine]), (.confirming, 1, []), (.idle, 0, [.declare]),
        (.backoff, 0, [.declare]), (.failed, 1, []), (.idle, 1, [])] := by decide

theorem test_swap_tags :
    ((after (.swapTagRecord true) (withTag (.waiting (headTag 8 0)) confirming)).swap .h0).state = .mounting
      ∧ ((after (.swapTagRecord true) (withTag (.waiting (headTag 9 0)) confirming)).swap .h0).state = .failed := by decide

/-! ## The tag port -/

/-- The eleven bytes before the check of a LOAD record. -/
def loadBytes11 : List Byte := [0x7E, 1, 0, 0, 0, 20, 1, 0, 0, 0, 47]

theorem test_TagBytesMakeRecords_hypotheses :
    let s := withTag (.assembling loadBytes11 dueTimer) store
    s.isLive = true ∧ s.tag.holding = none ∧ store.tag.assembly = .idle
      ∧ s.tag.assembly = .assembling loadBytes11 dueTimer
      ∧ (loadBytes11.take 10).length < 11 ∧ dueTimer.length ≤ (s.timeBase - dueTimer.start).toNat
      ∧ (0x3B : Byte) = 1 ^^^ 0 ^^^ 0 ^^^ 0 ^^^ 20 ^^^ 1 ^^^ 0 ^^^ 0 ^^^ 0 ^^^ 47 ∧ (1 : Byte) ∈ ([1, 2, 3] : List Byte)
      ∧ (0x3A : Byte) ≠ 1 ^^^ 0 ^^^ 0 ^^^ 0 ^^^ 20 ^^^ 1 ^^^ 0 ^^^ 0 ^^^ 0 ^^^ 47 := by decide

theorem test_tag_record_is_completed :
    (after (.tagByte 0x3B false) (withTag (.assembling loadBytes11 dueTimer) store)).tag.assembly
        = .waiting ⟨1, 20, 1, 0, 47⟩
      ∧ (after .tagGapTimeout (withTag (.assembling loadBytes11 dueTimer) store)).counters.tagErrors = 1 := by decide

/-- A record waits, and this is held behind it. -/
def holdingByte (x : Option (Byte × Bool)) : State :=
  { withTag (.waiting (headTag 8 0)) grinder with tag := ⟨none, x, .waiting (headTag 8 0)⟩ }

theorem test_TagBytesMakeRecords_further_hypotheses :
    (holdingByte none).isLive = true ∧ (holdingByte none).headsLive = true
      ∧ (∀ x, (holdingByte x).tag.assembly = .waiting (headTag 8 0)) ∧ (holdingByte none).tag.holding = none
      ∧ (holdingByte (some (0x7E, false))).tag.holding = some (0x7E, false)
      ∧ (holdingByte (some (0x7E, true))).tag.holding ≠ some (0x7E, false)
      ∧ (withTag (.assembling (loadBytes11.take 10) dueTimer) store).tag.assembly
        = .assembling (loadBytes11.take 10) dueTimer
      ∧ (0x3C : Byte) = 6 ^^^ 0 ^^^ 0 ^^^ 0 ^^^ 20 ^^^ 1 ^^^ 0 ^^^ 0 ^^^ 0 ^^^ 47 ∧ (6 : Byte) ∉ ([1, 2, 3] : List Byte)
      ∧ loadBytes11 = [0x7E, 1, 0, 0, 0, 20, 1, 0, 0, 0, 47] :=
  ⟨rfl, rfl, fun _ => rfl, rfl, rfl, by decide, rfl, by decide, by decide, by decide⟩

/-- A gap in a record while the shift register holds a byte, which no command leaves there. -/
theorem test_tag_gap_leaves_shift :
    let s := withTag (.assembling loadBytes11 dueTimer) store
    (after .tagGapTimeout { s with tag := { s.tag with shift := some (1, false) } }).tag
      = ⟨some (1, false), none, .idle⟩ := by decide

theorem test_tag_holding_byte :
    (after (.tagByte 0x7E false) (holdingByte none)).tag.holding = some (0x7E, false)
      ∧ (after (.tagByte 0x01 false) (holdingByte (some (0x7E, false)))).counters.tagErrors = 1
      ∧ (after (.swapTagRecord false) (holdingByte (some (0x7E, false)))).tag.assembly
        = .assembling [0x7E] ⟨1000, 10000⟩
      ∧ (after (.tagByte 0x3C false)
          (withTag (.assembling (0x7E :: 6 :: loadBytes11.drop 2) dueTimer) store)).counters.tagsIgnored = 1 := by decide

/-! ## The store unit -/

def loadTag (place : Byte) : TagRecord := ⟨1, 20, 1, 0, place⟩
def withdrawTag : TagRecord := ⟨2, 1, 1, 0, 0⟩

theorem test_RackTagBecomesRequest_hypotheses :
    let s := withTag (.waiting (loadTag 46)) (withTable table store)
    s.storeLive = true ∧ s.tag = ⟨none, none, .waiting (loadTag 46)⟩ ∧ State.reset.synced = false
      ∧ 47 < (loadTag 48).place.toNat ∧ (3 : Byte) ∉ ([1, 2] : List Byte) ∧ s.poolBarred = false
      ∧ s.lineFault = false ∧ (loadTag 47).place.toNat ≤ 47 ∧ s.store.sendList = [] ∧ s.store.jobFrame = none
      ∧ s.store.track = none ∧ s.holdsRequest .storeUnit = false ∧ s.fe.txQueue.length + s.fe.admissionsDue < 6
      ∧ (loadTag 46).kind = 1 ∧ (loadTag 46).family.toNat ≤ 15 ∧ (∀ e ∈ s.pool.table, e.serial ≠ 20)
      ∧ (∀ e ∈ s.pool.table, e.slot ≠ some ((loadTag 46).place.setWidth 6)) ∧ s.store.reservation = none
      ∧ withdrawTag.kind = 2
      ∧ ∃ e, findSerial s.pool.table withdrawTag.serial = some e ∧ e.state = .free
          ∧ e.slot = some (withdrawTag.place.setWidth 6) :=
  ⟨rfl, rfl, rfl, by decide, by decide, by decide, rfl, by decide, rfl, rfl, rfl, by decide, by decide, rfl, by decide,
    by decide, by decide, rfl, rfl, _, rfl, rfl, rfl⟩

theorem test_rack_tags :
    (after .storeTagRecord (withTag (.waiting (loadTag 46)) (withTable table store))).fe.txQueue.map TxEntry.payload
        = [.pool (.enter 20 1 600000 46)]
      ∧ (after .storeTagRecord (withTag (.waiting withdrawTag) (withTable table store))).fe.txQueue.map TxEntry.payload
        = [.pool (.remove 1 3)] := by decide +kernel

def fetch : Job := ⟨.fetch, 2, .slot 47, some (.change 5 .h1), 900⟩
def ret : Job := ⟨.ret, 6, .change 5 .h0, none, 900⟩
def withStore (f : StoreUnit → StoreUnit) (s : State) : State := s.mapStore f
def queued (j : Job) : State := withStore (fun u => { u with queue := [j] }) (withTable table store)

theorem test_JobStartsByItsKind_hypotheses :
    (queued ret).storeLive = true ∧ (queued ret).store.job = none ∧ (queued ret).store.faultLatch = false
      ∧ (queued ret).synced = true ∧ (queued ret).lineFault = false ∧ (queued ret).store.queue = [ret]
      ∧ ret.kind = .ret
      ∧ (∃ e, findSerial (queued ret).pool.table ret.serial = some e ∧ e.state = .returning ∧ e.spent = false)
      ∧ (1 : BitVec 6).toNat < 48 ∧ slotNamed (queued ret).pool.table 1 = false
      ∧ (∀ k : BitVec 6, k.toNat < (1 : BitVec 6).toNat → slotNamed (queued ret).pool.table k = true)
      ∧ fetch.kind = .fetch ∧ fetch.dest = some (.change 5 .h1) ∧ (queued fetch).isSilent 5 = false
      ∧ (queued fetch).store.jobFrame = none ∧ (queued fetch).holdsRequest .storeUnit = false
      ∧ (queued fetch).poolBarred = false ∧ (queued fetch).fe.txQueue.length + (queued fetch).fe.admissionsDue < 6 :=
  ⟨rfl, rfl, rfl, rfl, rfl, rfl, rfl, ⟨_, rfl, rfl, rfl⟩, by decide, by decide, by decide, rfl, rfl, by decide, rfl,
    by decide, by decide, by decide⟩

theorem test_jobs_start :
    (after (.jobStart true) (queued ret)).jobTo = 1 ∧ (after (.jobStart true) (queued ret)).jobStrobe = true
      ∧ (after (.jobStart true) (queued fetch)).fe.txQueue.map TxEntry.payload = [.pool (.dispatch 2)]
      ∧ (after (.jobStart false) (queued ret)).store.job = none := by decide +kernel

/-- FETCH jobs behind each other, the first to the SILENT station 5, in a pool with no wheel to return. -/
def fetchOn : Job := ⟨.fetch, 3, .slot 4, some (.change 6 .h0), 900⟩
def silentQueue (js : List Job) : State :=
  withPeers [⟨0, 5, .grinder, 500, true, none⟩]
    (withStore (fun u => { u with queue := fetch :: js }) (withTable (table.take 5) store))

/-- A rack whose every slot is named, with the RETURN of wheel 6 in front of these jobs. -/
def fullRack (js : List Job) : State :=
  withStore (fun u => { u with queue := ret :: js }) (withTable
    ((List.range 48).map (fun n => entry n (BitVec.ofNat 32 (n + 10)) .free none (some (BitVec.ofNat 6 n)))
      ++ [entry 50 6 .returning (some ⟨5, .h0, true⟩) none]) store)

theorem test_job_starts_hypotheses :
    (∃ e, findSerial (queued ret).pool.table 7 = some e ∧ e.state = .returning ∧ e.spent = true)
      ∧ (∃ e, findSerial (queued ret).pool.table 8 = some e ∧ e.state = .quarantined)
      ∧ (silentQueue []).isSilent 5 = true ∧ (silentQueue []).isSilent 6 = false
      ∧ (∀ e ∈ (silentQueue []).pool.table, e.state ≠ .returning ∧ e.state ≠ .quarantined)
      ∧ (silentQueue [fetchOn]).store.queue = [fetch, fetchOn] ∧ fetchOn.serial ≠ fetch.serial
      ∧ (silentQueue []).storeLive = true ∧ (silentQueue []).poolBarred = false
      ∧ (silentQueue []).fe.txQueue.length + (silentQueue []).fe.admissionsDue < 5
      ∧ (silentQueue []).store.track = none ∧ (silentQueue []).store.sendList = []
      ∧ (∀ k : BitVec 6, k.toNat < 48 → slotNamed (fullRack []).pool.table k = true)
      ∧ (∃ e, findSerial (fullRack []).pool.table 6 = some e ∧ e.state = .returning ∧ e.spent = false)
      ∧ (fullRack [ret, fetchOn]).store.queue = ret :: ([ret] ++ fetchOn :: []) ∧ fetchOn.serial ≠ ret.serial
      ∧ (fullRack []).isSilent 6 = false ∧ (fullRack []).poolBarred = false :=
  ⟨⟨_, rfl, rfl, rfl⟩, ⟨_, rfl, rfl⟩, by decide, by decide, by decide, rfl, by decide, rfl, by decide, by decide, rfl, rfl,
    by decide +kernel, ⟨_, rfl, rfl, rfl⟩, rfl, by decide, by decide, by decide⟩

theorem test_job_starts :
    (after (.jobStart true) (queued { ret with serial := 7 })).jobTo = 48
      ∧ (after (.jobStart true) (queued { ret with serial := 8 })).jobTo = 49
      ∧ (after (.jobStart true) (silentQueue [])).fe.txQueue.map TxEntry.payload = [.pool (.release 2 releaseDestSilent)]
      ∧ (after (.jobStart true) (silentQueue [fetchOn])).store.job = some ⟨fetchOn, .starting⟩
      ∧ (after (.jobStart true) (silentQueue [fetchOn])).fe.txQueue.map TxEntry.payload
        = [.pool (.release 2 releaseDestSilent), .pool (.dispatch 3)]
      ∧ (after (.jobStart true) (fullRack [fetchOn])).store.job = some ⟨fetchOn, .starting⟩
      ∧ (after (.jobStart true) (fullRack [fetchOn])).store.queue = [ret]
      ∧ (after (.jobStart true) (fullRack [])).store.job = none := by decide +kernel

def running (j : Job) (p : JobPhase) : State :=
  withStore (fun u => { u with job := some ⟨j, p⟩, strobe := some dueTimer }) (withTable table store)

def racking : Job := { ret with dest := some (.slot 1) }

theorem test_GantryEdgesMoveJob_hypotheses :
    let s := running racking .moving
    s.storeLive = true ∧ s.poolBarred = false ∧ s.lineFault = false ∧ s.holdsRequest .storeUnit = false
      ∧ s.fe.txQueue.length + s.fe.admissionsDue < 6 ∧ s.store.strobe = some dueTimer
      ∧ dueTimer.length ≤ (s.timeBase - dueTimer.start).toNat ∧ s.store.job = some ⟨racking, .moving⟩
      ∧ (running racking .armed).store.job = some ⟨racking, .armed⟩
      ∧ (running fetch .moving).store.job = some ⟨fetch, .moving⟩ ∧ fetch.kind = .fetch ∧ racking.kind = .ret
      ∧ racking.dest = some (.slot 1) := by decide

/-- A job in progress at a store that is not SYNCED. -/
def runningUnsynced (p : JobPhase) : State := doubtless (running racking p)

theorem test_gantry_edges_hypotheses :
    (running { ret with dest := some .chute } .moving).store.job = some ⟨{ ret with dest := some .chute }, .moving⟩
      ∧ (running { ret with dest := some .inspection } .moving).storeLive = true
      ∧ (runningUnsynced .moving).synced = false ∧ (runningUnsynced .moving).storeLive = true
      ∧ (runningUnsynced .moving).store.job = some ⟨racking, .moving⟩
      ∧ (∀ p ∈ [JobPhase.starting, .armed, .closing], ∀ j ∈ (running racking p).store.job, j.phase ≠ .moving)
      ∧ (∀ j ∈ (running racking .closing).store.job, j.phase ≠ .armed) := by decide

theorem test_gantry_edges_by_phase :
    [Place.chute, .inspection].map (fun d => (after (.gantryDone true)
        (running { ret with dest := some d } .moving)).fe.txQueue.map TxEntry.payload)
      = [[.pool (.remove 6 removeSpentOut)], [.pool (.remove 6 removeInspected)]]
      ∧ (after (.gantryDone true) (runningUnsynced .moving)).store.heldCompletion = some .done
      ∧ (after (.gantryFault true) (runningUnsynced .moving)).store.heldCompletion = some .fault
      ∧ (after (.gantryDone true) (running racking .closing)).fe.txQueue = []
      ∧ (after (.gantryFault true) (running racking .armed)).store.job = some ⟨racking, .armed⟩
      ∧ (after (.gantryFault true) (running racking .armed)).store.faultLatch = true := by decide +kernel

theorem test_gantry_edges :
    (after (.jobStrobeEnd true) (running racking .moving)).jobStrobe = false
      ∧ (after .gantryReadyRise (running racking .armed)).store.job = some ⟨racking, .moving⟩
      ∧ (after (.gantryDone true) (running racking .moving)).fe.txQueue.map TxEntry.payload = [.pool (.rack 6 1)]
      ∧ (after (.gantryFault true) (running racking .moving)).fe.txQueue.map TxEntry.payload
        = [.pool (.quarantine 6 4 0)] := by decide +kernel

def claimOf (station : Station) : ClaimRecord := ⟨2, station, 0, false, false⟩

/-- A claim of a SILENT station 9, 10 s old, and a DELIVER that waits for its next submission. -/
def watched : State :=
  { withStore (fun u => { u with claims := [{ claimOf 8 with serial := 1 }, claimOf 9, { claimOf 9 with serial := 4 }] }) (withPeers [peer9 true .grinder] (withTable table store)) with
    timeBase := 10000000 }

def waitingDeliver : State :=
  withStore (fun u => { u with jobFrame := some ⟨.deliver 3, .waiting dueTimer⟩ }) (withTable table store)

theorem test_StoreTimersAct_hypotheses :
    watched.storeLive = true ∧ watched.poolBarred = false ∧ watched.lineFault = false
      ∧ watched.holdsRequest .storeUnit = false ∧ watched.fe.txQueue.length + watched.fe.admissionsDue < 6
      ∧ watched.store.claims
        = [{ claimOf 8 with serial := 1 }] ++ claimOf 9 :: [{ claimOf 9 with serial := 4 }] ∧ (claimOf 9).serial = 2
      ∧ (∀ d ∈ [{ claimOf 8 with serial := 1 }] ++ [{ claimOf 9 with serial := 4 }], d.serial ≠ 2) ∧ (claimOf 9).expired = false
      ∧ (claimOf 9).releasePending = false
      ∧ watched.constants.claimLifetimeS * 1000000 ≤ (watched.timeBase - (claimOf 9).stamp).toNat
      ∧ watched.store.job = none ∧ watched.store.sendList = [] ∧ watched.store.jobFrame = none
      ∧ watched.store.track = none ∧ watched.isSilent 9 = true ∧ watched.isSilent 8 = false
      ∧ waitingDeliver.store.jobFrame = some ⟨.deliver 3, .waiting dueTimer⟩
      ∧ dueTimer.length ≤ (waitingDeliver.timeBase - dueTimer.start).toNat ∧ waitingDeliver.poolBarred = false := by
  decide

/-- The track scan's frame for a wheel waits for its next submission. -/
def tracking (x : Serial) : State :=
  withStore (fun u => { u with track := some ⟨.quarantine x quarantineLostTrack 0, .waiting dueTimer⟩ })
    (withTable table store)

/-- An expired claim of the SILENT station 8, and station 9 about to be SILENT. -/
def rewatched : State :=
  { withStore (fun u => { u with claims := [{ claimOf 7 with serial := 1, expired := true },
        { claimOf 8 with expired := true }, { claimOf 9 with serial := 4 }] })
      (withPeers [⟨1, 8, .grinder, 0, true, none⟩, peer9 false .grinder] (withTable table store)) with
    timeBase := 10000000 }

theorem test_store_retests_hypotheses :
    (tracking 3).store.track = some ⟨.quarantine 3 quarantineLostTrack 0, .waiting dueTimer⟩
      ∧ dueTimer.length ≤ ((tracking 3).timeBase - dueTimer.start).toNat ∧ (tracking 3).store.job = none
      ∧ (tracking 3).store.jobFrame = none ∧ (tracking 3).store.sendList = []
      ∧ (∃ e ∈ (tracking 3).pool.table, e.serial = 3 ∧ e.state = .transit)
      ∧ (∀ e ∈ (tracking 4).pool.table, e.state = .transit → e.serial.toNat < (4 : Serial).toNat)
      ∧ (∀ e ∈ (tracking 2).pool.table,
          e.state = .transit → e.serial.toNat < (2 : Serial).toNat ∨ (3 : Serial).toNat ≤ e.serial.toNat)
      ∧ rewatched.store.claims = [{ claimOf 7 with serial := 1, expired := true }]
          ++ { claimOf 8 with expired := true } :: [{ claimOf 9 with serial := 4 }]
      ∧ rewatched.isSilent 8 = true ∧ rewatched.isSilent 7 = false ∧ (7 : Station) ≠ 9
      ∧ (∀ d ∈ [{ claimOf 7 with serial := 1, expired := true }] ++ [{ claimOf 9 with serial := 4 }], d.serial ≠ 2)
      ∧ rewatched.peers.records.find? (fun r => r.station == 9) = some (peer9 false .grinder)
      ∧ 4 * (rewatched.constants.rollIntervalMs * 1000) ≤ (rewatched.timeBase - (500 : Time)).toNat := by decide

theorem test_store_retests :
    (after .storeFrameRetry (tracking 3)).fe.txQueue.length = 1 ∧ (after .storeFrameRetry (tracking 4)).store.track = none
      ∧ (after .storeFrameRetry (tracking 2)).store.track = some ⟨.quarantine 3 quarantineLostTrack 0, .submitted⟩
      ∧ (after (.peerSilenceTimeout 9) rewatched).fe.txQueue.map TxEntry.payload = [.pool (.release 2 1)]
      ∧ (after (.peerSilenceTimeout 9) rewatched).store.claims.map ClaimRecord.releasePending = [false, true, false] := by
  decide

theorem test_store_timers :
    (after (.claimWatchExpire 2) watched).store.claims.map ClaimRecord.expired = [false, true, false]
      ∧ (after (.claimWatchExpire 2) watched).fe.txQueue.map TxEntry.payload = [.pool (.release 2 1)]
      ∧ (after .storeFrameRetry waitingDeliver).fe.txQueue.map TxEntry.payload = [.pool (.deliver 3)] := by decide

/-! ## The notices of a pool frame -/

/-- The pool engine's next item is this frame, with this own-frame mark. -/
def noticed (own : Option Origin) (f : PoolFrame) (r : Role) (s : State) : State :=
  withQueue [{ poolItem f r with own := own }] s

/-- A frame of swap unit 0 whose outcome is due. -/
def outcomeDue (f : PoolFrame) (st : SwapState) (pool : PoolState) (attempts : Nat) : State :=
  noticed (some (.swapUnit .h0)) f .grinder (onItsWay pool
    (holding st fun u => { u with outstanding := some ⟨f, true, st⟩, attempts := attempts }))

def claimDue : State :=
  noticed (some (.swapUnit .h0)) (.claim 0 1) .grinder (withTable [entry 0 1 .free none (some 0)]
    (withSwap (fun u => { u with state := .claiming, outstanding := some ⟨.claim 0 1, true, .claiming⟩ })
      (withRecord (wheel 520000 .spent) grinder)))

/-- Wheel 8 is held in AWAIT as a frame of another sender about it arrives. -/
def heldNotice (f : PoolFrame) (r : Role) (pool : PoolState) (attempts : Nat) : State :=
  noticed none f r (onItsWay pool (holding .await fun u => { u with claimStamp := some 0, attempts := attempts }))

theorem test_NoticesReachTheirUnits_hypotheses :
    (∀ own f r s, parsePool f.kind f.data = some f →
        let i : RxItem := { poolItem f r with own := own }
        (noticed own f r s).nextPoolItem i ∧ parsePool i.kind i.data = some f)
      ∧ poolCommandKind .claim = some (PoolFrame.kind (.claim 0 1))
      ∧ claimDue.isLive = true ∧ claimDue.poolBarred = false ∧ claimDue.lineFault = false
      ∧ claimDue.headsLive = true ∧ (claimDue.swap .h0).wants = [] ∧ (claimDue.swap .h0).retries = []
      ∧ (∃ tab e, applyFrame claimDue.families claimDue.pool.table 5 .grinder (.claim 0 1) = .applied tab (some e)
          ∧ e.family = claimDue.claimFamily .h0)
      ∧ applyFrame claimDue.families [] 5 .grinder (.claim 0 1) = .refused .noSister
      ∧ (∃ tab sel, applyFrame claimDue.families (onItsWay .claimed grinder).pool.table 5 .grinder (.release 8 1)
          = .applied tab sel)
      ∧ (∃ tab sel e, applyFrame claimDue.families (onItsWay .delivered grinder).pool.table 5 .grinder
          (.mount 0 8 7 520000 1) = .applied tab sel ∧ findSerial tab 8 = some e)
      ∧ (∃ tab sel, applyFrame claimDue.families (onItsWay .transit grinder).pool.table 5 .store
          (.quarantine 8 quarantineGantryFault 0) = .applied tab sel)
      ∧ (claimDue.head .h0).declare = none ∧ claimDue.claimQueued (headByte .h0) = false
      ∧ claimDue.fe.doubtful = false ∧ needsSister (claimDue.condition .h0) = true
      ∧ needsSister ((withRecord (wheel 530000 .serving) grinder).condition .h0) = false :=
  ⟨fun own f r s h => ⟨⟨[], [], rfl, by simp [poolMayTake, rollAhead]⟩, h⟩, rfl, rfl, by decide, rfl, rfl, rfl, rfl,
    ⟨_, _, rfl, rfl⟩, by decide, ⟨_, _, rfl⟩, ⟨_, _, _, rfl, rfl⟩, ⟨_, _, rfl⟩, rfl, by decide, rfl, by decide, by decide⟩

theorem test_own_outcomes :
    [after .claim claimDue, after .claim { claimDue with pool := { claimDue.pool with table := [] } },
        after .release (outcomeDue (.release 8 1) .await .claimed 1),
        after .release (outcomeDue (.release 8 1) .await .claimed 2),
        after .release (outcomeDue (.release 8 4) .confirming .delivered 3),
        after .release (outcomeDue (.release 8 5) .delivered .delivered 3),
        after .mount (outcomeDue (.mount 0 8 7 520000 1) .mounting .delivered 2),
        after .mount (outcomeDue (.mount 0 8 7 520000 1) .mounting .free 2)].map
        (fun s => ((s.swap .h0).state, (s.swap .h0).held, (s.swap .h0).attempts))
      = [(.await, some 1, 0), (.backoff, none, 0), (.claiming, none, 2), (.failed, none, 3), (.failed, none, 3),
        (.claiming, none, 3), (.idle, none, 0), (.failed, none, 2)] := by decide +kernel

theorem test_holding_notices :
    [after .dispatch (heldNotice (.dispatch 8) .store .claimed 0),
        after .deliver (heldNotice (.deliver 8) .store .transit 0),
        after .release (heldNotice (.release 8 2) .store .claimed 1),
        after .quarantine (heldNotice (.quarantine 8 quarantineGantryFault 0) .store .transit 1),
        after .quarantine (heldNotice (.quarantine 8 quarantineGantryFault 0) .store .transit 2),
        after .declare (heldNotice (.declare 1 8 1 530000) .grinder .transit 0)].map
        (fun s => ((s.swap .h0).state, (s.swap .h0).held, (s.swap .h0).attempts))
      = [(.await, some 8, 0), (.confirming, some 8, 0), (.claiming, none, 1), (.claiming, none, 2), (.failed, none, 3),
        (.claiming, none, 0)]
      ∧ ((after .mount (outcomeDue (.mount 0 8 7 520000 1) .mounting .delivered 2)).head .h0).record
        = some { wheel 530000 .serving with serial := 8 }
      ∧ ((after .rack (noticed none (.rack 6 46) .store (withTable table
          (withSwap (fun u => { u with backoffFamily := 1 }) (backedOff (wheel 520000 .spent)))))).swap .h0).state
        = .claiming := by decide +kernel

/-- A broken head whose MOUNT waits for its breakage report, and a head whose reconciliation DECLARE is due. -/
def reportDue : State :=
  noticed (some (.headUnit .h0)) (.quarantine 7 1 1) .grinder (onItsWay .delivered
    (withSwap (fun u => { u with state := .mounting, held := some 8, wants := [.mount (.mount 0 8 7 530000 0)] })
      ((withRecord (wheel 530000 .broken) grinder).mapHead .h0 fun u => { u with report := .outstanding })))

def declareDue (c : Condition) (pool : Table) : State :=
  noticed (some (.headUnit .h0)) (.declare 0 7 1 530000) .grinder (withTable pool
    ((withRecord (wheel 530000 c) grinder).mapHead .h0 fun u => { u with declare := some ⟨.declare 0 7 1 530000, none⟩ }))

theorem test_head_outcomes_hypotheses :
    reportDue.headsLive = true ∧ (reportDue.head .h0).record = some (wheel 530000 .broken)
      ∧ (reportDue.head .h0).report = .outstanding ∧ (reportDue.swap .h0).state = .mounting
      ∧ (reportDue.swap .h0).held = some 8 ∧ (8 : Serial) ≠ (wheel 530000 .broken).serial
      ∧ (reportDue.swap .h0).wants = [.mount (.mount 0 8 7 530000 0)] ∧ (reportDue.swap .h0).outstanding = none
      ∧ ((declareDue .serving []).head .h0).declare = some ⟨.declare 0 7 1 530000, none⟩
      ∧ (∃ tab sel, applyFrame grinder.families [] 5 .grinder (.declare 0 7 1 530000) = .applied tab sel)
      ∧ applyFrame grinder.families [entry 0 7 .quarantined none none] 5 .grinder (.declare 0 7 1 530000)
        = .refused .wrongState
      ∧ (wheel 530000 .serving).condition ≠ .broken ∧ (wheel 530000 .broken).condition = .broken
      ∧ ({ grinder with fe := { grinder.fe with doubtful := true } } : State).fe.doubtful = true :=
  ⟨rfl, rfl, rfl, rfl, rfl, by decide, rfl, rfl, rfl, ⟨_, _, rfl⟩, by decide, by decide, rfl, rfl⟩

theorem test_head_outcomes :
    ((after .quarantine reportDue).swap .h0).outstanding = some ⟨.mount 0 8 7 530000 0, false, .mounting⟩
      ∧ ((after .quarantine reportDue).head .h0).report = .none
      ∧ [declareDue .serving [], declareDue .serving [entry 0 7 .quarantined none none],
          declareDue .broken [entry 0 7 .quarantined none none]].map
          (fun s => ((after .declare s).condition .h0, ((after .declare s).head .h0).declare))
        = [(some .serving, none), (some (.hold .conflict), none), (some .broken, none)] := by decide +kernel

/-- A store as the outcome of its job frame is due. -/
def jobFrameDue (f : PoolFrame) (j : Job) (p : JobPhase) : State :=
  noticed (some .storeUnit) f .store
    (withStore (fun u => { u with jobFrame := some ⟨f, .submitted⟩ }) (running j p))

theorem test_store_notices_hypotheses :
    (jobFrameDue (.dispatch 2) fetch .starting).storeLive = true
      ∧ (jobFrameDue (.dispatch 2) fetch .starting).store.sendList = []
      ∧ (jobFrameDue (.dispatch 2) fetch .starting).store.rackWaiting = false
      ∧ (jobFrameDue (.dispatch 2) fetch .starting).store.job = some ⟨fetch, .starting⟩
      ∧ applyFrame store.families table 5 .store (.rack 6 47) = .refused .slotTaken
      ∧ applyFrame store.families table 5 .store (.dispatch 3) = .refused .wrongState
      ∧ applyFrame store.families table 5 .store (.release 3 releaseExpired) = .refused .wrongState
      ∧ slotNamed table 1 = false
      ∧ (∀ n : BitVec 6, n.toNat < (1 : BitVec 6).toNat → slotNamed table n = true) ∧ store.life.fault = false
      ∧ (∃ tab e e' k, findSerial table 4 = some e ∧ findSerial tab 4 = some e' ∧ e ≠ e' ∧ e'.holder = some k
          ∧ e'.state = .returning ∧ applyFrame store.families table 6 .grinder (.release 4 4) = .applied tab none) :=
  ⟨rfl, rfl, rfl, rfl, by decide, by decide, by decide, by decide, by decide, rfl,
    ⟨_, _, _, _, rfl, rfl, by decide, rfl, rfl, rfl⟩⟩

/-- A FETCH of wheel 2 in STARTING, its DISPATCH in the transmit queue, as a frame of another station arrives. -/
def startingJob (f : PoolFrame) (pool : Table) : State :=
  noticed none f .grinder (withTx [entryOf .storeUnit (.pool (.dispatch 2))] (withTable pool (withStore (fun u =>
    { u with job := some ⟨fetch, .starting⟩, jobFrame := some ⟨.dispatch 2, .submitted⟩ }) store)))

/-- The pool after a MOUNT has taken wheel 2. -/
def mountedPool : Table := table.map fun e => if e.serial = 2 then Entry.toMounted 5 .h1 e else e

theorem test_starting_job_hypotheses :
    (startingJob (.release 2 1) table).storeLive = true ∧ (startingJob (.release 2 1) table).poolBarred = false
      ∧ (startingJob (.release 2 1) table).store.job = some ⟨fetch, .starting⟩
      ∧ (startingJob (.release 2 1) table).store.jobFrame = some ⟨.dispatch fetch.serial, .submitted⟩
      ∧ (startingJob (.release 2 1) table).store.rackWaiting = false
      ∧ (startingJob (.release 2 1) table).store.sendList = [] ∧ (startingJob (.release 2 1) table).store.track = none
      ∧ (∃ e, findSerial table 2 = some e ∧ e.state = .claimed)
      ∧ (∃ tab e, applyFrame store.families table 5 .grinder (.release 2 1) = .applied tab none
          ∧ findSerial tab 2 = some e ∧ e.state ≠ .claimed)
      ∧ (∃ tab, applyFrame store.families mountedPool 5 .grinder (.quarantine 5 1 1) = .applied tab none)
      ∧ (∃ tab, applyFrame store.families table 5 .grinder (.mount 1 2 0 0 0) = .applied tab none) :=
  ⟨rfl, by decide, rfl, rfl, rfl, rfl, rfl, ⟨_, rfl, rfl⟩, ⟨_, _, rfl, rfl, by decide⟩, ⟨_, rfl⟩, ⟨_, rfl⟩⟩

/-- The RELEASE of the wheel drops the job; a MOUNT of it leaves the job, and so does a later frame for another wheel. -/
theorem test_starting_job :
    [after .release (startingJob (.release 2 1) table), after .mount (startingJob (.mount 1 2 0 0 0) table),
        after .quarantine (startingJob (.quarantine 5 1 1) mountedPool),
        after .quarantine (startingJob (.quarantine 5 1 1) table)].map
        (fun s => (s.store.job, s.fe.txQueue.map TxEntry.payload))
      = [(none, []), (some ⟨fetch, .starting⟩, [.pool (.dispatch 2)]), (some ⟨fetch, .starting⟩, [.pool (.dispatch 2)]),
        (some ⟨fetch, .starting⟩, [.pool (.dispatch 2)])] := by decide +kernel

/-- A job goes behind every job whose key is not later, also one that stands behind a job of a later key (R170). -/
theorem test_job_goes_behind_every_earlier_key :
    let job (serial : Serial) (key : Time) : Job := ⟨.ret, serial, .change 5 .h0, none, key⟩
    (insertJob 100 (job 3 98) [job 1 99, job 2 50]).map Job.serial = [1, 2, 3]
      ∧ (insertJob 100 (job 3 98) [job 2 50, job 1 99]).map Job.serial = [2, 3, 1] := by decide

theorem test_store_notices :
    (after .dispatch (jobFrameDue (.dispatch 2) fetch .starting)).store.job = some ⟨fetch, .armed⟩
      ∧ (after .dispatch (jobFrameDue (.dispatch 3) { fetch with serial := 3 } .starting)).store.job = none
      ∧ (after .rack (jobFrameDue (.rack 6 46) racking .closing)).store.job = none
      ∧ (after .rack (jobFrameDue (.rack 6 47) racking .closing)).store.reservation = some 1
      ∧ (after .claim (noticed none (.claim 0 1) .grinder (withTable table store))).store.queue.map Job.serial = [1]
      ∧ (after .claim (noticed none (.claim 0 1) .grinder (withTable table store))).life.pending = [16]
      ∧ (after .release (noticed (some .storeUnit) (.release 3 1) .store (withTable table
          (withStore (fun u => { u with claims := [{ claimOf 9 with serial := 3, releasePending := true }] })
            store)))).store.claims.map ClaimRecord.releasePending = [false]
      ∧ (after .dispatch (noticed none (.dispatch 2) .store (withTable table (withImage (fun u =>
          { u with responder := .running, restarts := 2 }) store)))).image.restarts = 3 := by decide +kernel

/-! ## The life store -/

def withLife (f : LifeStore → LifeStore) (s : State) : State := s.mapLife f

theorem test_CommitRuns_hypotheses :
    let s := withLife (fun l => { l with pending := [1, 16], map := [(1, 4)], badPages := [5] }) grinder
    let p := withLife (fun l => { l with engine := .programming 1 63 2, badPages := List.replicate 7 5 }) grinder
    s.journalRuns = true ∧ s.life.engine = .idle ∧ s.life.fault = false ∧ s.life.serves 1 ∧ s.life.takes 6
      ∧ { s.life with lastId := 16 }.serves 1 ∧ { s.life with lastId := 1 }.serves 16
      ∧ { s.life with lastWritten := 6 }.takes 7 ∧ (List.replicate 128 (0xFF : Byte)).length = 128
      ∧ s.service.waiting = none
      ∧ (working (.erasing 1 4)).life.engine = .erasing 1 4 ∧ (working .idle).life.sequence.toNat < 0xFFFFFFFE
      ∧ (∀ b ∈ List.replicate 128 (0xFF : Byte), b = 0xFF) ∧ p.life.engine = .programming 1 63 2
      ∧ (List.replicate 128 (0xFF : Byte)).take 127 = p.life.buffer.take 127
      ∧ (List.replicate 128 (0 : Byte)).take 127 ≠ p.life.buffer.take 127
      ∧ (∃ b ∈ List.replicate 128 (0 : Byte), b ≠ 0xFF) ∧ p.life.badPages.length < 8
      ∧ 8 ≤ { p.life with badPages := List.replicate 8 5 }.badPages.length
      ∧ 0xFFFFFFFE ≤ { s.life with sequence := 0xFFFFFFFE }.sequence.toNat := by
  have h : ∀ q : Nat, 4 ≤ q → q ∉ [5] → (∀ m ∈ [((1 : Nat), (4 : Nat))], m.2 ≠ q) → 6 ≤ q := by
    intro q h4 h5 hm
    have := hm (1, 4) (List.mem_singleton.2 rfl)
    simp only [List.mem_singleton] at h5
    simp only [ne_eq] at this
    omega
  refine ⟨rfl, rfl, rfl, ⟨by decide, by decide⟩, ⟨?_, ?_⟩, ⟨by decide, by decide⟩, ⟨by decide, by decide⟩,
    ⟨⟨by decide, by decide, by decide, by decide⟩, fun q _ hq => hq⟩, by decide +kernel, rfl, rfl, by decide,
    by decide +kernel, rfl, by decide +kernel, by decide +kernel, ⟨0, by decide +kernel⟩, by decide, by decide,
    by decide⟩
  · exact ⟨by decide, by decide, by decide, by decide⟩
  · exact fun q hq => ⟨hq.2.1, h q hq.1 hq.2.2.1 hq.2.2.2⟩

theorem test_bad_pages :
    let filled (n : Nat) (e : Engine) : State := withLife (fun l => { l with badPages := List.replicate n 5 }) (working e)
    [after (.pageEraseDone (List.replicate 128 0)) (filled 7 (.erasing 1 63)),
        after (.pageProgramDone (List.replicate 128 0)) (filled 7 (.programming 1 63 3)),
        after (.commitMarkDone 1) (filled 7 (.marking 1 63)),
        after (.commitMarkDone 1) (filled 8 (.marking 1 63))].map (fun s => (s.life.engine, s.life.fault))
      = [(.erasing 1 4, false), (.erasing 1 4, false), (.erasing 1 4, false), (.idle, true)] := by decide +kernel

theorem test_commit_takes_the_next_page :
    (after .commitStart (withLife (fun l => { l with pending := [1, 16] }) grinder)).life.engine = .erasing 1 4 := by
  decide +kernel

theorem test_page_is_programmed_under_the_next_sequence :
    (after (.pageEraseDone (List.replicate 128 0xFF)) (withLife (fun l =>
        { l with engine := .erasing 1 4, sequence := 8, buffer := pageImage 1 8 (recordBody (some (wheel 530000 .serving))) })
        grinder)).life.buffer.take 8
      = [1, 0, 0, 0, 9, 18] ++ be16 (crc16 ([1, 0, 0, 0, 9, 18] ++ recordBody (some (wheel 530000 .serving)))) := by
  decide +kernel

theorem test_commit_ends :
    (after (.commitMarkDone 0) (working (.marking 1 63))).life.map = [(1, 63)]
      ∧ (after (.commitMarkDone 1) (working (.marking 1 63))).life.badPages = [63]
      ∧ (after (.pageProgramDone (List.replicate 128 0xFF)) (working (.programming 1 63 2))).life.engine
        = .marking 1 63
      ∧ (after (.pageEraseDone (List.replicate 128 0xFF)) (working (.erasing 1 63))).life.engine
        = .programming 1 63 1 := by decide +kernel

/-! ## The service port -/

def commissioning : State := { State.reset with phase := .commissioning }

theorem test_ServiceWrites_hypotheses :
    1 ≤ (128 : Byte).toNat ∧ (128 : Byte).toNat ≤ 128 ∧ (List.replicate 128 (7 : Byte)).length = (128 : Byte).toNat
      ∧ commissioning.serviceBusy = false ∧ commissioning.phase = .commissioning ∧ grinder.phase = .live
      ∧ grinder.serviceBusy = false
      ∧ commissioning.life.pointer + 128 ≤ 128 ∧ commissioning.life.buffer.length = 128 ∧ (3 : Byte).toNat ≤ 3
      ∧ commissioning.service.answerLost = false ∧ commissioning.life.engine = .idle
      ∧ List.replicate 128 (0xFF : Byte) = commissioning.life.buffer
      ∧ ∃ b ∈ List.replicate 128 (0 : Byte), b ≠ 0xFF :=
  ⟨by decide, by decide, by decide +kernel, by decide, rfl, rfl, by decide, by decide, by decide +kernel, by decide,
    rfl, rfl, rfl, 0, by decide +kernel⟩

/-- A page of one byte throughout. -/
def filled (b : Byte) : List Byte := List.replicate 128 b

theorem test_service_writes_hypotheses :
    (∀ c ∈ List.replicate 3 (filled 0), c.length = 128 ∧ c ≠ commissioning.life.buffer)
      ∧ (List.replicate 60 (filled 0)).length = 60
      ∧ 128 ≤ (after (.load 128 (filled 7)) commissioning).life.pointer + 1
      ∧ (after (.load 128 (filled 7)) commissioning).life.buffer.length = 128
      ∧ (working (.dataErase 63 2)).life.engine = .dataErase 63 2 ∧ (working .idle).service.answerLost = false := by
  decide +kernel

theorem test_service_writes_end :
    (after (.commitConfig 3 (filled 0xFF :: List.replicate 3 (filled 0))) commissioning).service.answer = [2]
      ∧ (after (.commitConfig 3 (filled 0xFF :: List.replicate 2 (filled 0) ++ [filled 0xFF])) commissioning).service.answer
        = [1]
      ∧ (after (.commitConfig 3 [filled 0]) (after (.load 1 [7]) commissioning)).life.buffer = filled 0xFF
      ∧ (after (.load 3 [1, 2, 3]) (after (.load 127 (List.replicate 127 7)) commissioning)).life.buffer
        = List.replicate 127 7 ++ [3]
      ∧ (after (.pageEraseDone (filled 0)) (working (.dataErase 63 2))).service.answer = [1, 3] := by decide +kernel

theorem test_erase_counts_its_failures :
    let t := after (.eraseData (List.replicate 58 (filled 0xFF) ++ List.replicate 2 (filled 0))) commissioning
    t.service.answer = [1, 2] ∧ t.life.engine = .idle ∧ t.life.pages.read (128 * 63) = 0
      ∧ t.life.pages.read (128 * 61) = 0xFF := by decide +kernel

theorem test_writes_by_mode_hypotheses :
    State.reset.phase = .held ∧ (working (.dataErase 63 2)).serviceBusy = true
      ∧ (working (.dataErase 63 2)).phase ≠ .held ∧ grinder.phase = .live ∧ grinder.serviceBusy = false
      ∧ (∃ s : State, s.phase = .configFault ∧ s.serviceBusy = false)
      ∧ (∃ s : State, s.phase = .selfTest ∧ s.serviceBusy = false)
      ∧ commissioning.phase = .commissioning ∧ commissioning.serviceBusy = false ∧ 3 < (4 : Byte).toNat
      ∧ (0 : Byte).toNat = 0 ∧ 128 < (129 : Byte).toNat :=
  ⟨rfl, by decide, by decide, rfl, by decide, ⟨{ grinder with phase := .configFault }, rfl, by decide⟩,
    ⟨{ grinder with phase := .selfTest }, rfl, by decide⟩, rfl, by decide, by decide, rfl, by decide⟩

theorem test_writes_by_mode :
    [grinder, { grinder with phase := .configFault }, working (.dataErase 63 2)].map (fun s =>
        [Instr.load 1 [7], .clear, .commitConfig 3 [filled 0xFF], .eraseData [filled 0xFF]].map fun c =>
          (after c s).service.answer)
      = [[[statusRefused], [statusRefused], [statusRefused], [statusRefused]],
        [[statusRefused], [statusRefused], [statusRefused], [statusRefused]],
        [[statusBusy], [statusBusy], [statusBusy], [statusBusy]]]
      ∧ [Instr.load 0 [], .load 129 [], .commitConfig 4 [filled 0xFF]].map (fun c =>
          (after c commissioning).service.answer) = [[statusRefused], [statusRefused], [statusRefused]] := by decide +kernel

theorem test_service_writes :
    (after (.load 2 [1, 2]) commissioning).life.pointer = 2
      ∧ (after .clear (after (.load 2 [1, 2]) commissioning)).life.pointer = 0
      ∧ (after (.commitConfig 3 [List.replicate 128 0xFF, List.replicate 128 0xFF]) commissioning).service.answer = [1]
      ∧ (after (.eraseData [List.replicate 128 0xFF]) commissioning).life.engine = .dataErase 5 0
      ∧ (after (.load 2 [1, 2]) grinder).service.answer = [3] := by decide +kernel

theorem test_ReadsAnswerAtOnce_hypotheses :
    grinder.phase = .live ∧ grinder.serviceBusy = false ∧ grinder.commitInFlight = false
      ∧ (working (.erasing 1 4)).commitInFlight = true ∧ (working (.erasing 1 4)).serviceBusy = false
      ∧ store.isStore = true ∧ grinder.isStore = false ∧ (1 : Byte) = headByte .h1
      ∧ (63 : Nat) < (64 : Byte).toNat ∧ (63 : Byte).toNat ≤ 63 ∧ (15 : Byte).toNat ≤ 15
      ∧ (∃ s : State, s.service.waiting = some .counters ∧ s.service.answerLost = false
          ∧ s.life.engine = .marking 1 63) :=
  ⟨by decide, by decide, by decide, by decide, by decide, by decide, by decide, by decide, by decide, by decide,
    by decide, { working (.marking 1 63) with service := ⟨true, [], some .counters, false⟩ }, rfl, rfl, rfl⟩

theorem test_reads_outside_run_mode_hypotheses :
    commissioning.serviceBusy = false ∧ commissioning.commitInFlight = false ∧ commissioning.phase = .commissioning
      ∧ (63 : Byte).toNat ≤ 63 ∧ 63 < (64 : Byte).toNat ∧ commissioning.counters = Counters.zero
      ∧ (∃ s : State, s.phase = .configFault ∧ s.serviceBusy = false ∧ s.commitInFlight = false)
      ∧ ∃ s : State, s.phase ≠ .held ∧ s.serviceBusy = true :=
  ⟨rfl, rfl, rfl, by decide, by decide, rfl, ⟨{ commissioning with phase := .configFault }, rfl, rfl, rfl⟩,
    ⟨{ commissioning with life := { commissioning.life with engine := .dataErase 4 0 } }, by decide, rfl⟩⟩

theorem test_reads_outside_run_mode :
    let fault := { commissioning with phase := .configFault }
    let erasing := { commissioning with life := { commissioning.life with engine := .dataErase 4 0 } }
    (after (.readPage 63) commissioning).service.answer = 1 :: List.replicate 128 0xFF
      ∧ (after (.readPage 63) fault).service.answer.length = 129
      ∧ (after .readCounters fault).service.answer.take 41 = 1 :: List.replicate 40 0
      ∧ (after .readCounters fault).service.answer[49]? = some 0x80
      ∧ (after .readCounters commissioning).service.answer = [3] ∧ (after (.readPool 0) fault).service.answer = [3]
      ∧ (after (.readHead 0 false false) fault).service.answer = [3]
      ∧ (after (.readPage 0) erasing).service.answer = [4] := by decide +kernel

theorem test_head_read_waits_for_a_commit :
    let s := after (.readHead 0 true false) (working (.marking 1 63))
    s.service.answer = [] ∧ s.service.waiting = some (.head .h0 true false) ∧ s.spDo 0 = .byte 0xFF
      ∧ (after (.commitMarkDone 0) s).service.answer.length = 37
      ∧ (after (.commitMarkDone 0) s).spDo 0 = .byte 1
      ∧ (after (.commitMarkDone 0) (after (.loadPulse .h0) (after (.readHead 0 false false)
          (working (.marking 1 63))))).service.answer[19]? = some 0
      ∧ ((after (.commitMarkDone 0) s).headLevels .h0).load = true := by decide +kernel

theorem test_reads_answer :
    (after (.readPage 64) grinder).service.answer = [3] ∧ (after (.readPool 63) grinder).service.answer.length = 14
      ∧ (after (.readHead 0 false false) store).service.answer = [3]
      ∧ (after (.readPeer 16) grinder).service.answer = [3]
      ∧ (after (.undefinedCommand 0x55) grinder).service.answer = [3] := by decide +kernel

/-- A store with a wheel, a peer that has gone SILENT, and a job. -/
def full : State :=
  ((withPeers [{ peer9 true .grinder with pos := 3, roll := some (rollSeen 1 2) }] (withTable table carrying)).mapPeers
    fun p => { p with silentOrder := [8, 9] }).count fun c => { c with noise := 0x0102, badPages := 3 }

theorem test_AnswersFollowLayouts_hypotheses :
    full.phase = .live ∧ full.serviceBusy = false ∧ full.commitInFlight = false ∧ grinder.isStore = false
      ∧ (63 : Byte).toNat < 64 ∧ (3 : Byte).toNat < 16
      ∧ (⟨3, 9, .grinder, 500, true, some (rollSeen 1 2)⟩ : PeerRecord) ∈ full.peers.records
      ∧ full.peers.silentOrder = [8] ++ 9 :: [] ∧ (9 : Station) ∉ [(8 : Station)]
      ∧ (∃ e ∈ full.pool.table, e.pos = 1 ∧ ∀ x ∈ full.pool.table, x.pos = 1 → x = e) := by decide

theorem test_answers_by_layout :
    (after (.readPeer 3) full).service.answer
        = [1, 1, 9, 0, 1, 2, 0, 0, 1, 244, 1, 1, 0, 0, 1, 0, 2, 0, 0, 0, 0, 0]
      ∧ (after .readCounters full).service.answer.take 5 = [1, 1, 2, 0, 0]
      ∧ ((after .readCounters full).service.answer.drop 39).take 14
        = [0, 3, 0x80, 5, 1, 2, 0, 0] ++ be16 full.pool.digest ++ [0, 0, 0, 0]
      ∧ (after .readCounters full).service.answer.length = 1 + 40 + 9 + 5 + 5 + 1 + 112 + 8 + 2 + 10 := by decide +kernel

theorem test_TransactionsEndAndRefuse_hypotheses :
    grinder.phase ≠ .held ∧ grinder.serviceBusy = false ∧ State.reset.phase = .held
      ∧ ∃ s : State, s.phase ≠ .held ∧ s.serviceBusy = true :=
  ⟨by decide, by decide, rfl,
    { working (.erasing 1 4) with service := ⟨true, [], some .counters, false⟩ }, by decide, by decide⟩

theorem test_transaction_ends :
    (after .transactionEnd { grinder with service := ⟨true, [1], none, false⟩ }).service = ServicePort.afterReset := by
  decide

/-! ## What every step keeps -/

theorem test_kept_hypotheses :
    grinder.queuesBounded ∧ (withTable table grinder).digestTrue ∧ (working (.erasing 1 63)).pagesSound
      ∧ ∃ t, step grinder = .next t :=
  ⟨⟨by decide, by decide⟩, rfl, ⟨by decide, by decide⟩, _, rfl⟩

end Sys2Proof.Tests
end

namespace Sys2Proof.Machine
open State Sys2Proof.Config

/-! ## The sync character (R10) -/

theorem syncGood_iff (m : SyncMeasure) :
    syncGood m = true ↔ 112 ≤ m.span ∧ m.span ≤ 144 ∧ majority m.pos8 = false ∧ majority m.pos9 = true
      ∧ majority m.pos10 = true := by
  simp only [syncGood, Bool.and_eq_true, decide_eq_true_eq, Bool.not_eq_true']
  tauto

/-- A confirmed start edge in AWAIT_SYNC is the frame stamp (R10). -/
theorem syncStart_awaitSync {x : SyncStart} {s : State} (hrx : s.line.rx = .awaitSync)
    (hx : startConfirmed x.recessiveBefore x.start = true) :
    syncStart x s = (lineBusy s).mapLine fun l => { l with rx := .sync, syncStamp := x.stamp } := by
  simp only [syncStart, hx, hrx, if_true]

theorem syncMeasure_good {m : SyncMeasure} {s : State} (hrx : s.line.rx = .sync) (hm : syncGood m = true) :
    syncMeasure m s = frameBegun (s.mapLine fun l => { l with rx := .frame, bitTime := m.span }) :=
  (if_pos hrx).trans (if_pos hm)

theorem syncMeasure_bad {m : SyncMeasure} {s : State} (hrx : s.line.rx = .sync) (hm : ¬syncGood m = true) :
    syncMeasure m s = syncFault s :=
  (if_pos hrx).trans (if_neg hm)

theorem syncTimeout_sync {s : State} (hrx : s.line.rx = .sync) : syncTimeout s = syncFault s := if_pos hrx

/-- Settles O10: the start edge leads to SYNC with its stamp, and the measurement there to FRAME or to a SYNC_FAULT. -/
theorem syncCharacterIsJudged : Obligations.SyncCharacterIsJudged := by
  intro x m s
  refine ⟨fun hrx hx => ?_, fun hrx => ⟨_, rfl, ?_⟩⟩
  · have hframe := (cellFrame_stable s).syncCharacter (some x) (some m) s (cellFrame_refl s)
    have hstart : syncCharacter (some x) (some m) s
        = syncMeasure m ((lineBusy s).mapLine fun l => { l with rx := .sync, syncStamp := x.stamp }) :=
      congrArg (syncMeasure m) (syncStart_awaitSync hrx hx)
    refine ⟨_, rfl, hframe, ?_⟩
    rw [← syncGood_iff, hstart]
    by_cases hm : syncGood m = true
    · rw [syncMeasure_good rfl hm]
      exact ⟨rfl, rfl, rfl, fun _ => ⟨rfl, rfl, rfl, rfl, rfl⟩, fun h => absurd hm h⟩
    · rw [syncMeasure_bad rfl hm]
      exact ⟨rfl, rfl, rfl, fun h => absurd h hm, fun _ => ⟨rfl, rfl, rfl, rfl⟩⟩
  · rw [syncTimeout_sync hrx]
    exact ⟨rfl, rfl, rfl, rfl⟩

end Sys2Proof.Machine

namespace Sys2Proof.Machine
open State Sys2Proof.Config

/-! ## Characters of the frame path (R5, R11, R20 to R22, R27) -/

section
variable (g : RxFrame → RxFrame) (r : RxState) (s : State)

@[simp] theorem mapFrame_rxFrame : (mapFrame g s).fe.rxFrame = g s.fe.rxFrame := rfl
@[simp] theorem mapFrame_rxState : (mapFrame g s).fe.rxState = s.fe.rxState := rfl
@[simp] theorem mapFrame_line : (mapFrame g s).line = s.line := rfl
@[simp] theorem mapFrame_counters : (mapFrame g s).counters = s.counters := rfl
@[simp] theorem setRxState_rxFrame : (setRxState r s).fe.rxFrame = s.fe.rxFrame := rfl
@[simp] theorem setRxState_rxState : (setRxState r s).fe.rxState = r := rfl
@[simp] theorem setRxState_line : (setRxState r s).line = s.line := rfl
@[simp] theorem setRxState_counters : (setRxState r s).counters = s.counters := rfl
@[simp] theorem sleep_rxState : (sleep s).fe.rxState = .sleep := rfl
@[simp] theorem sleep_rx : (sleep s).line.rx = .ignore := rfl
@[simp] theorem sleep_unknownKind : (sleep s).counters.unknownKind = satInc s.counters.unknownKind := rfl

end

/-- What the frame engine leaves of the station as it takes a character of a busy line. -/
structure KeptByReception (s t : State) : Prop where
  pool : t.pool = s.pool
  peers : t.peers = s.peers
  txQueue : t.fe.txQueue = s.fe.txQueue
  rxQueue : t.fe.rxQueue = s.fe.rxQueue
  noise : t.counters.noise = s.counters.noise
  busy : s.line.free = false → t.line.free = false

section
variable {s t u : State}

theorem KeptByReception.refl (s : State) : KeptByReception s s := ⟨rfl, rfl, rfl, rfl, rfl, id⟩

theorem KeptByReception.trans (h : KeptByReception s t) (h' : KeptByReception t u) : KeptByReception s u :=
  ⟨h'.pool.trans h.pool, h'.peers.trans h.peers, h'.txQueue.trans h.txQueue, h'.rxQueue.trans h.rxQueue,
    h'.noise.trans h.noise, h'.busy ∘ h.busy⟩

theorem mapFrame_kept (g : RxFrame → RxFrame) (s : State) : KeptByReception s (mapFrame g s) :=
  ⟨rfl, rfl, rfl, rfl, rfl, id⟩

theorem setRxState_kept (r : RxState) (s : State) : KeptByReception s (setRxState r s) :=
  ⟨rfl, rfl, rfl, rfl, rfl, id⟩

theorem sleep_kept (s : State) : KeptByReception s (sleep s) := ⟨rfl, rfl, rfl, rfl, rfl, id⟩

theorem abandonToWatch_kept (s : State) : KeptByReception s (abandonToWatch s) := by
  unfold abandonToWatch
  split
  exacts [⟨rfl, rfl, rfl, rfl, rfl, id⟩, .refl s]

theorem countIf_kept (b : Bool) (f : Counters → Counters) (hf : ∀ k, (f k).noise = k.noise) (s : State) :
    KeptByReception s (if b then s.count f else s) := by
  cases b
  exacts [.refl s, ⟨rfl, rfl, rfl, rfl, hf _, id⟩]

/-- The check point touches the veto's own registers, the slot's and the transmitter (R23). -/
theorem checkPoint_kept (s : State) : KeptByReception s (checkPoint s) := by
  have hcount := ((countIf_kept s.fe.rxFrame.bad (fun c => { c with checkErrors := satInc c.checkErrors })
    (fun _ => rfl) s).trans (countIf_kept
      (!s.fe.deaf && (s.fe.rxFrame.bad || decide (rxCapacity ≤ s.fe.rxQueue.length)))
      (fun c => { c with vetoesSent := satInc c.vetoesSent }) (fun _ => rfl) _))
  unfold checkPoint; dsimp only
  split
  all_goals exact hcount.trans ⟨rfl, rfl, rfl, rfl, rfl, fun _ => rfl⟩

/-- The veto decision (R23). -/
def FrameEngine.vetoes (f : FrameEngine) : Bool := !f.deaf && (f.rxFrame.bad || decide (rxCapacity ≤ f.rxQueue.length))

theorem checkPoint_fe (s : State) :
    (checkPoint s).fe = { s.fe with
      rxState := .slot s.fe.rxFrame.bad s.fe.vetoes
      vetoRun := if s.fe.vetoes then s.fe.vetoRun + 1 else s.fe.vetoRun } := by
  unfold checkPoint FrameEngine.vetoes; dsimp only
  generalize s.fe.rxFrame.bad = bad
  generalize (!s.fe.deaf && (bad || decide (rxCapacity ≤ s.fe.rxQueue.length))) = veto
  split
  all_goals cases bad <;> cases veto <;> rfl

theorem dataCharacter_kept (c : Character) (s : State) : KeptByReception s (dataCharacter c s) := by
  unfold dataCharacter; dsimp only
  split
  · exact (mapFrame_kept _ s).trans (setRxState_kept _ _)
  · exact mapFrame_kept _ s

theorem checkCharacter_kept (c : Character) (s : State) : KeptByReception s (checkCharacter c s) := by
  unfold checkCharacter; dsimp only
  split
  · exact (mapFrame_kept _ s).trans (checkPoint_kept _)
  · exact mapFrame_kept _ s

theorem headerCharacter_kept (c : Character) (s : State) : KeptByReception s (headerCharacter c s) := by
  unfold headerCharacter; dsimp only
  split
  · exact sleep_kept s
  · split
    · split
      exacts [mapFrame_kept _ s, sleep_kept s]
    · exact mapFrame_kept _ s
    · split
      exacts [(mapFrame_kept _ s).trans (setRxState_kept _ _), sleep_kept s]

end

/-! ### The cases of the receive state (R20) -/

section
variable {c : Character} {s : State}

/-- A character's noise is noted with the frame under reception (R5). -/
def noteNoise (c : Character) (s : State) : State := mapFrame (fun f => { f with noisy := f.noisy || c.noise }) s

theorem takeCharacter_framing (hc : c.framing = true) : takeCharacter c s = abandonToWatch s := if_pos hc

theorem takeCharacter_header (hc : c.framing = false) (hs : s.fe.rxState = .header) :
    takeCharacter c s = headerCharacter c (noteNoise c s) := by
  simp [takeCharacter, hc, hs, RxState.receiving, noteNoise, mapFrame]

theorem takeCharacter_body (hc : c.framing = false) (hs : s.fe.rxState = .body) :
    takeCharacter c s = dataCharacter c (noteNoise c s) := by
  simp [takeCharacter, hc, hs, RxState.receiving, noteNoise, mapFrame]

theorem takeCharacter_check (hc : c.framing = false) (hs : s.fe.rxState = .check) :
    takeCharacter c s = checkCharacter c (noteNoise c s) := by
  simp [takeCharacter, hc, hs, RxState.receiving, noteNoise, mapFrame]

theorem takeCharacter_other (hc : c.framing = false) (hs : s.fe.rxState.receiving = false) :
    takeCharacter c s = s := by
  cases hr : s.fe.rxState <;> simp [takeCharacter, hc, hr, RxState.receiving] at hs ⊢

theorem takeCharacter_kept (c : Character) (s : State) : KeptByReception s (takeCharacter c s) := by
  have hnote : KeptByReception s (noteNoise c s) := mapFrame_kept _ s
  cases hc : c.framing with
  | true => rw [takeCharacter_framing hc]; exact abandonToWatch_kept s
  | false =>
    cases hr : s.fe.rxState with
    | header => rw [takeCharacter_header hc hr]; exact hnote.trans (headerCharacter_kept c _)
    | body => rw [takeCharacter_body hc hr]; exact hnote.trans (dataCharacter_kept c _)
    | check => rw [takeCharacter_check hc hr]; exact hnote.trans (checkCharacter_kept c _)
    | none | slot | sleep | watch => rw [takeCharacter_other hc (by rw [hr]; rfl)]; exact .refl s

/-! ### Header characters (R21) -/

theorem headerCharacter_mark0 (hm : c.mark = false) : headerCharacter c s = sleep s := by
  simp [headerCharacter, hm]

theorem headerCharacter_kind (hm : c.mark = true) (h0 : s.fe.rxFrame.h0 = none) :
    headerCharacter c s = if (kindOfH0 c.data).isSome then
      mapFrame (fun f => { f.feed c.data with h0 := some c.data }) s else sleep s := by
  simp [headerCharacter, hm, h0]

theorem headerCharacter_sender {a : Byte} (hm : c.mark = true)
    (h0 : s.fe.rxFrame.h0 = some a) (h1 : s.fe.rxFrame.h1 = none) :
    headerCharacter c s = mapFrame (fun f => { f.feed c.data with h1 := some c.data }) s := by
  simp [headerCharacter, hm, h0, h1]

/-- The lengths of every kind are at most 48 (R17), so the kind alone decides on a length. -/
theorem allowedLength_le {k : Kind} {l : Nat} (h : allowedLength k l = true) : l ≤ 48 := by
  cases k <;> simp [allowedLength] at h <;> omega

theorem headerCharacter_length {a b : Byte} (hm : c.mark = true)
    (h0 : s.fe.rxFrame.h0 = some a) (h1 : s.fe.rxFrame.h1 = some b) :
    headerCharacter c s = if (kindOfH0 a).any (fun k => allowedLength k c.data.toNat) then
      setRxState (if c.data = 0 then .check else .body) (mapFrame (fun f => { f.feed c.data with h2 := some c.data }) s)
      else sleep s := by
  have hle : (kindOfH0 a).any (fun k => allowedLength k c.data.toNat) = true → c.data.toNat ≤ 48 := fun h => by
    obtain ⟨k, -, hk⟩ := (Option.any_eq_true _ _).1 h
    exact allowedLength_le hk
  by_cases h : (kindOfH0 a).any (fun k => allowedLength k c.data.toNat) = true
  · simp [headerCharacter, hm, h0, h1, h, hle h]
  · simp [headerCharacter, hm, h0, h1, h]

/-! ### Data and check characters (R22) -/

/-- A data character is taken into the running check and added to the data. -/
def RxFrame.takeData (c : Character) (f : RxFrame) : RxFrame :=
  { f.feed c.data with data := f.data ++ [c.data], badMark := f.badMark || c.mark }

/-- The data that H2 announces ends with the next character (R22). -/
def RxFrame.lastData (f : RxFrame) : Prop := f.data.length + 1 = (f.h2.map BitVec.toNat).getD 0

/-- The test that `dataCharacter` makes behind the character. -/
theorem takeData_complete (f : RxFrame) :
    (f.takeData c).data.length = ((f.takeData c).h2.map BitVec.toNat).getD 0 ↔ f.lastData := by
  simp [RxFrame.takeData, RxFrame.feed, RxFrame.lastData]

theorem dataCharacter_last (h : s.fe.rxFrame.lastData) :
    dataCharacter c s = setRxState .check (mapFrame (·.takeData c) s) :=
  if_pos ((takeData_complete s.fe.rxFrame).2 h)

theorem dataCharacter_more (h : ¬s.fe.rxFrame.lastData) : dataCharacter c s = mapFrame (·.takeData c) s :=
  if_neg (mt (takeData_complete s.fe.rxFrame).1 h)

theorem checkCharacter_first (hs : s.fe.rxFrame.check = []) : checkCharacter c s
    = mapFrame (fun f => { f with check := f.check ++ [c.data], badMark := f.badMark || c.mark }) s := by
  simp [checkCharacter, hs]

end

/-! ### The command (R11) -/

section
variable {c : CharSamples} {ch : Character} {s : State}

/-- In FRAME a character makes the line busy, its noise is counted, and the frame engine takes it. -/
theorem framePathCharacter_frame (hrx : s.line.rx = .frame) (hc : decideCharacter c = some ch) :
    framePathCharacter c s = takeCharacter ch (countNoise ch (lineBusy s)) := by
  simp only [framePathCharacter, hc, hrx, if_true]

theorem countNoise_eq (c : Character) (s : State) :
    countNoise c s = s.count fun k => { k with noise := if c.noise then satInc k.noise else k.noise } := by
  unfold countNoise
  cases c.noise <;> rfl

end

/-- Settles O11: the receive state decides which of the frame engine's operations takes the character. -/
theorem frameCharactersAreTaken : Obligations.FrameCharactersAreTaken := by
  intro c ch s hrx hc
  have hframe := (cellFrame_stable s).framePathCharacter c s (cellFrame_refl s)
  have hexec : exec (.framePathCharacter c) s = .next (framePathCharacter c s) := rfl
  rw [framePathCharacter_frame hrx hc] at hframe hexec
  rw [countNoise_eq] at hframe hexec
  -- The state that the frame engine finds: the line is busy and the noise counted.
  obtain ⟨u, hu⟩ : ∃ u, u = (lineBusy s).count fun k =>
    { k with noise := if ch.noise then satInc k.noise else k.noise } := ⟨_, rfl⟩
  rw [← hu] at hframe hexec
  have hkept := takeCharacter_kept ch u
  have hline : u.line = s.line.busy := by rw [hu]; rfl
  have hfe : u.fe = s.fe := by rw [hu]; rfl
  have hrate : u.straps = s.straps := by rw [hu]; rfl
  have hunknown : u.counters.unknownKind = s.counters.unknownKind := by rw [hu]; rfl
  have hrxu : u.line.rx = .frame := by rw [hline]; exact hrx
  have hbit : u.line.bitTime = s.line.bitTime := by rw [hline]; rfl
  refine ⟨_, hexec, hkept.busy (by rw [hline]; rfl), hframe, hkept.pool.trans (by rw [hu]; rfl),
    hkept.peers.trans (by rw [hu]; rfl), hkept.txQueue.trans (by rw [hfe]), hkept.rxQueue.trans (by rw [hfe]),
    hkept.noise.trans (by rw [hu]; rfl), ?_⟩
  clear hkept hframe hexec
  rw [← hfe, ← hbit, ← hrate, ← hunknown]
  clear hu hfe hbit hrate hunknown hline
  refine ⟨fun hf hr => ?_, fun hf hr h0 => ?_, fun hf hr hl => ?_, fun a hf hr h0 => ?_, fun hf hr hk => ?_⟩
  · rw [takeCharacter_framing hf, abandonToWatch, if_pos hr]
    exact ⟨rfl, rfl, rfl⟩
  · rw [takeCharacter_header hf hr]
    have h0' : (noteNoise ch u).fe.rxFrame.h0 = none := h0
    refine ⟨fun hm hk => ?_, fun h => ?_⟩
    · rw [headerCharacter_kind hm h0', if_pos hk]
      simp [hr, hrxu, noteNoise, RxFrame.feed]
    · have hsleep : headerCharacter ch (noteNoise ch u) = sleep (noteNoise ch u) := by
        cases hm : ch.mark with
        | false => exact headerCharacter_mark0 hm
        | true => rw [headerCharacter_kind hm h0', if_neg (by simpa [hm] using h)]
      rw [hsleep]
      simp [noteNoise]
  · rw [takeCharacter_body hf hr]
    by_cases hlast : u.fe.rxFrame.data.length + 1 = (u.fe.rxFrame.h2.map BitVec.toNat).getD 0
    · rw [dataCharacter_last (by exact hlast), if_pos hlast]
      simp [hrxu, noteNoise, RxFrame.takeData, RxFrame.feed]
    · rw [dataCharacter_more (by exact hlast), if_neg hlast]
      simp [hr, hrxu, noteNoise, RxFrame.takeData, RxFrame.feed]
  · rw [takeCharacter_header hf hr]
    have h0' : (noteNoise ch u).fe.rxFrame.h0 = some a := h0
    refine ⟨fun hm => ?_, fun hm h1 => ?_, fun b hm h1 => ?_⟩
    · rw [headerCharacter_mark0 hm]
      simp [noteNoise]
    · rw [headerCharacter_sender hm h0' h1]
      simp [hr, hrxu, h0, noteNoise, RxFrame.feed]
    · rw [headerCharacter_length hm h0' h1, ← Option.any_eq_true]
      refine ⟨fun ha => ?_, fun ha => ?_⟩
      · rw [if_pos ha]
        simp [hrxu, h0, h1, noteNoise, RxFrame.feed]
      · rw [if_neg ha]
        simp [noteNoise]
  · rw [takeCharacter_check hf hr, checkCharacter_first (by exact hk)]
    simp [hr, hrxu, hk, noteNoise]

end Sys2Proof.Machine

namespace Sys2Proof.Machine
open State Sys2Proof.Config

/-! ## The end of a transmission (R13, R14, R29, R30, R47) -/

/-! ### The transmit queue -/

section
variable {s : State} {e : TxEntry}

@[simp] theorem leaveLine_line (s : State) : (leaveLine s).line = s.line := rfl
@[simp] theorem leaveLine_transmitter (s : State) : (leaveLine s).transmitter = s.transmitter := rfl
@[simp] theorem leaveLine_counters (s : State) : (leaveLine s).counters = s.counters := rfl
@[simp] theorem leaveLine_pool (s : State) : (leaveLine s).pool = s.pool := rfl

/-- Where no frame is withdrawn, every frame stays at its place (R30). -/
theorem leaveLine_txQueue (h : ∀ e ∈ s.fe.txQueue, e.withdrawn = false) :
    (leaveLine s).fe.txQueue = s.fe.txQueue.map fun e => { e with onLine := false } := by
  have hall : (s.fe.txQueue.filter fun e => !(e.onLine && e.withdrawn)) = s.fe.txQueue :=
    List.filter_eq_self.2 fun e he => by simp [h e he]
  exact congrArg (List.map _) hall

theorem changeFirst_append {α : Type} {p : α → Bool} (f : α → α) {l r : List α} {a : α}
    (hl : ∀ x ∈ l, p x = false) (ha : p a = true) : changeFirst p f (l ++ a :: r) = l ++ f a :: r := by
  induction l with
  | nil => simp [changeFirst, ha]
  | cons x xs ih =>
    have hx : p x = false := hl x (by simp)
    simp [changeFirst, hx, ih fun y hy => hl y (by simp [hy])]

/-- The first element that satisfies `p`, with what stands ahead of it and behind it. -/
theorem find?_split {α : Type} {p : α → Bool} {l : List α} {a : α} (h : l.find? p = some a) :
    p a = true ∧ ∃ ahead behind, l = ahead ++ a :: behind ∧ ∀ x ∈ ahead, p x = false := by
  obtain ⟨ha, ahead, behind, hl, hn⟩ := List.find?_eq_some_iff_append.1 h
  exact ⟨ha, ahead, behind, hl, fun x hx => by simpa using hn x hx⟩

/-- An attempt before the fourth: the frame on the line keeps its place with the attempt counted (R30). -/
theorem attemptMade_counts (he : s.lineEntry = some e) (hw : e.withdrawn = false) (ha : e.attempts < 3) :
    attemptMade s = s.mapFe fun f => { f with
      txQueue := changeFirst (·.onLine) (fun x => { x with attempts := x.attempts + 1, onLine := false }) f.txQueue } := by
  have hn : ¬4 ≤ e.attempts + 1 := by omega
  simp [attemptMade, countAttempt, he, hw, hn, deliverNotSent]

theorem attemptMade_place (he : s.lineEntry = some e) (hw : e.withdrawn = false) (ha : e.attempts < 3) :
    ∃ l r, s.fe.txQueue = l ++ e :: r ∧ (∀ x ∈ l, x.onLine = false)
      ∧ (attemptMade s).fe.txQueue = l ++ { e with attempts := e.attempts + 1, onLine := false } :: r := by
  obtain ⟨hp, l, r, hq, hl⟩ := find?_split he
  refine ⟨l, r, hq, hl, ?_⟩
  rw [attemptMade_counts he hw ha, mapFe_fe, hq]
  exact changeFirst_append _ hl hp

/-- The fourth attempt: the frame leaves, TX_FAIL rises, and its originator is told *not sent* (R30). -/
theorem attemptMade_fails (he : s.lineEntry = some e) (hw : e.withdrawn = false) (ha : 3 ≤ e.attempts) :
    attemptMade s = deliverNotSent (some (e.origin, e.payload))
      ((removeFrames (·.onLine) s).count fun c => { c with txFail := satInc c.txFail }) := by
  have hn : 4 ≤ e.attempts + 1 := by omega
  simp [attemptMade, countAttempt, he, hw, hn]

/-- The frame on the line is withdrawn: its outcome is not reported (R33). -/
theorem attemptMade_withdrawn (he : s.lineEntry = some e) (hw : e.withdrawn = true) : attemptMade s = leaveLine s := by
  simp [attemptMade, countAttempt, he, hw, deliverNotSent]

theorem attemptMade_none (he : s.lineEntry = none) : attemptMade s = s := by
  simp [attemptMade, countAttempt, he, deliverNotSent]

end

/-! ### *Not sent* told to the originators -/

/-- What an attempt leaves of the station: its originator changes its own unit, and the frame engine its queue. -/
structure KeptByAttempt (s t : State) : Prop where
  cell : cellFrame s t
  line : t.line = s.line
  transmitter : t.transmitter = s.transmitter
  stop : t.stop = s.stop
  pool : t.pool = s.pool
  fe : t.fe = { s.fe with
    txQueue := t.fe.txQueue, held := t.fe.held, admissionsDue := t.fe.admissionsDue, heldOutcome := t.fe.heldOutcome }

/-- An originator that is told *not sent* leaves the counters too. -/
structure KeptByOutcome (s t : State) : Prop extends KeptByAttempt s t where
  counters : t.counters = s.counters

theorem KeptByAttempt.refl (s : State) : KeptByAttempt s s := ⟨cellFrame_refl s, rfl, rfl, rfl, rfl, rfl⟩

theorem KeptByOutcome.refl (s : State) : KeptByOutcome s s := ⟨.refl s, rfl⟩

theorem swapFrame.outcome {h : Head} {s t : State} (x : swapFrame h s t) : KeptByOutcome s t := by
  obtain ⟨⟨⟨⟨hcell, -, -, -, hpool, -, hfe⟩, -⟩, hcounters, -⟩, -, hstop, htx, hline⟩ := x
  exact ⟨⟨hcell, hline, htx, hstop, hpool, by rw [hfe]⟩, hcounters⟩

theorem depotFrame.outcome {s t : State} (x : depotFrame s t) : KeptByOutcome s t := by
  obtain ⟨⟨⟨hcell, -, -, -, hpool, -, hfe⟩, -, -, hstop, htx, hline, -⟩, hcounters, -⟩ := x
  exact ⟨⟨hcell, hline, htx, hstop, hpool, by rw [hfe]⟩, hcounters⟩

theorem headNotSent_kept (h : Head) (f : PoolFrame) (s : State) : KeptByOutcome s (headNotSent h f s) := by
  unfold headNotSent; dsimp only
  split
  · split
    exacts [⟨⟨cellFrame_refl s, rfl, rfl, rfl, rfl, rfl⟩, rfl⟩, .refl s]
  · split
    exacts [⟨⟨cellFrame_refl s, rfl, rfl, rfl, rfl, rfl⟩, rfl⟩, .refl s]
  · exact .refl s

theorem imageNotSent_kept (p : Payload) (s : State) : KeptByOutcome s (imageNotSent p s) := by
  cases p with
  | imagePart | imageAsk => exact ⟨⟨cellFrame_refl s, rfl, rfl, rfl, rfl, rfl⟩, rfl⟩
  | roll | pool => exact .refl s

theorem deliverNotSent_kept (r : Option (Origin × Payload)) (s : State) : KeptByOutcome s (deliverNotSent r s) := by
  unfold deliverNotSent
  split
  · split
    exacts [.refl s, ⟨⟨cellFrame_refl s, rfl, rfl, rfl, rfl, rfl⟩, rfl⟩]
  · exact imageNotSent_kept _ s
  · exact ((swapFrame_stable _ s).swapNotSent _ s (swapFrame_refl _ s)).outcome
  · exact headNotSent_kept _ _ s
  · exact ((depotFrame_stable s).storeNotSent _ s (depotFrame_refl s)).outcome
  all_goals exact .refl s

theorem leaveLine_kept (s : State) : KeptByAttempt s (leaveLine s) := ⟨cellFrame_refl s, rfl, rfl, rfl, rfl, rfl⟩

theorem attemptMade_kept (s : State) : KeptByAttempt s (attemptMade s) := by
  have hcell := (cellFrame_stable s).attemptMade s (cellFrame_refl s)
  cases he : s.lineEntry with
  | none => rw [attemptMade_none he]; exact .refl s
  | some e =>
    cases hw : e.withdrawn with
    | true => rw [attemptMade_withdrawn he hw]; exact leaveLine_kept s
    | false =>
      by_cases ha : e.attempts < 3
      · rw [attemptMade_counts he hw ha]
        exact ⟨cellFrame_refl s, rfl, rfl, rfl, rfl, rfl⟩
      · rw [attemptMade_fails he hw (Nat.le_of_not_lt ha)] at hcell ⊢
        obtain ⟨⟨-, hline, htx, hstop, hpool, hfe⟩, -⟩ := deliverNotSent_kept (some (e.origin, e.payload))
          ((removeFrames (·.onLine) s).count fun c => { c with txFail := satInc c.txFail })
        exact ⟨hcell, hline, htx, hstop, hpool, by rw [hfe]; rfl⟩

/-- The outcome held for a run is decided (R26, R47). -/
theorem resolveHeld_held {s : State} {longBreak : Bool} (h : s.fe.heldOutcome.isSome = true) :
    resolveHeld longBreak s
      = if longBreak then leaveLine (s.mapFe fun f => { f with heldOutcome := none })
        else attemptMade (s.mapFe fun f => { f with heldOutcome := none }) := by
  obtain ⟨o, ho⟩ := Option.isSome_iff_exists.1 h
  simp only [resolveHeld, ho]

theorem resolveHeld_none {s : State} {longBreak : Bool} (h : s.fe.heldOutcome = none) : resolveHeld longBreak s = s := by
  simp only [resolveHeld, h]

theorem resolveHeld_kept (longBreak : Bool) (s : State) : KeptByAttempt s (resolveHeld longBreak s) := by
  have hcell := (cellFrame_stable s).resolveHeld longBreak s (cellFrame_refl s)
  cases h : s.fe.heldOutcome with
  | none => rw [resolveHeld_none h]; exact .refl s
  | some o =>
    rw [resolveHeld_held (by rw [h]; rfl)] at hcell ⊢
    split at hcell
    next hl => rw [if_pos hl]; exact ⟨hcell, rfl, rfl, rfl, rfl, rfl⟩
    next hl =>
      rw [if_neg hl]
      obtain ⟨-, hline, htx, hstop, hpool, hfe⟩ := attemptMade_kept (s.mapFe fun f => { f with heldOutcome := none })
      exact ⟨hcell, hline, htx, hstop, hpool, by rw [hfe]; rfl⟩

/-- An attempt before the fourth at an outcome that was held (R47). -/
theorem resolveHeld_counted {s : State} {e : TxEntry} (h : s.fe.heldOutcome.isSome = true) (he : s.lineEntry = some e)
    (hw : e.withdrawn = false) (ha : e.attempts < 3) :
    (resolveHeld false s).peers = s.peers ∧ attemptCounted e s (resolveHeld false s) := by
  have hstep : resolveHeld false s = attemptMade (s.mapFe fun f => { f with heldOutcome := none }) := resolveHeld_held h
  have hplace := attemptMade_place (s := s.mapFe fun f => { f with heldOutcome := none }) he hw ha
  have hcounts := attemptMade_counts (s := s.mapFe fun f => { f with heldOutcome := none }) he hw ha
  rw [hstep]
  refine ⟨by rw [hcounts]; rfl, by rw [hcounts]; rfl, hplace⟩

/-- The peer table starts its roll timer, but in LINE_FAULT (R49). -/
theorem deliverNotSent_peerTable (p : Payload) (s : State) :
    deliverNotSent (some (.peerTable, p)) s = if s.lineFault then s else startRollTimer s := rfl

/-- A swap unit in CLAIMING whose CLAIM is not sent enters BACKOFF (R154). -/
theorem swapNotSent_claiming {h : Head} {head family : Byte} {st : SwapState} {s : State}
    (ho : (s.swap h).outstanding = some ⟨.claim head family, false, st⟩) (hs : (s.swap h).state = .claiming)
    (hw : (s.swap h).wants = []) :
    (swapNotSent h (.claim head family) s).swap h = { s.swap h with
      outstanding := none, state := .backoff, backoffEnded := false
      backoff := some ⟨s.timeBase, 10 * (s.constants.rollIntervalMs * 1000)⟩
      backoffFamily := family.setWidth 4 } := by
  have hf : (s.swap h).outstanding.filter (fun o => decide (o.frame = .claim head family))
      = some ⟨.claim head family, false, st⟩ := by simp [ho]
  simp only [swapNotSent, hf, hs, if_true]
  generalize hb : enterBackoff h (family.setWidth 4) (s.mapSwap h fun x => { x with outstanding := none }) = b
  have hbs : b.swap h = { s.swap h with
      outstanding := none, state := .backoff, backoffEnded := false
      backoff := some ⟨s.timeBase, 10 * (s.constants.rollIntervalMs * 1000)⟩
      backoffFamily := family.setWidth 4 } := by
    rw [← hb]; simp only [enterBackoff, mapSwap_swap_self]; rfl
  have hpump : swapPump h b = b := swapPump_nil (by rw [hbs]; exact hw)
  have hclaim : b.mayClaim h = false := by simp [State.mayClaim, hbs]
  rw [swapFrameEnded, hpump, claimTest, if_neg (by simp [hclaim]), hbs]

/-- The breakage report is DUE again a roll interval later (R148). -/
theorem headNotSent_report {h : Head} {record : HeadRecord} {reason keep : Byte} {s : State}
    (hr : (s.head h).record = some record) (ho : (s.head h).report = .outstanding) :
    (headNotSent h (.quarantine record.serial reason keep) s).head h = { s.head h with
      report := .due, reportRetry := some ⟨s.timeBase, s.constants.rollIntervalMs * 1000⟩ } := by
  have hc : (s.head h).report = .outstanding ∧ ((s.head h).record.any fun r => r.serial == record.serial) = true :=
    ⟨ho, by simp [hr]⟩
  simp only [headNotSent, hc, and_self, if_true, mapHead_head_self]
  rfl

/-- The store unit with no frame due and an empty send list submits nothing (R168). -/
theorem storePump_nothing {s : State} (hj : s.store.jobFrame.filter StoreFrame.isDue = none)
    (ht : s.store.track.filter StoreFrame.isDue = none) (hl : s.store.sendList = []) : storePump s = s := by
  have hone : storeSubmitOne s = s := by simp [storeSubmitOne, hj, ht, hl]
  have hall : ∀ n, storePumpFrom n s = s := by
    intro n
    induction n with
    | zero => rfl
    | succ n ih => rw [storePumpFrom, hone, ih, ite_self]
  exact hall 18

/-- The store's job frame waits a roll interval for its next submission (R168). -/
theorem storeNotSent_job {f : PoolFrame} {s : State} (hj : s.store.jobFrame = some ⟨f, .submitted⟩)
    (ht : s.store.track = none) (hl : s.store.sendList = []) :
    (storeNotSent f s).store = { s.store with
      jobFrame := some ⟨f, .waiting ⟨s.timeBase, s.constants.rollIntervalMs * 1000⟩⟩ } := by
  have ha : s.store.awaitsJob f = true := by simp [StoreUnit.awaitsJob, hj]
  simp only [storeNotSent, ha, if_true]
  rw [storePump_nothing (by rfl) (by simp [ht]) (by simp [hl])]
  rfl

/-! ### The commands -/

section
variable {chars : List WireChar} {breaking : Bool} {s : State}

theorem readbackMismatch_frame (htx : s.transmitter = .frame chars breaking) (hl : s.line.loopInternal = false)
    (part : FramePart) (sentRecessive : Bool) :
    readbackMismatch (.frame part) sentRecessive s = frameMismatch part sentRecessive s := by
  simp [readbackMismatch, hl, htx]

theorem frameMismatch_recessive {part : FramePart} (hv : part ≠ .vetoSlot) (ha : part ≠ .arbitrationData) (s : State) :
    frameMismatch part true s
      = { s with transmitter := .idle }.mapFe fun f => { f with heldOutcome := some .bitError } := by
  cases part with
  | vetoSlot => exact absurd rfl hv
  | arbitrationData => exact absurd rfl ha
  | breakPart | delimiter | sync | arbitrationFraming | body => rfl

theorem frameMismatch_dominant {part : FramePart} (hv : part ≠ .vetoSlot) (s : State) :
    frameMismatch part false s = attemptMade { s with transmitter := .idle } := by
  cases part with
  | vetoSlot => exact absurd rfl hv
  | breakPart | delimiter | sync | arbitrationData | arbitrationFraming | body => rfl

/-- The fourth attempt at a dominant bit read recessive: TX_FAIL, and what the originator makes of *not sent*. -/
theorem fourthAttempt_told {e : TxEntry} {s : State} (he : s.lineEntry = some e) (hw : e.withdrawn = false)
    (ha : 3 ≤ e.attempts) :
    (attemptMade s).transmitter = s.transmitter
      ∧ (attemptMade s).counters = { s.counters with txFail := satInc s.counters.txFail }
      ∧ (attemptMade s).pool = s.pool ∧ (attemptMade s).fe.rxQueue = s.fe.rxQueue := by
  rw [attemptMade_fails he hw ha]
  have hkept := deliverNotSent_kept (some (e.origin, e.payload))
    ((removeFrames (·.onLine) s).count fun c => { c with txFail := satInc c.txFail })
  exact ⟨hkept.transmitter, hkept.counters, hkept.pool, by rw [hkept.fe]; rfl⟩

end

/-- Settles O16: the end of a transmission by its cause, and by the attempt of the frame on the line. -/
theorem mismatchKeepsOrCountsAttempt : Obligations.MismatchKeepsOrCountsAttempt := by
  refine ⟨fun chars breaking s htx hnw => ⟨fun hb => ?_, fun hloop => ?_⟩,
    fun part chars breaking e s htx hloop he hw hpart => ⟨fun hdata => ?_, fun ha => ?_, fun ha => ?_⟩⟩
  · have hstep : transmitOvertaken s = leaveLine { s with transmitter := .idle } := by
      simp [transmitOvertaken, htx, hb]
    have hframe := (cellFrame_stable s).transmitOvertaken s (cellFrame_refl s)
    rw [hstep] at hframe
    exact ⟨_, congrArg Host.Outcome.next hstep, rfl, leaveLine_txQueue (s := { s with transmitter := .idle }) hnw, rfl,
      hframe, rfl, rfl⟩
  · have hstep : readbackMismatch (.frame .arbitrationData) true s = arbitrationLost s :=
      readbackMismatch_frame htx hloop _ _
    exact ⟨_, congrArg Host.Outcome.next hstep, rfl, leaveLine_txQueue (s := ({ s with transmitter := .idle } : State).count _)
      hnw, rfl, (cellFrame_stable s).arbitrationLost s (cellFrame_refl s), rfl, rfl⟩
  · have hstep := (readbackMismatch_frame htx hloop part true).trans (frameMismatch_recessive hpart hdata s)
    exact ⟨_, congrArg Host.Outcome.next hstep, rfl, rfl, rfl, rfl⟩
  · have hstep := (readbackMismatch_frame htx hloop part false).trans (frameMismatch_dominant hpart s)
    refine ⟨_, congrArg Host.Outcome.next hstep, ?_⟩
    have hplace := attemptMade_place (s := { s with transmitter := .idle }) he hw ha
    have hcounts := attemptMade_counts (s := { s with transmitter := .idle }) he hw ha
    refine ⟨by rw [hcounts]; rfl, hplace, ?_⟩
    rw [hcounts]
    exact ⟨rfl, rfl, rfl, rfl⟩
  · have hstep := (readbackMismatch_frame htx hloop part false).trans (frameMismatch_dominant hpart s)
    refine ⟨_, congrArg Host.Outcome.next hstep, ?_⟩
    obtain ⟨htold, hcounters, hpool, hrx⟩ := fourthAttempt_told (s := { s with transmitter := .idle }) he hw ha
    refine ⟨htold, hcounters, hpool, hrx, fun ho => ?_, fun h head family st ho hp hout hst hwants => ?_,
      fun h record reason ho hr hrep hp => ?_, fun f ho hp hj ht hl => ?_⟩
    all_goals rw [attemptMade_fails (s := { s with transmitter := .idle }) he hw ha, ho]
    · rw [deliverNotSent_peerTable]
      refine ⟨?_, fun hlf => ?_⟩
      · split <;> rfl
      · rw [if_neg (by exact Bool.eq_false_iff.1 hlf)]
        rfl
    · rw [hp]; exact swapNotSent_claiming hout hst hwants
    · rw [hp]; exact headNotSent_report (reason := reason) (keep := 1) hr hrep
    · rw [hp]; exact storeNotSent_job hj ht hl

end Sys2Proof.Machine

namespace Sys2Proof.Machine
open State Sys2Proof.Config

/-! ## The looped test frame (R10, R11, R14, R15) -/

/-- The registers that the looped test frame may change. -/
def keepsLoop (s t : State) : Prop :=
  t = { s with
    fe := { s.fe with rxState := t.fe.rxState, rxFrame := t.fe.rxFrame }
    line := { s.line with loop := t.line.loop, syncStamp := t.line.syncStamp, bitTime := t.line.bitTime } }

/-- The looped test frame has failed. -/
def loopHasFailed (t : State) : Prop := t.line.loop = .failed ∧ t.line.bitTime = 128 ∧ t.fe.rxState = .none

section
variable {s : State} {stage : LoopStage}

theorem loopsAt_iff : s.loopsAt stage = true ↔ s.line.rx = .loopback ∧ s.line.loop = stage := by
  simp [State.loopsAt]

theorem loopFailed_keeps (s : State) : keepsLoop s (loopFailed s) ∧ loopHasFailed (loopFailed s) :=
  ⟨rfl, rfl, rfl, rfl⟩

theorem syncStart_loop {x : SyncStart} (hs : s.loopsAt .awaitSync = true)
    (hx : startConfirmed x.recessiveBefore x.start = true) :
    syncStart x s = s.mapLine fun l => { l with loop := .sync, syncStamp := x.stamp } := by
  have hrx : s.line.rx ≠ .awaitSync := by rw [(loopsAt_iff.1 hs).1]; decide
  rw [syncStart, if_pos hx, if_neg hrx, if_pos hs]

theorem syncMeasure_loop {m : SyncMeasure} (hs : s.loopsAt .sync = true) :
    syncMeasure m s = if syncGood m then frameBegun (s.mapLine fun l => { l with loop := .frame, bitTime := m.span })
      else loopFailed s := by
  have hrx : s.line.rx ≠ .sync := by rw [(loopsAt_iff.1 hs).1]; decide
  rw [syncMeasure, if_neg hrx, if_pos hs]

theorem syncTimeout_loop (hs : s.loopsAt .sync = true) : syncTimeout s = loopFailed s := by
  have hrx : s.line.rx ≠ .sync := by rw [(loopsAt_iff.1 hs).1]; decide
  rw [syncTimeout, if_neg hrx, if_pos hs]

theorem framePathCharacter_loop {c : CharSamples} {ch : Character} (hs : s.loopsAt .frame = true)
    (hc : decideCharacter c = some ch) : framePathCharacter c s = loopCharacter ch s := by
  have hrx : s.line.rx ≠ .frame := by rw [(loopsAt_iff.1 hs).1]; decide
  simp only [framePathCharacter, hc, hrx, hs, if_false, if_true]

end

/-! ### What the frame engine reads -/

section
variable {s u : State} (c : Character)

theorem mapFrame_congr (g : RxFrame → RxFrame) (hfe : s.fe = u.fe) : (mapFrame g s).fe = (mapFrame g u).fe :=
  congrArg (fun f : FrameEngine => { f with rxFrame := g f.rxFrame }) hfe

theorem setRxState_congr (r : RxState) (hfe : s.fe = u.fe) : (setRxState r s).fe = (setRxState r u).fe :=
  congrArg (fun f : FrameEngine => { f with rxState := r }) hfe

theorem sleep_congr (hfe : s.fe = u.fe) : (sleep s).fe = (sleep u).fe :=
  congrArg (fun f : FrameEngine => { f with rxState := .sleep, rxFrame := RxFrame.empty }) hfe

theorem checkPoint_congr (hfe : s.fe = u.fe) : (checkPoint s).fe = (checkPoint u).fe := by
  rw [checkPoint_fe, checkPoint_fe, hfe]

theorem headerCharacter_congr (hfe : s.fe = u.fe) : (headerCharacter c s).fe = (headerCharacter c u).fe := by
  cases hm : c.mark with
  | false => rw [headerCharacter_mark0 hm, headerCharacter_mark0 hm, sleep_congr hfe]
  | true =>
    cases h0 : u.fe.rxFrame.h0 with
    | none =>
      rw [headerCharacter_kind hm (hfe ▸ h0), headerCharacter_kind hm h0]
      split
      exacts [mapFrame_congr _ hfe, sleep_congr hfe]
    | some a =>
      cases h1 : u.fe.rxFrame.h1 with
      | none =>
        rw [headerCharacter_sender hm (hfe ▸ h0) (hfe ▸ h1), headerCharacter_sender hm h0 h1, mapFrame_congr _ hfe]
      | some b =>
        rw [headerCharacter_length hm (hfe ▸ h0) (hfe ▸ h1), headerCharacter_length hm h0 h1]
        split
        exacts [setRxState_congr _ (mapFrame_congr _ hfe), sleep_congr hfe]

theorem dataCharacter_congr (hfe : s.fe = u.fe) : (dataCharacter c s).fe = (dataCharacter c u).fe := by
  by_cases h : u.fe.rxFrame.lastData
  · rw [dataCharacter_last (hfe ▸ h), dataCharacter_last h, setRxState_congr _ (mapFrame_congr _ hfe)]
  · rw [dataCharacter_more (hfe ▸ h), dataCharacter_more h, mapFrame_congr _ hfe]

theorem checkCharacter_congr (hfe : s.fe = u.fe) : (checkCharacter c s).fe = (checkCharacter c u).fe := by
  have hmap := mapFrame_congr (fun f => { f with check := f.check ++ [c.data], badMark := f.badMark || c.mark }) hfe
  unfold checkCharacter; dsimp only
  rw [hmap]
  split
  exacts [checkPoint_congr hmap, hmap]

theorem abandonToWatch_congr (hfe : s.fe = u.fe) (hst : s.straps = u.straps) (hbit : s.line.bitTime = u.line.bitTime) :
    (abandonToWatch s).fe = (abandonToWatch u).fe := by
  unfold abandonToWatch; dsimp only
  rw [hfe, hst, hbit]
  split
  · exact congrArg (fun f : FrameEngine => { f with
      rxState := .watch, rxFrame := RxFrame.empty
      watch := some ⟨f.rxFrame.stamp, expectedLength u.straps.rate u.line.bitTime
        ((u.fe.rxFrame.h2.map BitVec.toNat).getD 0)⟩ }) hfe
  · exact hfe

/-- Reception reads the frame engine alone, and for the watch of an abandoned frame the rate and the measured bit-time. -/
theorem takeCharacter_congr (hfe : s.fe = u.fe) (hst : s.straps = u.straps)
    (hbit : s.line.bitTime = u.line.bitTime) : (takeCharacter c s).fe = (takeCharacter c u).fe := by
  have hnote : (noteNoise c s).fe = (noteNoise c u).fe := mapFrame_congr _ hfe
  cases hc : c.framing with
  | true => rw [takeCharacter_framing hc, takeCharacter_framing hc, abandonToWatch_congr hfe hst hbit]
  | false =>
    cases hr : u.fe.rxState with
    | header =>
      rw [takeCharacter_header hc (hfe ▸ hr), takeCharacter_header hc hr, headerCharacter_congr c hnote]
    | body => rw [takeCharacter_body hc (hfe ▸ hr), takeCharacter_body hc hr, dataCharacter_congr c hnote]
    | check => rw [takeCharacter_check hc (hfe ▸ hr), takeCharacter_check hc hr, checkCharacter_congr c hnote]
    | none | slot | sleep | watch =>
      rw [takeCharacter_other hc (by rw [hfe, hr]; rfl), takeCharacter_other hc (by rw [hr]; rfl), hfe]

end

/-! ### Characters of the looped frame -/

section
variable {s : State} {c : Character}

theorem loopCharacter_keeps (c : Character) (s : State) : keepsLoop s (loopCharacter c s) := by
  unfold loopCharacter; dsimp only
  split
  all_goals exact rfl

theorem loopCharacter_receiving (h : (takeCharacter c s).fe.rxState.receiving = true) :
    loopCharacter c s = s.mapFe fun x =>
      { x with rxState := (takeCharacter c s).fe.rxState, rxFrame := (takeCharacter c s).fe.rxFrame } := by
  unfold loopCharacter; dsimp only
  split <;> simp_all [RxState.receiving]

theorem loopCharacter_lost (h : (takeCharacter c s).fe.rxState = .sleep ∨ (takeCharacter c s).fe.rxState = .watch) :
    loopCharacter c s = loopFailed s := by
  unfold loopCharacter; dsimp only
  split <;> simp_all

theorem loopCharacter_slot {bad veto : Bool} (h : (takeCharacter c s).fe.rxState = .slot bad veto) :
    loopCharacter c s = (clearFrame s).mapLine fun l =>
      { l with loop := .checked (takeCharacter c s).fe.rxFrame.checkFits, bitTime := 128 } := by
  unfold loopCharacter; dsimp only
  split <;> simp_all

/-- The second check character ends the frame (R22); the check that it completes fits when the two characters are the
running check (R18). -/
theorem checkCharacter_second {a : Byte} (hs : s.fe.rxFrame.check = [a]) :
    ∃ bad veto, (checkCharacter c s).fe.rxState = .slot bad veto
      ∧ ((checkCharacter c s).fe.rxFrame.checkFits = true ↔ s.fe.rxFrame.crc = a ++ c.data) := by
  have hlast : checkCharacter c s = checkPoint
      (mapFrame (fun f => { f with check := f.check ++ [c.data], badMark := f.badMark || c.mark }) s) := by
    simp [checkCharacter, hs]
  rw [hlast, checkPoint_fe]
  refine ⟨_, _, rfl, ?_⟩
  simp [RxFrame.checkFits, hs, of16]

end

/-! ### The end of the self-test (R15, R196) -/

section
variable {s : State} {levels : InputLevels}

theorem loopbackPasses_iff (bitTimes : Nat) (s : State) :
    loopbackPasses bitTimes s = true ↔ s.line.rx = .loopback ∧ s.line.loop = .checked true
      ∧ (∃ chars breaking, s.transmitter = .frame chars breaking) ∧ bitTimes ≤ 700 := by
  have hsends : s.sendsTest = true ↔ ∃ chars breaking, s.transmitter = .frame chars breaking := by
    unfold State.sendsTest
    cases s.transmitter <;> simp
  simp only [loopbackPasses, Bool.and_eq_true, loopsAt_iff, hsends, decide_eq_true_eq, and_assoc]

/-- A ROLL is submitted into an empty queue (R31, R32). -/
theorem submitRoll_empty (hlf : s.lineFault = false) (hq : s.fe.txQueue = []) (ha : s.fe.admissionsDue = 0) :
    (submitRoll s).fe.txQueue = [⟨.peerTable, .roll, 0, false, false⟩] := by
  have hroom : s.txRoom = true := by simp [State.txRoom, hq, ha, txCapacity]
  have hbar : s.refusedAtOnce .roll = false := by simp [State.refusedAtOnce, hlf, Payload.isPool]
  simp [submitRoll, submit, hbar, hroom, queueFrame, hq, insertBy]

/-- A submission changes the frame engine alone. -/
theorem submitRoll_rest (s : State) : submitRoll s = s.mapFe fun _ => (submitRoll s).fe := by
  unfold submitRoll submit
  split
  · rfl
  · split <;> rfl

/-- Going live takes the input levels (R198), and leaves the line, the queues and the image unit. -/
theorem goLive_rest (levels : InputLevels) (s : State) : goLive levels s = { s with
    phase := .live, levels := (goLive levels s).levels, heads := (goLive levels s).heads } := rfl

theorem lineStart_rest (s : State) : lineStart s = { s with
    transmitter := .idle
    line := { s.line with rx := .settling, loopInternal := false, loop := .awaitSync, bitTime := 128 }
    image := { s.image with askTimer := some ⟨s.timeBase, 2 * (s.constants.rollIntervalMs * 1000)⟩ }
    fe := (lineStart s).fe } :=
  submitRoll_rest _

theorem lineStart_txQueue (hlf : s.lineFault = false) (hq : s.fe.txQueue = []) (ha : s.fe.admissionsDue = 0) :
    (lineStart s).fe.txQueue = [⟨.peerTable, .roll, 0, false, false⟩] := by
  unfold lineStart
  exact submitRoll_empty (by exact hlf) (by exact hq) (by exact ha)

theorem enterLineFault_rest (s : State) : (enterLineFault s).line.rx = .faultListen
    ∧ (enterLineFault s).line.loopInternal = false ∧ (enterLineFault s).transmitter = .idle
    ∧ (enterLineFault s).lineFault = true ∧ (enterLineFault s).fe.txQueue = [] ∧ (enterLineFault s).fe.held = [] :=
  ⟨rfl, rfl, rfl, rfl, rfl, rfl⟩

/-- A mismatch on the loop ends the test frame, outside its veto slot (R15). -/
theorem readbackMismatch_loop {part : FramePart} {chars : List WireChar} {breaking : Bool}
    (hloop : s.line.loopInternal = true) (htx : s.transmitter = .frame chars breaking) (hv : part ≠ .vetoSlot)
    (sentRecessive : Bool) : readbackMismatch (.frame part) sentRecessive s = { s with transmitter := .idle } := by
  unfold readbackMismatch
  rw [if_pos hloop]
  cases part with
  | vetoSlot => exact absurd rfl hv
  | breakPart | delimiter | sync | arbitrationData | arbitrationFraming | body => simp only [loopMismatch, htx]

end

/-- Settles O6: the looped frame goes the way of a frame of the line, and its last stage decides the self-test. -/
theorem loopbackSelfTestDecides : Obligations.LoopbackSelfTestDecides := by
  refine ⟨fun x m s hrx => ⟨fun hloop hx => ?_, fun hloop => ?_⟩, fun c ch s hrx hloop hc => ?_,
    fun part sentRecessive chars breaking s hloop htx hpart => ?_, fun bitTimes levels s hphase => ?_⟩
  · have hstep := (congrArg (syncMeasure m) (syncStart_loop (loopsAt_iff.2 ⟨hrx, hloop⟩) hx)).trans
      (syncMeasure_loop (loopsAt_iff.2 ⟨by exact hrx, rfl⟩))
    refine ⟨_, congrArg Host.Outcome.next hstep, ?_⟩
    rw [← syncGood_iff]
    by_cases hm : syncGood m = true
    · rw [if_pos hm]
      exact ⟨rfl, fun _ => ⟨rfl, rfl, rfl, rfl⟩, fun h => absurd hm h⟩
    · rw [if_neg hm]
      exact ⟨rfl, fun h => absurd h hm, fun _ => (loopFailed_keeps _).2⟩
  · exact ⟨_, congrArg Host.Outcome.next (syncTimeout_loop (loopsAt_iff.2 ⟨hrx, hloop⟩)), loopFailed_keeps s⟩
  · have hstep := framePathCharacter_loop (loopsAt_iff.2 ⟨hrx, hloop⟩) hc
    -- The frame engine takes the looped character as it takes the same one in FRAME.
    have hsame := takeCharacter_congr ch
      (s := countNoise ch (lineBusy { s with line := { s.line with rx := .frame } })) (u := s)
      (by rw [countNoise_eq]; rfl) (by rw [countNoise_eq]; rfl) (by rw [countNoise_eq]; rfl)
    rw [← framePathCharacter_frame rfl hc] at hsame
    refine ⟨_, _, rfl, congrArg Host.Outcome.next hstep, loopCharacter_keeps ch s, ?_⟩
    rw [hsame]
    refine ⟨fun h => ?_, fun h => ?_, fun a hf hr hk => ?_⟩
    · rw [loopCharacter_receiving (by rcases h with h | h | h <;> rw [h] <;> rfl)]
      exact ⟨hloop, rfl, rfl, rfl⟩
    · rw [loopCharacter_lost h]
      exact (loopFailed_keeps s).2
    · obtain ⟨bad, veto, hslot, hfits⟩ := checkCharacter_second (c := ch) (s := noteNoise ch s) hk
      rw [← takeCharacter_check hf hr] at hslot hfits
      rw [loopCharacter_slot hslot]
      exact ⟨_, rfl, hfits, rfl⟩
  · exact congrArg Host.Outcome.next (readbackMismatch_loop hloop htx hpart sentRecessive)
  · have hstep : loopbackSelfTestEnd bitTimes levels s
        = goLive levels (if loopbackPasses bitTimes s then lineStart s else enterLineFault s) := if_pos hphase
    refine ⟨_, congrArg Host.Outcome.next hstep, ?_⟩
    rw [← loopbackPasses_iff, goLive_rest]
    by_cases hp : loopbackPasses bitTimes s = true
    · rw [if_pos hp, lineStart_rest]
      exact ⟨rfl, rfl, rfl, fun _ => ⟨rfl, rfl, rfl, lineStart_txQueue⟩, fun h => absurd hp h⟩
    · rw [if_neg hp]
      exact ⟨rfl, rfl, rfl, fun h => absurd h hp, fun _ => ⟨rfl, rfl, rfl, rfl⟩⟩

end Sys2Proof.Machine

namespace Sys2Proof.Machine
open State Sys2Proof.Config

/-! ## The stop call unit in a station that sends no frame (R39 to R43) -/

/-- No frame of this station is being sent. -/
def State.sendsNoFrame (s : State) : Prop := ∀ chars breaking, s.transmitter ≠ .frame chars breaking

/-- What the stop call unit leaves of a station that sends no frame: the transmitter takes up a call, and only the call
makes the line busy (R12, R41). -/
structure KeptByStopUnit (s t : State) : Prop where
  rest : t = { s with stop := t.stop, transmitter := t.transmitter, line := t.line }
  line : (t.line = s.line ∧ t.transmitter = s.transmitter) ∨ (t.line = s.line.busy ∧ t.transmitter = s.ownCall)

section
variable {s t : State}

theorem KeptByStopUnit.refl (s : State) : KeptByStopUnit s s := ⟨rfl, .inl ⟨rfl, rfl⟩⟩

theorem KeptByStopUnit.of_mapStop {f : StopUnit → StopUnit} (h : KeptByStopUnit (s.mapStop f) t) :
    KeptByStopUnit s t :=
  ⟨h.rest, h.line⟩

theorem KeptByStopUnit.of_mapStop_self (f : StopUnit → StopUnit) (s : State) : KeptByStopUnit s (s.mapStop f) :=
  ⟨rfl, .inl ⟨rfl, rfl⟩⟩

theorem KeptByStopUnit.sendsNoFrame (h : KeptByStopUnit s t) (hs : s.sendsNoFrame) : t.sendsNoFrame := by
  rcases h.line with ⟨-, htx⟩ | ⟨-, htx⟩
  · exact fun chars breaking => htx ▸ hs chars breaking
  · exact fun chars breaking => htx ▸ nofun

theorem stopSend_kept (hs : s.sendsNoFrame) : KeptByStopUnit s (stopSend s) := by
  unfold stopSend
  cases s.stop.requests with
  | nil => exact .refl s
  | cons q rs =>
    cases htx : s.transmitter with
    | frame chars breaking => exact absurd htx (hs chars breaking)
    | idle | stopCall => exact ⟨rfl, .inr ⟨rfl, rfl⟩⟩

theorem removeStopRequest_kept (hs : s.sendsNoFrame) : KeptByStopUnit s (removeStopRequest s) :=
  (stopSend_kept (s := s.mapStop _) hs).of_mapStop

theorem satisfyRequest_kept (hs : s.sendsNoFrame) : KeptByStopUnit s (satisfyRequest s) := by
  unfold satisfyRequest
  split
  exacts [removeStopRequest_kept hs, .refl s]

theorem resendRequest_kept (hs : s.sendsNoFrame) : KeptByStopUnit s (resendRequest s) := by
  unfold resendRequest
  split
  · dsimp only
    split
    · exact (removeStopRequest_kept (s := s.mapStop _) hs).of_mapStop
    · exact (stopSend_kept (s := s.mapStop _) hs).of_mapStop
  · exact .refl s

theorem matcherFailed_kept (hs : s.sendsNoFrame) : KeptByStopUnit s (matcherFailed s) :=
  (resendRequest_kept (s := setMatcher .idle s) hs).of_mapStop

theorem matcherComplete_kept (stamp : Time) (sender : Option Station) (hs : s.sendsNoFrame) :
    KeptByStopUnit s (matcherComplete stamp sender s) :=
  (satisfyRequest_kept (s := s.mapStop _) hs).of_mapStop

theorem matcherInterrupted_kept (hs : s.sendsNoFrame) : KeptByStopUnit s (matcherInterrupted s) := by
  unfold matcherInterrupted
  cases s.stop.matcher with
  | idle => exact .refl s
  | sync | code => exact matcherFailed_kept hs
  | sender stamp | complement stamp => exact matcherComplete_kept stamp none hs

theorem matcherLineFree_kept (hs : s.sendsNoFrame) : KeptByStopUnit s (matcherLineFree s) := by
  unfold matcherLineFree
  cases s.stop.matcher with
  | idle => exact resendRequest_kept hs
  | sync => exact matcherFailed_kept hs
  | code stamp taken matched missed =>
    dsimp only
    split
    exacts [matcherComplete_kept stamp none hs, matcherFailed_kept hs]
  | sender stamp | complement stamp => exact matcherComplete_kept stamp none hs

/-- With no request awaiting resolution no call is sent. -/
theorem matcherLineFree_line (ha : s.awaitingResolution = false) : (matcherLineFree s).line = s.line := by
  have hfail : (matcherFailed s).line = s.line := by
    rw [matcherFailed, resendRequest_idle (by exact ha)]
    rfl
  have hcomplete : ∀ stamp, (matcherComplete stamp none s).line = s.line := fun stamp => by
    have hw : (s.mapStop fun u => { u with matcher := .idle, event := some ⟨stamp, none⟩ }).awaitingResolution = false :=
      ha
    rw [matcherComplete, satisfyRequest, hw]
    rfl
  unfold matcherLineFree
  cases s.stop.matcher with
  | idle => rw [resendRequest_idle ha]
  | sync => exact hfail
  | code stamp taken matched missed =>
    dsimp only
    split
    exacts [hcomplete stamp, hfail]
  | sender stamp | complement stamp => exact hcomplete stamp

end

/-! ## Line free (R12, R20, R27, R28) -/

/-- The transmitter behind a line free event: a frame is over, a stop call goes on. -/
def Transmitter.behindFrame : Transmitter → Transmitter
  | .frame _ _ | .idle => .idle
  | .stopCall chars late => .stopCall chars late

section
variable {s : State}

/-- The transmit side at line free leaves what an attempt leaves, but for the end of the frame. -/
theorem endSending_kept (s : State) :
    KeptByAttempt { s with transmitter := s.transmitter.behindFrame } (endSending s) := by
  unfold endSending
  cases htx : s.transmitter with
  | frame chars breaking => exact leaveLine_kept _
  | stopCall chars late => exact ⟨cellFrame_refl s, rfl, htx, rfl, rfl, rfl⟩
  | idle =>
    have hs : { s with transmitter := .idle } = s := by rw [← htx]
    show KeptByAttempt { s with transmitter := .idle } _
    rw [hs]
    dsimp only
    split
    exacts [resolveHeld_kept false s, leaveLine_kept s]

/-- A transmission that no outcome has reached is over, with its frame in place (R30). -/
theorem endSending_stays (ho : s.fe.heldOutcome = none) (hc : ∀ chars late, s.transmitter ≠ .stopCall chars late) :
    (endSending s).fe.txQueue = (leaveLine s).fe.txQueue := by
  unfold endSending
  cases htx : s.transmitter with
  | frame => rfl
  | idle => simp only [ho, Option.isSome_none, Bool.false_eq_true, if_false]
  | stopCall chars late => exact absurd htx (hc chars late)

theorem endSending_peers (ho : s.fe.heldOutcome = none) : (endSending s).peers = s.peers := by
  unfold endSending
  cases s.transmitter with
  | frame | stopCall => rfl
  | idle => simp only [ho, Option.isSome_none, Bool.false_eq_true, if_false]; rfl

theorem endSending_held (htx : s.transmitter = .idle) (ho : s.fe.heldOutcome.isSome = true) :
    endSending s = resolveHeld false s := by
  simp only [endSending, htx, ho, if_true]

/-- The receive side at line free (R27, R28). -/
theorem frameGap_fe (s : State) : (frameGap s).fe = { s.fe with
    rxState := if s.fe.rxState.receiving || s.fe.rxState == .watch then .none else s.fe.rxState
    rxFrame := if s.fe.rxState.receiving || s.fe.rxState == .watch then RxFrame.empty else s.fe.rxFrame
    watch := none } := by
  unfold frameGap; dsimp only
  split <;> rfl

theorem frameGap_rest (s : State) : frameGap s = s.mapFe fun _ => (frameGap s).fe := by
  unfold frameGap; dsimp only
  split <;> rfl

/-- The receiver that line free leaves (R12). -/
def RxPath.afterFree : RxPath → RxPath
  | .awaitSync | .frame | .settling => .idle
  | rx => rx

theorem receiverFree_rest (s : State) : receiverFree s = s.mapLine fun _ => (receiverFree s).line := by
  unfold receiverFree
  split <;> rfl

theorem receiverFree_line (s : State) : (receiverFree s).line.rx = s.line.rx.afterFree
    ∧ (receiverFree s).line.free = s.line.free ∧ (receiverFree s).line.freeTimer = s.line.freeTimer := by
  cases hrx : s.line.rx <;> simp [receiverFree, RxPath.afterFree, setRx, hrx]

/-- The line as it becomes free, before the transmit side, the receive side and the receiver hear of it. -/
def freedLine (s : State) : State := s.mapLine fun l => { l with free := true, freeTimer := 12 }

/-- The station that the matcher finds at line free. -/
def lineFreed (s : State) : State :=
  let u := receiverFree (frameGap (endSending (freedLine s)))
  u.mapLine fun l => { l with offer := u.txHead.isSome && l.rx != .faultListen }

theorem lineFree_eq (hc : s.freeCounts = true) (hf : s.line.free = false) :
    lineFree s = matcherLineFree (lineFreed s) := if_pos ⟨hc, by simp [hf]⟩

/-- The receiver and the receive side change their own registers, behind the end of the transmission. -/
theorem lineFreed_rest (s : State) : lineFreed s = { endSending (freedLine s) with
    line := (lineFreed s).line, fe := (frameGap (endSending (freedLine s))).fe } := by
  unfold lineFreed; dsimp only
  rw [receiverFree_rest, frameGap_rest]
  rfl

theorem lineFreed_line (s : State) :
    (lineFreed s).line.rx = s.line.rx.afterFree ∧ (lineFreed s).line.free = true ∧ (lineFreed s).line.freeTimer = 12 := by
  obtain ⟨hrx, hfree, htimer⟩ := receiverFree_line (frameGap (endSending (freedLine s)))
  have hline : (frameGap (endSending (freedLine s))).line = (freedLine s).line := by
    rw [frameGap_rest]
    exact (endSending_kept (freedLine s)).line
  rw [hline] at hrx hfree htimer
  exact ⟨hrx, hfree, htimer⟩

theorem lineFreed_sendsNoFrame (s : State) : (lineFreed s).sendsNoFrame := by
  intro chars breaking
  rw [lineFreed_rest]
  show (endSending (freedLine s)).transmitter ≠ _
  rw [(endSending_kept (freedLine s)).transmitter]
  show s.transmitter.behindFrame ≠ _
  cases s.transmitter <;> exact nofun

end

/-! ### The watch (R28) -/

/-- A station becomes doubtful, and a transfer in hand ends (R24, R28, R100). -/
theorem setDoubtful_rest (s : State) : setDoubtful s = { s with
    fe := { s.fe with doubtful := true, txQueue := (setDoubtful s).fe.txQueue, held := (setDoubtful s).fe.held
                      admissionsDue := (setDoubtful s).fe.admissionsDue }
    image := (setDoubtful s).image } := by
  unfold setDoubtful; dsimp only
  split <;> rfl

/-- Settles O14: each block hears of the free line in turn, the matcher last; the watch ends by itself. -/
theorem lineFreeAndWatchEnd : Obligations.LineFreeAndWatchEnd := by
  refine ⟨fun s hcounts hfree => ?_, fun w s hw hl => ?_⟩
  · have hstep := lineFree_eq hcounts hfree
    have hcell := (cellFrame_stable s).lineFree s (cellFrame_refl s)
    rw [hstep] at hcell
    obtain ⟨⟨-, -, -, hstraps, -, hconstants, -⟩, -, htx, hstop, hpool, hfe⟩ := endSending_kept (freedLine s)
    obtain ⟨hrx, hlfree, htimer⟩ := lineFreed_line s
    have hrest := lineFreed_rest s
    have hkept := matcherLineFree_kept (lineFreed_sendsNoFrame s)
    -- What the matcher finds of the stop call unit and the transmitter.
    have hstopu : (lineFreed s).stop = s.stop := by rw [hrest]; exact hstop
    have hcall : (lineFreed s).ownCall = s.ownCall := by
      rw [hrest]; simp only [State.ownCall]; rw [hstraps, hconstants]; rfl
    have htxu : (lineFreed s).transmitter = s.transmitter.behindFrame := by rw [hrest]; exact htx
    obtain ⟨hidle, hends⟩ := matcherLineFree_ends (lineFreed s)
    rw [htxu] at hidle hends
    have hrxt : (matcherLineFree (lineFreed s)).line.rx = s.line.rx.afterFree := by
      rcases hkept.line with ⟨h, -⟩ | ⟨h, -⟩
      · rw [h, hrx]
      · rw [h]; exact hrx
    have hfet : (matcherLineFree (lineFreed s)).fe = (frameGap (endSending (freedLine s))).fe := by
      rw [hkept.rest, hrest]
    have hpeers : (matcherLineFree (lineFreed s)).peers = (endSending (freedLine s)).peers := by
      rw [hkept.rest, hrest]
    refine ⟨_, congrArg Host.Outcome.next hstep, hcell, ?_⟩
    rw [hfet, frameGap_fe]
    refine ⟨fun h => ?_, fun hm => (hidle (hstopu ▸ hm)).of_stop hstopu hcall, hends.of_stop hstopu hcall,
      by rw [hkept.rest, hrest]; exact hpool, by rw [hfe]; rfl, by rw [hfe]; rfl,
      fun ho => hpeers.trans (endSending_peers ho), fun ho hc => ?_, fun e htxi ho he hwd ha => ?_, fun h => ?_, fun h => ?_,
      rfl, fun h => ?_, fun h => ?_⟩
    · have hline : (matcherLineFree (lineFreed s)).line = (lineFreed s).line := by
        rcases h with h | h
        · exact matcherLineFree_line (by rw [State.awaitingResolution, hstopu]; exact h)
        · exact (hkept.line.resolve_right fun ⟨_, hc⟩ => h (hc.trans hcall)).1
      rw [hline]
      exact ⟨hlfree, htimer⟩
    · exact frameStays_of_leaveLine (by rw [hfet, frameGap_fe]; exact endSending_stays ho hc)
    · have hheld : endSending (freedLine s) = resolveHeld false (freedLine s) := endSending_held htxi ho
      obtain ⟨hp, ho', l, r, hq⟩ := resolveHeld_counted (s := freedLine s) ho he hwd ha
      rw [← hheld] at hp ho' hq
      exact ⟨hpeers.trans hp, by rw [hfet, frameGap_fe]; exact ho', l, r, by rw [hfet, frameGap_fe]; exact hq⟩
    · rw [hrxt]; rcases h with h | h | h <;> rw [h] <;> rfl
    · rw [hrxt]; rcases h with h | h <;> rw [h] <;> rfl
    · rw [hfe]
      show (if (s.fe.rxState.receiving || s.fe.rxState == .watch) = true then _ else _) = _
      rw [if_pos (by rcases h with h | h <;> simp [h])]
    · rw [hfe]
      show (if (s.fe.rxState.receiving || s.fe.rxState == .watch) = true then _ else s.fe.rxState) = _
      rw [h]; rfl
  · have hstep : watchExpectedEnd s = setDoubtful (s.mapFe fun f => { f with watch := none, rxState := .none }) := by
      simp only [watchExpectedEnd, hw]
      exact if_pos hl
    have hcell := (cellFrame_stable s).watchExpectedEnd s (cellFrame_refl s)
    rw [hstep] at hcell
    refine ⟨_, congrArg Host.Outcome.next hstep, ?_⟩
    rw [setDoubtful_rest]
    exact ⟨rfl, rfl, rfl, by rw [← setDoubtful_rest]; exact hcell, rfl, rfl, rfl, rfl⟩

end Sys2Proof.Machine

namespace Sys2Proof.Machine
open State Sys2Proof.Config

/-! ## Dominant runs (R7, R8, R26, R47, R48) -/

/-! ### The class of a run -/

/-- The run is content of a character that a receiver is assembling (R7, R9). -/
def State.contentRun (s : State) (r : Run) : Prop :=
  s.line.slotRun = false ∧ r.context = .content ∧ r.coveredStop = false
    ∧ ((s.line.rx = .sync ∧ r.slots < 191) ∨ (s.line.rx = .frame ∧ r.slots < 170 * s.line.bitTime / 128)
      ∨ (s.stop.matcher ≠ .idle ∧ r.slots < 170))

/-- The run is veto activity (R26). -/
def State.vetoRun (s : State) (r : Run) : Prop :=
  s.line.slotRun = true ∨ (r.context = .veto ∧ s.line.rx = .slot)

section
variable {s : State} {r : Run}

theorem mayBeContent_iff (s : State) (r : Run) : s.mayBeContent r = true ↔ r.coveredStop = false
    ∧ ((s.line.rx = .sync ∧ r.slots < 191) ∨ (s.line.rx = .frame ∧ r.slots < 170 * s.line.bitTime / 128)
      ∨ (s.stop.matcher ≠ .idle ∧ r.slots < 170)) := by
  simp only [State.mayBeContent, Bool.and_eq_true, Bool.or_eq_true, Bool.not_eq_true', bne_iff_ne, decide_eq_true_eq]
  cases hrx : s.line.rx <;> simp only [decide_eq_true_eq] <;> simp [stopDecision]

theorem runContext_content : s.runContext r = .content ↔ s.contentRun r := by
  unfold State.runContext State.contentRun
  rw [← mayBeContent_iff]
  cases s.line.slotRun <;> cases r.context <;> simp
  split <;> simp

theorem runContext_veto : s.runContext r = .veto ↔ s.vetoRun r := by
  unfold State.runContext State.vetoRun
  cases s.line.slotRun <;> cases r.context <;> simp
  split <;> simp

/-- Character content is not classified. -/
theorem runClass_content (h : s.contentRun r) : s.runClass r = none := by
  rw [State.runClass, runContext_content.2 h]

/-- Nor is veto activity below 24 bit-times. -/
theorem runClass_veto (h : s.vetoRun r) (hn : r.slots / 16 < 24) : s.runClass r = none := by
  rw [State.runClass, runContext_veto.2 h]
  exact if_neg (by simpa [runBitTimes] using hn)

theorem runClass_line (hc : ¬s.contentRun r) (hv : ¬s.vetoRun r) :
    s.runClass r = some (classOfLength (r.slots / 16)) := by
  rw [← runContext_content] at hc
  rw [← runContext_veto] at hv
  unfold State.runClass
  cases hx : s.runContext r with
  | content => exact absurd hx hc
  | veto => exact absurd hx hv
  | line => rfl

/-- From 24 bit-times on, all but content is a long break, and only that is (R7, R26). -/
theorem runClass_longBreak : s.runClass r = some .longBreak ↔ ¬s.contentRun r ∧ 24 ≤ r.slots / 16 := by
  rw [← runContext_content]
  unfold State.runClass classOfLength runBitTimes
  cases s.runContext r with
  | content => simp
  | veto => simp
  | line => simp only [Option.some.injEq]; split_ifs <;> (simp; try omega)

theorem runClass_breakRun (hc : ¬s.contentRun r) (hv : ¬s.vetoRun r) (h11 : 11 ≤ r.slots / 16) (h23 : r.slots / 16 ≤ 23) :
    s.runClass r = some .breakRun := by
  rw [runClass_line hc hv, classOfLength, if_neg (by omega), if_neg (by omega), if_pos h23]

theorem runClass_disturbance (hc : ¬s.contentRun r) (hv : ¬s.vetoRun r) (h4 : 4 ≤ r.slots / 16) (h10 : r.slots / 16 ≤ 10) :
    s.runClass r = some .disturbance := by
  rw [runClass_line hc hv, classOfLength, if_neg (by omega), if_pos h10]

theorem runClass_glitch (hc : ¬s.contentRun r) (hv : ¬s.vetoRun r) (h4 : r.slots / 16 < 4) :
    s.runClass r = some .glitch := by
  rw [runClass_line hc hv, classOfLength, if_pos h4]

/-- A break is a run of the line of 11 bit-times or more. -/
theorem runClass_eq_breakRun (h : s.runClass r = some .breakRun) :
    ¬s.contentRun r ∧ ¬s.vetoRun r ∧ 11 ≤ r.slots / 16 := by
  rw [← runContext_content, ← runContext_veto]
  revert h
  unfold State.runClass classOfLength runBitTimes
  cases s.runContext r with
  | content => simp
  | veto => simp
  | line => simp only [Option.some.injEq]; split_ifs <;> (simp; try omega)

end

/-! ### What the receiver and the receive side make of a run -/

/-- The effect of a run by its class, ahead of the matcher's. -/
def runReceived (r : Run) (c : Option RunClass) (s : State) : State :=
  match c with
  | none => s
  | some .glitch => glitchEnded r.coveredStop s
  | some .disturbance =>
    let s := s.count fun c => { c with disturbance := satInc c.disturbance }
    match s.line.rx with
    | .sync | .frame => setRx .idle (abandonToWatch s)
    | _ => abandonToWatch s
  | some .breakRun =>
    if s.runMoves then
      clearFrame (setRx .awaitSync
        (if s.fe.watch.isSome then setDoubtful (s.mapFe fun f => { f with watch := none }) else s))
    else s
  | some .longBreak =>
    if s.runMoves then clearFrame (setRx .ignore (s.mapFe fun f => { f with watch := none })) else s

/-- The effect of a run on the matcher (R43). -/
def runMatched (r : Run) (c : Option RunClass) (s : State) : State :=
  match c with
  | none | some .glitch => s
  | some .disturbance | some .breakRun => matcherInterrupted s
  | some .longBreak => matcherStart r.stamp s

/-- What a run's end leaves of the station ahead of the matcher. -/
structure KeptByRun (s t : State) : Prop where
  rest : t = { s with
    counters := t.counters, image := t.image
    line := { s.line with rx := t.line.rx, bitTime := t.line.bitTime, vetoDriving := t.line.vetoDriving }
    fe := { s.fe with
      rxState := t.fe.rxState, rxFrame := t.fe.rxFrame, watch := t.fe.watch, doubtful := t.fe.doubtful
      txQueue := t.fe.txQueue, held := t.fe.held, admissionsDue := t.fe.admissionsDue } }
  /-- Only a station that becomes doubtful withdraws frames (R28, R100). -/
  txQueue : s.fe.watch = none → t.fe.txQueue = s.fe.txQueue

section
variable {s : State}

theorem KeptByRun.refl (s : State) : KeptByRun s s := ⟨rfl, fun _ => rfl⟩

theorem runEffect_eq (r : Run) (c : Option RunClass) (hrx : s.line.rx ≠ .loopback) :
    runEffect r c s = runMatched r c (runReceived r c s) := by
  cases c with
  | none => rfl
  | some c =>
    cases c with
    | glitch => rfl
    | disturbance =>
      simp only [runEffect, runMatched, runReceived, disturbanceEnded, count_line]
      cases hx : s.line.rx with
      | loopback => exact absurd hx hrx
      | off | settling | idle | awaitSync | sync | frame | slot | ignore | faultListen => rfl
    | breakRun =>
      simp only [runEffect, runMatched, runReceived, breakEnded]
      split <;> rfl
    | longBreak =>
      simp only [runEffect, runMatched, runReceived, longBreakEnded, hrx, if_false]

theorem abandonToWatch_run (s : State) : KeptByRun s (abandonToWatch s) := by
  unfold abandonToWatch
  split
  exacts [⟨rfl, fun _ => rfl⟩, .refl s]

theorem runReceived_kept (r : Run) (c : Option RunClass) (s : State) : KeptByRun s (runReceived r c s) := by
  unfold runReceived
  split
  · exact .refl s
  · unfold glitchEnded; split <;> exact ⟨rfl, fun _ => rfl⟩
  · unfold abandonToWatch; dsimp only
    split <;> split <;> exact ⟨rfl, fun _ => rfl⟩
  · split
    · refine ⟨?_, fun hw => ?_⟩
      · split
        · rw [setDoubtful_rest]; rfl
        · rfl
      · rw [if_neg (by simp [hw])]; rfl
    · exact .refl s
  · split <;> exact ⟨rfl, fun _ => rfl⟩

theorem runMoves_iff : s.runMoves = true ↔ s.line.rx ≠ .off ∧ s.line.rx ≠ .loopback ∧ s.line.rx ≠ .faultListen := by
  unfold State.runMoves
  cases s.line.rx <;> simp

/-- Abandonment sets the watch (R27, R28); the line and the counters do not hear of it. -/
theorem abandonToWatch_eq (s : State) : (abandonToWatch s).counters = s.counters ∧ (abandonToWatch s).line = s.line
    ∧ (abandonToWatch s).fe.doubtful = s.fe.doubtful
    ∧ (s.fe.rxState.receiving = true →
        (abandonToWatch s).fe.rxState = .watch ∧ (abandonToWatch s).fe.watch.isSome = true)
    ∧ (s.fe.rxState.receiving = false → (abandonToWatch s).fe = s.fe) := by
  unfold abandonToWatch
  cases hr : s.fe.rxState.receiving
  · exact ⟨rfl, rfl, rfl, nofun, fun _ => rfl⟩
  · exact ⟨rfl, rfl, rfl, fun _ => ⟨rfl, rfl⟩, nofun⟩

theorem runReceived_glitch (r : Run) (s : State) :
    let t := runReceived r (some .glitch) s
    t.counters = { s.counters with framing := if r.coveredStop then satInc s.counters.framing else s.counters.framing }
      ∧ t.line.rx = s.line.rx ∧ t.fe = s.fe := by
  simp only [runReceived, glitchEnded]
  split <;> exact ⟨rfl, rfl, rfl⟩

theorem runReceived_disturbance (r : Run) (s : State) :
    let t := runReceived r (some .disturbance) s
    t.counters = { s.counters with disturbance := satInc s.counters.disturbance }
      ∧ t.fe.doubtful = s.fe.doubtful
      ∧ (s.line.rx = .sync ∨ s.line.rx = .frame → t.line.rx = .idle ∧ t.line.bitTime = 128)
      ∧ (s.line.rx ≠ .sync → s.line.rx ≠ .frame → t.line.rx = s.line.rx)
      ∧ (s.fe.rxState.receiving = true → t.fe.rxState = .watch ∧ t.fe.watch.isSome = true)
      ∧ (s.fe.rxState.receiving = false → t.fe = s.fe) := by
  obtain ⟨hcounters, hline, hdoubtful, hwatch, hother⟩ :=
    abandonToWatch_eq (s.count fun c => { c with disturbance := satInc c.disturbance })
  have hrxs : (abandonToWatch (s.count fun c => { c with disturbance := satInc c.disturbance })).line.rx = s.line.rx := by
    rw [hline]; rfl
  unfold runReceived; dsimp only
  split
  next hx => exact ⟨hcounters, hdoubtful, fun _ => ⟨rfl, rfl⟩, fun h => absurd hx h, hwatch, hother⟩
  next hx => exact ⟨hcounters, hdoubtful, fun _ => ⟨rfl, rfl⟩, fun _ h => absurd hx h, hwatch, hother⟩
  next h1 h2 => exact ⟨hcounters, hdoubtful, fun h => (h.elim h1 h2).elim, fun _ _ => hrxs, hwatch, hother⟩

theorem runReceived_break (r : Run) (hm : s.runMoves = true) :
    let t := runReceived r (some .breakRun) s
    t.counters = s.counters ∧ t.line.rx = .awaitSync ∧ t.line.bitTime = 128 ∧ t.fe.rxState = .none
      ∧ t.fe.watch = none ∧ t.fe.doubtful = (s.fe.doubtful || s.fe.watch.isSome) := by
  simp only [runReceived, hm, if_true]
  cases hw : s.fe.watch with
  | none => exact ⟨rfl, rfl, rfl, rfl, hw, (Bool.or_false _).symm⟩
  | some w =>
    simp only [Option.isSome_some, if_true, Bool.or_true]
    rw [setDoubtful_rest]
    exact ⟨rfl, rfl, rfl, rfl, rfl, rfl⟩

theorem runReceived_longBreak (r : Run) (hm : s.runMoves = true) :
    let t := runReceived r (some .longBreak) s
    t.counters = s.counters ∧ t.line.rx = .ignore ∧ t.fe.rxState = .none ∧ t.fe.watch = none
      ∧ t.fe.doubtful = s.fe.doubtful ∧ t.fe.txQueue = s.fe.txQueue := by
  simp only [runReceived, hm, if_true]
  exact ⟨rfl, rfl, rfl, rfl, rfl, rfl⟩

/-- A receiver that listens for stop calls only follows no break (R8). -/
theorem runReceived_still {r : Run} {c : RunClass} (hc : c = .breakRun ∨ c = .longBreak) (hm : s.runMoves = false) :
    runReceived r (some c) s = s := by
  rcases hc with rfl | rfl <;> simp [runReceived, hm]

end

/-! ### The transmit side at a run's end (R13, R30) -/

section
variable {s : State} {c : Option RunClass}

theorem ownBreakEnded_kept (c : Option RunClass) (s : State) :
    ownBreakEnded c s = { s with
      transmitter := (ownBreakEnded c s).transmitter
      fe := { s.fe with
        txQueue := (ownBreakEnded c s).fe.txQueue, admissionsDue := (ownBreakEnded c s).fe.admissionsDue } } := by
  unfold ownBreakEnded
  split <;> split <;> rfl

theorem ownBreakEnded_idle (htx : s.transmitter = .idle) (ho : s.fe.heldOutcome = none) :
    ownBreakEnded c s = if s.overBreak c then leaveLine s else s := by
  simp only [ownBreakEnded, htx, ho, Option.isNone_none, and_true]

/-- An outcome waits for the run: it is decided behind it. -/
theorem ownBreakEnded_held (htx : s.transmitter = .idle) (ho : s.fe.heldOutcome.isSome = true) :
    ownBreakEnded c s = s := by
  have hn : s.fe.heldOutcome.isNone = false := by rw [← Option.not_isSome, ho]; rfl
  simp only [ownBreakEnded, htx, hn, Bool.false_eq_true, and_false, if_false]

/-- A frame is overtaken by a long break, and by a break once its own has ended (R13). -/
theorem ownBreakEnded_frame {chars : List WireChar} {breaking : Bool} (htx : s.transmitter = .frame chars breaking)
    (hm : s.runMoves = true) :
    ownBreakEnded c s = if c = some .longBreak ∨ (breaking = false ∧ c = some .breakRun)
      then leaveLine { s with transmitter := .idle } else { s with transmitter := .frame chars false } := by
  have hs : { s with transmitter := .frame chars breaking } = s := by rw [← htx]
  cases breaking with
  | true => simp only [ownBreakEnded, htx, reduceCtorEq, false_and, or_false]
  | false =>
    rw [hs]
    simp only [ownBreakEnded, htx, State.overBreak, hm, Bool.true_and, Bool.or_eq_true, beq_iff_eq, true_and,
      or_comm (a := c = some .breakRun)]

end

/-! ### The whole command -/

/-- The station that the matcher finds at a run's end. -/
def runFound (r : Run) (s : State) : State :=
  runReceived r (s.runClass r) (ownBreakEnded (s.runClass r) (lineBusy s))

/-- The run is over for the slot as well. -/
def endSlotRun (s : State) : State := s.mapLine fun l => { l with slotRun := false }

section
variable {s : State} {r : Run}

theorem dominantRunEnd_eq (hoff : s.line.rx ≠ .off) (hloop : s.line.rx ≠ .loopback) :
    dominantRunEnd r s = resolveFailed (s.runClass r == some .longBreak)
      (resolveHeld (s.runClass r == some .longBreak) (endSlotRun (runMatched r (s.runClass r) (runFound r s)))) := by
  have hrx : (ownBreakEnded (s.runClass r) (lineBusy s)).line.rx ≠ .loopback := by
    rw [ownBreakEnded_kept]
    exact hloop
  rw [dominantRunEnd, if_neg hoff]; dsimp only
  rw [runEffect_eq _ _ hrx]
  rfl

/-- What the run's end has left when the matcher hears of it. -/
theorem runFound_rest (r : Run) (s : State) : runFound r s = { s with
    transmitter := (ownBreakEnded (s.runClass r) (lineBusy s)).transmitter
    counters := (runFound r s).counters, image := (runFound r s).image
    line := { s.line.busy with
      rx := (runFound r s).line.rx, bitTime := (runFound r s).line.bitTime
      vetoDriving := (runFound r s).line.vetoDriving }
    fe := { s.fe with
      rxState := (runFound r s).fe.rxState, rxFrame := (runFound r s).fe.rxFrame, watch := (runFound r s).fe.watch
      doubtful := (runFound r s).fe.doubtful, txQueue := (runFound r s).fe.txQueue, held := (runFound r s).fe.held
      admissionsDue := (runFound r s).fe.admissionsDue } } := by
  have h := (runReceived_kept r (s.runClass r) (ownBreakEnded (s.runClass r) (lineBusy s))).rest
  unfold runFound
  generalize runReceived r (s.runClass r) (ownBreakEnded (s.runClass r) (lineBusy s)) = v at h ⊢
  rw [ownBreakEnded_kept] at h
  exact h

theorem runFound_txQueue (hw : s.fe.watch = none) :
    (runFound r s).fe.txQueue = (ownBreakEnded (s.runClass r) (lineBusy s)).fe.txQueue := by
  refine (runReceived_kept r _ _).txQueue ?_
  rw [ownBreakEnded_kept]
  exact hw

theorem runMatched_kept (c : Option RunClass) (hs : s.sendsNoFrame) : KeptByStopUnit s (runMatched r c s) := by
  unfold runMatched
  split
  · exact .refl s
  · exact .refl s
  · exact matcherInterrupted_kept hs
  · exact matcherInterrupted_kept hs
  · exact ⟨rfl, .inl ⟨rfl, rfl⟩⟩

/-- With no attempt, a run at most starts one. -/
theorem runMatched_idle (c : Option RunClass) (hm : s.stop.matcher = .idle) :
    ∃ m, runMatched r c s = setMatcher m s := by
  have hself : setMatcher s.stop.matcher s = s := rfl
  unfold runMatched
  split
  · exact ⟨_, hself.symm⟩
  · exact ⟨_, hself.symm⟩
  · exact ⟨_, ((matcherInterrupted_ends s).1 hm).trans hself.symm⟩
  · exact ⟨_, ((matcherInterrupted_ends s).1 hm).trans hself.symm⟩
  · exact ⟨_, rfl⟩

theorem resolveFailed_false {longBreak : Bool} (h : s.stop.failHeld = false) : resolveFailed longBreak s = s := by
  simp [resolveFailed, h]

theorem resolveFailed_true {longBreak : Bool} (h : s.stop.failHeld = true) : resolveFailed longBreak s
    = if longBreak then s.mapStop (fun u => { u with failHeld := false })
      else resendRequest (s.mapStop fun u => { u with failHeld := false }) := by
  simp only [resolveFailed, h, if_true]

end
end Sys2Proof.Machine

namespace Sys2Proof.Machine
open State Sys2Proof.Config

/-! ### The stop call unit at a run's end (R42, R43, R48) -/

section
variable {s t : State}

theorem resendRequest_failHeld (h : s.stop.failHeld = false) : (resendRequest s).stop.failHeld = false := by
  unfold resendRequest
  split
  · dsimp only
    split
    exacts [(stopSend_matcher _).2.2, (stopSend_matcher _).2.2]
  · exact h

theorem matcherInterrupted_failHeld (h : s.stop.failHeld = false) : (matcherInterrupted s).stop.failHeld = false := by
  have hcomplete : ∀ stamp, (matcherComplete stamp none s).stop.failHeld = false := fun stamp => by
    unfold matcherComplete satisfyRequest
    split
    exacts [(stopSend_matcher _).2.2.trans h, h]
  unfold matcherInterrupted
  cases s.stop.matcher with
  | idle => exact h
  | sync | code => exact resendRequest_failHeld (s := setMatcher .idle s) h
  | sender stamp | complement stamp => exact hcomplete stamp

theorem runMatched_failHeld (r : Run) (c : Option RunClass) (h : s.stop.failHeld = false) :
    (runMatched r c s).stop.failHeld = false := by
  unfold runMatched
  split
  exacts [h, h, matcherInterrupted_failHeld h, matcherInterrupted_failHeld h, h]

/-- What the stop call unit makes of a run's end. -/
def runAnswered (r : Run) (c : Option RunClass) (s : State) : State :=
  resolveFailed (c == some .longBreak) (endSlotRun (runMatched r c s))

/-- What the stop call unit leaves at a run's end, in a station that sends no frame. -/
structure KeptByAnswer (s t : State) : Prop where
  rest : t = { s with stop := t.stop, transmitter := t.transmitter, line := t.line }
  line : t.line = { s.line with
    free := t.line.free, freeTimer := t.line.freeTimer, offer := t.line.offer, slotRun := t.line.slotRun }
  busy : s.line.free = false → s.line.freeTimer = 0 → t.line.free = false ∧ t.line.freeTimer = 0

theorem KeptByAnswer.trans {u : State} (h : KeptByAnswer s t) (h' : KeptByAnswer t u) : KeptByAnswer s u where
  rest := h'.rest.trans (by rw [h.rest])
  line := h'.line.trans (by rw [h.line])
  busy hf ht := h'.busy (h.busy hf ht).1 (h.busy hf ht).2

theorem endSlotRun_kept (s : State) : KeptByAnswer s (endSlotRun s) := ⟨rfl, rfl, fun hf ht => ⟨hf, ht⟩⟩

theorem KeptByAnswer.of_stopUnit (h : KeptByStopUnit s t) : KeptByAnswer s t := by
  obtain ⟨hrest, hline⟩ := h
  refine ⟨hrest, ?_, fun hf ht => ?_⟩
  · rcases hline with ⟨h, -⟩ | ⟨h, -⟩
    exacts [by rw [h], by rw [h]; rfl]
  · rcases hline with ⟨h, -⟩ | ⟨h, -⟩ <;> rw [h]
    exacts [⟨hf, ht⟩, ⟨rfl, rfl⟩]

theorem resolveFailed_kept (longBreak : Bool) (hs : s.sendsNoFrame) : KeptByStopUnit s (resolveFailed longBreak s) := by
  unfold resolveFailed; dsimp only
  split
  · split
    exacts [⟨rfl, .inl ⟨rfl, rfl⟩⟩, (resendRequest_kept (s := s.mapStop _) hs).of_mapStop]
  · exact .refl s

theorem resolveFailed_failHeld (longBreak : Bool) (s : State) : (resolveFailed longBreak s).stop.failHeld = false := by
  cases h : s.stop.failHeld with
  | false => rw [resolveFailed_false h]; exact h
  | true =>
    rw [resolveFailed_true h]
    split
    exacts [rfl, resendRequest_failHeld rfl]

theorem runAnswered_kept (r : Run) (c : Option RunClass) (hs : s.sendsNoFrame) :
    KeptByAnswer s (runAnswered r c s) ∧ (runAnswered r c s).line.slotRun = false := by
  have hm := runMatched_kept (r := r) c hs
  have hf := resolveFailed_kept (s := endSlotRun (runMatched r c s)) (c == some .longBreak) (hm.sendsNoFrame hs)
  refine ⟨((KeptByAnswer.of_stopUnit hm).trans (endSlotRun_kept _)).trans (.of_stopUnit hf), ?_⟩
  rcases hf.line with ⟨h, -⟩ | ⟨h, -⟩
  all_goals
    unfold runAnswered
    rw [h]
    rfl

/-- A run that is of no concern to the matcher. -/
theorem runAnswered_still {r : Run} {c : Option RunClass} (hc : c = none ∨ c = some .glitch) (h : s.stop.failHeld = false) :
    runAnswered r c s = endSlotRun s := by
  have hm : runMatched r c s = s := by rcases hc with rfl | rfl <;> rfl
  rw [runAnswered, hm]
  exact resolveFailed_false h

/-- A break or a disturbance. -/
theorem runAnswered_interrupted {r : Run} {c : Option RunClass} (hc : c = some .disturbance ∨ c = some .breakRun)
    (h : s.stop.failHeld = false) : runAnswered r c s = endSlotRun (matcherInterrupted s) := by
  have hm : runMatched r c s = matcherInterrupted s := by rcases hc with rfl | rfl <;> rfl
  rw [runAnswered, hm]
  exact resolveFailed_false (matcherInterrupted_failHeld h)

theorem runAnswered_interrupted_ends {r : Run} {c : Option RunClass}
    (hc : c = some .disturbance ∨ c = some .breakRun) (h : s.stop.failHeld = false) :
    (s.stop.matcher = .idle → (runAnswered r c s).stop = s.stop ∧ (runAnswered r c s).transmitter = s.transmitter)
      ∧ attemptEnds (fun _ => false) s s.transmitter (runAnswered r c s) := by
  obtain ⟨hidle, hends⟩ := matcherInterrupted_ends s
  rw [runAnswered_interrupted hc h]
  exact ⟨fun hm => by rw [hidle hm]; exact ⟨rfl, rfl⟩, hends⟩

/-- A long break starts a new attempt (R43), and a request goes on waiting (R48). -/
theorem runAnswered_longBreak (r : Run) (s : State) :
    (runAnswered r (some .longBreak) s).stop = { s.stop with matcher := .sync r.stamp 0, failHeld := false }
      ∧ (runAnswered r (some .longBreak) s).transmitter = s.transmitter := by
  cases h : s.stop.failHeld with
  | false =>
    have hstep : runAnswered r (some .longBreak) s = endSlotRun (matcherStart r.stamp s) := resolveFailed_false (by exact h)
    rw [hstep, ← h]
    exact ⟨rfl, rfl⟩
  | true =>
    have hstep : runAnswered r (some .longBreak) s = _ := resolveFailed_true (by exact h)
    rw [hstep]
    exact ⟨rfl, rfl⟩

/-- Behind any other run the request held for it is sent again (R42, R48). -/
theorem runAnswered_fails {r : Run} {c : Option RunClass} (hc : c ≠ some .longBreak) (hh : s.stop.failHeld = true)
    (hm : s.stop.matcher = .idle) :
    attemptFails { s with stop := { s.stop with failHeld := false } } s.transmitter (runAnswered r c s) := by
  have hself : runMatched r c s = s := by
    unfold runMatched
    split
    exacts [rfl, rfl, (matcherInterrupted_ends s).1 hm, (matcherInterrupted_ends s).1 hm, absurd rfl hc]
  have hb : (c == some .longBreak) = false := by simpa using hc
  have hstep : runAnswered r c s = resendRequest ((endSlotRun s).mapStop fun u => { u with failHeld := false }) := by
    rw [runAnswered, hself, hb, resolveFailed_true (by exact hh)]; rfl
  rw [hstep]
  exact (resendRequest_fails (s := (endSlotRun s).mapStop fun u => { u with failHeld := false }) hm).of_stop rfl rfl

end
end Sys2Proof.Machine

namespace Sys2Proof.Machine
open State Sys2Proof.Config

/-! ### The station that the stop call unit finds, by the class of the run -/

section
variable {s : State} {r : Run}

theorem runFound_notBreak (htx : s.transmitter = .idle) (ho : s.fe.heldOutcome = none)
    (hb : s.runClass r ≠ some .breakRun) (hl : s.runClass r ≠ some .longBreak) :
    runFound r s = runReceived r (s.runClass r) (lineBusy s) := by
  rw [runFound, ownBreakEnded_idle (by exact htx) (by exact ho), if_neg]
  simp [State.overBreak, hb, hl]

/-- A break that the receiver follows ends the transmission whose outcome was decided (R13, R30). -/
theorem runFound_break (htx : s.transmitter = .idle) (ho : s.fe.heldOutcome = none) (hm : s.runMoves = true)
    (hc : s.runClass r = some .breakRun ∨ s.runClass r = some .longBreak) :
    runFound r s = runReceived r (s.runClass r) (leaveLine (lineBusy s)) := by
  have hm' : (lineBusy s).runMoves = true := hm
  rw [runFound, ownBreakEnded_idle (by exact htx) (by exact ho), if_pos]
  rcases hc with hc | hc <;> rw [hc, State.overBreak, hm'] <;> rfl

theorem runFound_still (htx : s.transmitter = .idle) (ho : s.fe.heldOutcome = none) (hm : s.runMoves = false)
    (hc : s.runClass r = some .breakRun ∨ s.runClass r = some .longBreak) : runFound r s = lineBusy s := by
  have hm' : (lineBusy s).runMoves = false := hm
  rw [runFound, ownBreakEnded_idle (by exact htx) (by exact ho), if_neg (by simp [State.overBreak, hm'])]
  rcases hc with hc | hc <;> rw [hc]
  exacts [runReceived_still (.inl rfl) hm', runReceived_still (.inr rfl) hm']

theorem runFound_followedBreak (htx : s.transmitter = .idle) (ho : s.fe.heldOutcome = none) (hm : s.runMoves = true)
    (hc : s.runClass r = some .breakRun) :
    let v := runFound r s
    v.counters = s.counters ∧ v.line.rx = .awaitSync ∧ v.line.bitTime = 128 ∧ v.fe.rxState = .none ∧ v.fe.watch = none
      ∧ v.fe.doubtful = (s.fe.doubtful || s.fe.watch.isSome)
      ∧ (s.fe.watch = none → v.fe.txQueue = (leaveLine s).fe.txQueue) := by
  rw [runFound_break htx ho hm (.inl hc), hc]
  obtain ⟨h1, h2, h3, h4, h5, h6⟩ := runReceived_break (s := leaveLine (lineBusy s)) r hm
  exact ⟨h1, h2, h3, h4, h5, h6, fun hw => (runReceived_kept r _ (leaveLine (lineBusy s))).txQueue hw⟩

theorem runFound_followedLongBreak (htx : s.transmitter = .idle) (ho : s.fe.heldOutcome = none) (hm : s.runMoves = true)
    (hc : s.runClass r = some .longBreak) :
    let v := runFound r s
    v.counters = s.counters ∧ v.line.rx = .ignore ∧ v.fe.rxState = .none ∧ v.fe.watch = none
      ∧ v.fe.doubtful = s.fe.doubtful ∧ v.fe.txQueue = (leaveLine s).fe.txQueue := by
  rw [runFound_break htx ho hm (.inr hc), hc]
  exact runReceived_longBreak (s := leaveLine (lineBusy s)) r hm

theorem runFound_transmitter (htx : s.transmitter = .idle) (ho : s.fe.heldOutcome = none) :
    (runFound r s).transmitter = .idle := by
  rw [runFound_rest]
  show (ownBreakEnded _ _).transmitter = _
  rw [ownBreakEnded_idle (by exact htx) (by exact ho)]
  split
  exacts [htx, htx]

/-- With nothing on the line and no outcome held, the run's end is heard by the receiver and by the stop call unit. -/
theorem dominantRunEnd_idle (hoff : s.line.rx ≠ .off) (hloop : s.line.rx ≠ .loopback) (htx : s.transmitter = .idle)
    (ho : s.fe.heldOutcome = none) : dominantRunEnd r s = runAnswered r (s.runClass r) (runFound r s) := by
  have hsends : (runFound r s).sendsNoFrame := fun chars breaking => by rw [runFound_transmitter htx ho]; nofun
  have hheld : (endSlotRun (runMatched r (s.runClass r) (runFound r s))).fe.heldOutcome = none := by
    show (runMatched r (s.runClass r) (runFound r s)).fe.heldOutcome = none
    rw [(runMatched_kept (s.runClass r) hsends).rest, runFound_rest]
    exact ho
  rw [dominantRunEnd_eq hoff hloop, resolveHeld_none hheld]
  rfl

/-- What a run's end leaves of such a station, in terms of what the receiver made of the run. -/
theorem dominantRunEnd_idle_kept (hoff : s.line.rx ≠ .off) (hloop : s.line.rx ≠ .loopback) (htx : s.transmitter = .idle)
    (ho : s.fe.heldOutcome = none) :
    let t := dominantRunEnd r s
    t.line.free = false ∧ t.line.freeTimer = 0 ∧ t.line.slotRun = false ∧ t.stop.failHeld = false
      ∧ t.counters = (runFound r s).counters ∧ t.line.rx = (runFound r s).line.rx
      ∧ t.line.bitTime = (runFound r s).line.bitTime ∧ t.fe = (runFound r s).fe
      ∧ t.pool = s.pool ∧ t.peers = s.peers := by
  have hsends : (runFound r s).sendsNoFrame := fun chars breaking => by rw [runFound_transmitter htx ho]; nofun
  obtain ⟨⟨hrest, hline, hbusy⟩, hslot⟩ := runAnswered_kept r (s.runClass r) hsends
  have hfail : (runAnswered r (s.runClass r) (runFound r s)).stop.failHeld = false := resolveFailed_failHeld _ _
  have hfree : (runFound r s).line.free = false ∧ (runFound r s).line.freeTimer = 0 := by
    rw [runFound_rest]; exact ⟨rfl, rfl⟩
  have hpool : (runFound r s).pool = s.pool ∧ (runFound r s).peers = s.peers := by rw [runFound_rest]; exact ⟨rfl, rfl⟩
  rw [dominantRunEnd_idle hoff hloop htx ho]
  generalize runAnswered r (s.runClass r) (runFound r s) = t at *
  refine ⟨(hbusy hfree.1 hfree.2).1, (hbusy hfree.1 hfree.2).2, hslot, hfail, ?_, ?_, ?_, ?_, ?_, ?_⟩
  · rw [hrest]
  · rw [hline]
  · rw [hline]
  · rw [hrest]
  · rw [hrest]; exact hpool.1
  · rw [hrest]; exact hpool.2

/-- With no attempt of the matcher and no request held, the outcome of the transmission is decided last (R47). -/
theorem dominantRunEnd_noAttempt (hoff : s.line.rx ≠ .off) (hloop : s.line.rx ≠ .loopback)
    (hm : s.stop.matcher = .idle) (hh : s.stop.failHeld = false) : ∃ m, dominantRunEnd r s
      = resolveHeld (s.runClass r == some .longBreak) (endSlotRun (setMatcher m (runFound r s))) := by
  have hstop : (runFound r s).stop = s.stop := by rw [runFound_rest]
  obtain ⟨m, hmatched⟩ := runMatched_idle (r := r) (s.runClass r) (s := runFound r s) (by rw [hstop]; exact hm)
  refine ⟨m, ?_⟩
  rw [dominantRunEnd_eq hoff hloop, hmatched]
  refine resolveFailed_false ?_
  rw [(resolveHeld_kept _ _).stop]
  show (runFound r s).stop.failHeld = false
  rw [hstop, hh]

/-- A run over a frame that is being sent, with no attempt of the matcher (R13). -/
theorem dominantRunEnd_frame {chars : List WireChar} {breaking : Bool} (hm : s.runMoves = true) (hw : s.fe.watch = none)
    (hmi : s.stop.matcher = .idle) (hh : s.stop.failHeld = false) (htx : s.transmitter = .frame chars breaking)
    (ho : s.fe.heldOutcome = none) :
    let isOver : Prop := s.runClass r = some .longBreak ∨ (breaking = false ∧ s.runClass r = some .breakRun)
    let t := dominantRunEnd r s
    t.pool = s.pool ∧ t.peers = s.peers ∧ (isOver → t.transmitter = .idle ∧ frameStays s t)
      ∧ (¬isOver → t.transmitter = .frame chars false ∧ t.fe.txQueue = s.fe.txQueue) := by
  intro isOver t
  obtain ⟨hoff, hloop, -⟩ := runMoves_iff.1 hm
  have hstep : ∃ m, t = endSlotRun (setMatcher m (runFound r s)) := by
    obtain ⟨m, hstep⟩ := dominantRunEnd_noAttempt (r := r) hoff hloop hmi hh
    rw [resolveHeld_none] at hstep
    · exact ⟨m, hstep⟩
    · show (runFound r s).fe.heldOutcome = none
      rw [runFound_rest]; exact ho
  obtain ⟨m, hstep⟩ := hstep
  have hq : (runFound r s).fe.txQueue = _ := runFound_txQueue (r := r) hw
  have hown := ownBreakEnded_frame (s := lineBusy s) (c := s.runClass r) htx hm
  have htxt : t.transmitter = (ownBreakEnded (s.runClass r) (lineBusy s)).transmitter := by
    rw [hstep]; show (runFound r s).transmitter = _; rw [runFound_rest]
  have hqt : t.fe.txQueue = (ownBreakEnded (s.runClass r) (lineBusy s)).fe.txQueue := by rw [hstep]; exact hq
  refine ⟨?_, ?_, fun hover => ?_, fun hover => ?_⟩
  · rw [hstep]; show (runFound r s).pool = _; rw [runFound_rest]
  · rw [hstep]; show (runFound r s).peers = _; rw [runFound_rest]
  · rw [hown, if_pos hover] at htxt hqt
    exact ⟨htxt, frameStays_of_leaveLine hqt⟩
  · rw [hown, if_neg hover] at htxt hqt
    exact ⟨htxt, hqt⟩

/-- What leaves the transmit queue with the line looks at nothing else. -/
theorem leaveLine_txQueue_congr {t u : State} (h : t.fe.txQueue = u.fe.txQueue) :
    (leaveLine t).fe.txQueue = (leaveLine u).fe.txQueue :=
  congrArg (fun q : List TxEntry =>
    (q.filter fun e : TxEntry => !(e.onLine && e.withdrawn)).map fun e : TxEntry => ({ e with onLine := false } : TxEntry)) h

/-- A run behind a transmission whose outcome waits for it, with no attempt of the matcher (R30, R47). -/
theorem dominantRunEnd_held {e : TxEntry} (hm : s.runMoves = true) (hw : s.fe.watch = none)
    (hmi : s.stop.matcher = .idle) (hh : s.stop.failHeld = false) (htx : s.transmitter = .idle)
    (ho : s.fe.heldOutcome.isSome = true) (he : s.lineEntry = some e) (hwd : e.withdrawn = false) (ha : e.attempts < 3) :
    let t := dominantRunEnd r s
    t.pool = s.pool ∧ t.peers = s.peers
      ∧ (s.runClass r = some .longBreak → t.fe.heldOutcome = none ∧ frameStays s t)
      ∧ (s.runClass r ≠ some .longBreak → attemptCounted e s t) := by
  intro t
  obtain ⟨hoff, hloop, -⟩ := runMoves_iff.1 hm
  obtain ⟨m, hstep⟩ := dominantRunEnd_noAttempt (r := r) hoff hloop hmi hh
  have hq : (runFound r s).fe.txQueue = s.fe.txQueue := by
    rw [runFound_txQueue hw, ownBreakEnded_held (by exact htx) (by exact ho)]; rfl
  generalize hx : endSlotRun (setMatcher m (runFound r s)) = x at hstep
  have hxq : x.fe.txQueue = s.fe.txQueue := by rw [← hx]; exact hq
  have hxo : x.fe.heldOutcome = s.fe.heldOutcome := by
    rw [← hx]; show (runFound r s).fe.heldOutcome = _; rw [runFound_rest]
  have hxpool : x.pool = s.pool ∧ x.peers = s.peers := by
    rw [← hx]
    show (runFound r s).pool = _ ∧ (runFound r s).peers = _
    rw [runFound_rest]; exact ⟨rfl, rfl⟩
  have hxe : x.lineEntry = some e := by rw [← he, State.lineEntry, hxq]; rfl
  have hpool : t.pool = s.pool := by
    show (dominantRunEnd r s).pool = _
    rw [hstep, (resolveHeld_kept _ x).pool, hxpool.1]
  by_cases hl : s.runClass r = some .longBreak
  · have ht : t = leaveLine (x.mapFe fun f => { f with heldOutcome := none }) := by
      show dominantRunEnd r s = _
      rw [hstep, resolveHeld_held (by rw [hxo]; exact ho), hl]
      rfl
    refine ⟨hpool, by rw [ht]; exact hxpool.2, fun _ => ⟨by rw [ht]; rfl, frameStays_of_leaveLine ?_⟩, fun h => absurd hl h⟩
    rw [ht]
    exact leaveLine_txQueue_congr hxq
  · have ht : t = resolveHeld false x := by
      show dominantRunEnd r s = _
      rw [hstep, beq_eq_false_iff_ne.2 hl]
    obtain ⟨hpeers, ho', l, r, hqt⟩ := resolveHeld_counted (by rw [hxo]; exact ho) hxe hwd ha
    rw [← ht] at hpeers ho' hqt
    exact ⟨hpool, hpeers.trans hxpool.2, fun h => absurd h hl, fun _ => ⟨ho', l, r, by rw [← hxq]; exact hqt⟩⟩

/-- What a run's end makes of the matcher's attempt and of the stop call requests (R42, R43, R48). -/
theorem dominantRunEnd_idle_stop {s : State} {r : Run} (hoff : s.line.rx ≠ .off) (hloop : s.line.rx ≠ .loopback)
    (htx : s.transmitter = .idle) (ho : s.fe.heldOutcome = none) :
    let t := dominantRunEnd r s
    (s.runClass r = none ∨ s.runClass r = some .glitch → s.stop.failHeld = false →
        t.stop = s.stop ∧ t.transmitter = .idle)
      ∧ (s.runClass r = some .disturbance ∨ s.runClass r = some .breakRun → s.stop.failHeld = false →
        (s.stop.matcher = .idle → t.stop = s.stop ∧ t.transmitter = .idle) ∧ attemptEnds (fun _ => false) s .idle t)
      ∧ (s.runClass r = some .longBreak →
        t.stop = { s.stop with matcher := .sync r.stamp 0, failHeld := false } ∧ t.transmitter = .idle)
      ∧ (s.runClass r ≠ some .longBreak → s.stop.failHeld = true → s.stop.matcher = .idle →
        attemptFails { s with stop := { s.stop with failHeld := false } } .idle t) := by
  have hstop : (runFound r s).stop = s.stop := by rw [runFound_rest]
  have hcall : (runFound r s).ownCall = s.ownCall := by rw [runFound_rest]; rfl
  have htxv := runFound_transmitter (r := r) htx ho
  rw [dominantRunEnd_idle hoff hloop htx ho]
  refine ⟨fun hc hh => ?_, fun hc hh => ?_, fun hc => ?_, fun hc hh hm => ?_⟩
  · rw [runAnswered_still hc (by rw [hstop]; exact hh)]
    exact ⟨hstop, htxv⟩
  · obtain ⟨hidle, hends⟩ := runAnswered_interrupted_ends (s := runFound r s) (r := r) hc (by rw [hstop]; exact hh)
    rw [htxv, hstop] at hidle
    rw [htxv] at hends
    exact ⟨hidle, hends.of_stop hstop hcall⟩
  · obtain ⟨hstopt, htxt⟩ := runAnswered_longBreak r (runFound r s)
    rw [hc, ← hstop, ← htxv]
    exact ⟨hstopt, htxt⟩
  · have hfails := runAnswered_fails (s := runFound r s) (r := r) hc (by rw [hstop]; exact hh) (by rw [hstop]; exact hm)
    rw [htxv] at hfails
    exact hfails.of_stop (by rw [hstop]) hcall

/-- The length, the context and the receiver decide together what a run is to the station. -/
theorem runClass_breaking {s : State} {r : Run} {breaking : Bool} :
    (s.runClass r = some .longBreak ∨ (breaking = false ∧ s.runClass r = some .breakRun))
      ↔ ((¬s.contentRun r ∧ 24 ≤ r.slots / 16)
        ∨ (breaking = false ∧ (¬s.contentRun r ∧ ¬s.vetoRun r) ∧ 11 ≤ r.slots / 16)) := by
  constructor
  · rintro (h | ⟨hb, h⟩)
    · exact .inl (runClass_longBreak.1 h)
    · obtain ⟨hc, hv, hn⟩ := runClass_eq_breakRun h
      exact .inr ⟨hb, ⟨hc, hv⟩, hn⟩
  · rintro (h | ⟨hb, ⟨hc, hv⟩, hn⟩)
    · exact .inl (runClass_longBreak.2 h)
    · by_cases h24 : 24 ≤ r.slots / 16
      · exact .inl (runClass_longBreak.2 ⟨hc, h24⟩)
      · exact .inr ⟨hb, runClass_breakRun hc hv hn (by omega)⟩

/-- Settles O9: the class of the run, what the receiver makes of it, and then the stop call unit and the transmit side. -/
theorem dominantRunsByLength : Obligations.DominantRunsByLength := by
  intro r s n assembling content veto ofLine followed
  have hcell : cellFrame s (dominantRunEnd r s) := (cellFrame_stable s).dominantRunEnd r s (cellFrame_refl s)
  refine ⟨fun hoff => congrArg Host.Outcome.next (if_pos hoff), fun hoff hloop htx ho => ⟨_, rfl, ?_⟩,
    fun hoff hloop hfollowed hw hmi hh => ⟨fun chars breaking htx ho => ⟨_, rfl, hcell, ?_⟩,
      fun e htx ho he hwd ha => ⟨_, rfl, hcell, ?_⟩⟩⟩
  · obtain ⟨hfree, htimer, hslot, hfail, hcounters, hrx, hbit, hfe, hpool, hpeers⟩ :=
      dominantRunEnd_idle_kept (r := r) hoff hloop htx ho
    obtain ⟨hstill, hends, hlong, hfails⟩ := dominantRunEnd_idle_stop (r := r) hoff hloop htx ho
    have hrxq : (runFound r s).fe.rxQueue = s.fe.rxQueue := by rw [runFound_rest]
    have hfollow : followed → s.runMoves = true := fun hf => runMoves_iff.2 ⟨hoff, hloop, hf⟩
    have hleft : ¬followed → s.runMoves = false := fun hf => by simp [State.runMoves, not_not.1 hf]
    refine ⟨hfree, htimer, hslot, hfail, hcell, hpool, hpeers, hfe ▸ hrxq, ?_⟩
    rw [hcounters, hrx, hbit, hfe]
    refine ⟨fun h => ?_, fun hl hn => ?_, fun hl h4 h10 => ?_, fun hl h11 h23 => ?_, fun hl h24 => ?_, fun hh hmi hl => ?_⟩
    · have hc : s.runClass r = none := h.elim (runClass_content ·) fun ⟨hv, hn⟩ => runClass_veto hv hn
      rw [runFound_notBreak htx ho (by simp [hc]) (by simp [hc]), hc]
      exact ⟨rfl, rfl, rfl, hstill (.inl hc)⟩
    · have hc : s.runClass r = some .glitch := runClass_glitch hl.1 hl.2 hn
      rw [runFound_notBreak htx ho (by simp [hc]) (by simp [hc]), hc]
      obtain ⟨h1, h2, h3⟩ := runReceived_glitch r (lineBusy s)
      exact ⟨h1, h2, h3, hstill (.inr hc)⟩
    · have hc : s.runClass r = some .disturbance := runClass_disturbance hl.1 hl.2 h4 h10
      obtain ⟨h1, h2, h3, h4, h5, h6⟩ := runReceived_disturbance r (lineBusy s)
      rw [runFound_notBreak htx ho (by simp [hc]) (by simp [hc]), hc]
      exact ⟨h1, h2, h3, h4, h5, h6, hends (.inl hc)⟩
    · have hc : s.runClass r = some .breakRun := runClass_breakRun hl.1 hl.2 h11 h23
      refine ⟨?_, fun hf => ?_, fun hf => ?_, hends (.inr hc)⟩
      · cases hm : s.runMoves with
        | true => exact (runFound_followedBreak htx ho hm hc).1
        | false => rw [runFound_still htx ho hm (.inl hc)]; rfl
      · obtain ⟨-, h1, h2, h3, h4, h5, hq⟩ := runFound_followedBreak htx ho (hfollow hf) hc
        exact ⟨h1, h2, h3, h4, h5, fun hw => frameStays_of_leaveLine (by rw [hfe, hq hw])⟩
      · rw [runFound_still htx ho (hleft hf) (.inl hc)]
        exact ⟨not_not.1 hf, rfl⟩
    · have hc : s.runClass r = some .longBreak := runClass_longBreak.2 ⟨hl, h24⟩
      refine ⟨?_, fun hf => ?_, fun hf => ?_, hlong hc⟩
      · cases hm : s.runMoves with
        | true => exact (runFound_followedLongBreak htx ho hm hc).1
        | false => rw [runFound_still htx ho hm (.inr hc)]; rfl
      · obtain ⟨-, h1, h2, h3, h4, hq⟩ := runFound_followedLongBreak htx ho (hfollow hf) hc
        exact ⟨h1, h2, h3, h4, frameStays_of_leaveLine (by rw [hfe, hq])⟩
      · rw [runFound_still htx ho (hleft hf) (.inr hc)]
        exact ⟨not_not.1 hf, rfl⟩
    · exact hfails (fun h => hl (runClass_longBreak.1 h)) hh hmi
  · obtain ⟨hpool, hpeers, hover, hgoes⟩ :=
      dominantRunEnd_frame (r := r) (runMoves_iff.2 ⟨hoff, hloop, hfollowed⟩) hw hmi hh htx ho
    rw [runClass_breaking] at hover hgoes
    exact ⟨hpool, hpeers, hover, hgoes⟩
  · obtain ⟨hpool, hpeers, hlong, hshort⟩ :=
      dominantRunEnd_held (r := r) (runMoves_iff.2 ⟨hoff, hloop, hfollowed⟩) hw hmi hh htx ho he hwd ha
    rw [Ne, runClass_longBreak] at hshort
    rw [runClass_longBreak] at hlong
    exact ⟨hpool, hpeers, hlong, hshort⟩

end
end Sys2Proof.Machine

namespace Sys2Proof.Machine
open State Sys2Proof.Config

/-! ## A transmission starts (R13, R17, R31, R50, R98) -/

/-! ### The bytes of an image part (Formats 13.3) -/

theorem insertBy_perm {α : Type} (key : α → Nat) (x : α) (l : List α) : (insertBy key x l).Perm (x :: l) := by
  induction l with
  | nil => exact .refl _
  | cons y ys ih =>
    unfold insertBy
    split
    exacts [(ih.cons y).trans (.swap x y ys), .refl _]

theorem sortBy_perm {α : Type} (key : α → Nat) (l : List α) : (sortBy key l).Perm l := by
  induction l with
  | nil => exact .refl _
  | cons x xs ih => exact (insertBy_perm key x _).trans (ih.cons x)

theorem insertBy_pairwise {α : Type} {key : α → Nat} (x : α) {l : List α} (h : l.Pairwise fun a b => key a ≤ key b) :
    (insertBy key x l).Pairwise fun a b => key a ≤ key b := by
  induction l with
  | nil => simp [insertBy]
  | cons y ys ih =>
    obtain ⟨hy, hys⟩ := List.pairwise_cons.1 h
    unfold insertBy
    split
    next hle =>
      refine List.pairwise_cons.2 ⟨fun z hz => ?_, ih hys⟩
      rcases List.mem_cons.1 ((insertBy_perm key x ys).mem_iff.1 hz) with rfl | hz
      exacts [hle, hy z hz]
    next hle =>
      have hlt : key x ≤ key y := Nat.le_of_not_le hle
      refine List.pairwise_cons.2 ⟨fun z hz => ?_, h⟩
      rcases List.mem_cons.1 hz with rfl | hz
      exacts [hlt, Nat.le_trans hlt (hy z hz)]

theorem sortBy_pairwise {α : Type} (key : α → Nat) (l : List α) :
    (sortBy key l).Pairwise fun a b => key a ≤ key b := by
  induction l with
  | nil => exact .nil
  | cons x xs ih => exact insertBy_pairwise x ih

/-- A part carries the entries of its place, at most four (R98). -/
theorem take_entriesInPart {α : Type} (l : List α) (k : Nat) :
    (l.drop (4 * k)).take (entriesInPart l.length k) = (l.drop (4 * k)).take 4 := by
  unfold entriesInPart partCount
  split
  · rfl
  · have hall : (l.drop (4 * k)).length ≤ 4 ∧ (l.drop (4 * k)).length ≤ l.length - 4 * (max 1 ((l.length + 3) / 4) - 1) := by
      rw [List.length_drop]; omega
    rw [List.take_of_length_le hall.1, List.take_of_length_le hall.2]

/-! ### The frame on the line (R17, R18) -/

section
variable {s : State} {p : Payload}

theorem takeBuffer_rest (p : Payload) (s : State) : takeBuffer p s = s.mapImage fun _ => (takeBuffer p s).image := by
  unfold takeBuffer fillImageBuffer
  split
  · split <;> rfl
  · rfl

/-- Part 0 of a QUEUED responder takes its image (R98). -/
theorem takeBuffer_queued (h : s.image.responder = .queued) : (takeBuffer (.imagePart 0) s).image
    = { s.image with responder := .running, buffer := some ⟨canonical s.pool.table, s.pool.generation, s.pool.digest⟩ } := by
  simp only [takeBuffer, fillImageBuffer, h]
  rfl

theorem takeBuffer_other (h : ¬(p = .imagePart 0 ∧ s.image.responder = .queued)) : takeBuffer p s = s := by
  unfold takeBuffer fillImageBuffer
  split
  · split
    next hq => exact absurd ⟨rfl, hq⟩ h
    all_goals rfl
  · rfl

theorem role_eq_store (s : State) : (s.role == .store) = s.straps.storeRole := by
  unfold State.role
  cases s.straps.storeRole <;> rfl

/-- The characters depend on the state only by what they carry (R17, R50, R98). -/
theorem frameData_eq (s : State) (p : Payload) : s.frameData p = match p with
    | .roll => [BitVec.ofBool s.straps.storeRole ++ BitVec.ofBool (s.pool.sync == .synced) ++ 0#5 ++ BitVec.ofBool s.stop.latch]
        ++ be16 s.pool.generation ++ be16 s.pool.digest ++ be16 s.familyDigest
        ++ [conditionCode (s.condition .h0), conditionCode (s.condition .h1)]
    | .imageAsk => []
    | .imagePart k => (s.image.buffer.map fun b => imagePartData b k).getD []
    | .pool f => f.data := by
  cases p with
  | roll => simp only [State.frameData, rollData, role_eq_store, State.synced]; rfl
  | imageAsk | imagePart | pool => rfl

/-- The head of the queue goes onto the line, with the characters of this moment (R13, R17). -/
theorem driveFrame_rest (p : Payload) (s : State) : driveFrame p s = { s with
    image := (takeBuffer p s).image
    fe := { s.fe with txQueue := changeFirst s.fe.eligible (fun e => { e with onLine := true }) s.fe.txQueue }
    transmitter := .frame ((takeBuffer p s).frameChars p) true
    line := s.line.busy } := by
  unfold driveFrame; dsimp only
  rw [takeBuffer_rest]
  rfl

/-- The first eligible frame is marked at its place (R31). -/
theorem driveFrame_place {e : TxEntry} (he : s.txHead = some e) :
    ∃ l r, s.fe.txQueue = l ++ e :: r ∧ (∀ x ∈ l, s.fe.eligible x = false)
      ∧ (driveFrame p s).fe.txQueue = l ++ { e with onLine := true } :: r := by
  obtain ⟨hel, l, r, hq, hl⟩ := find?_split he
  refine ⟨l, r, hq, hl, ?_⟩
  rw [driveFrame_rest]
  dsimp only
  rw [hq]
  exact changeFirst_append _ hl hel

/-- Where no frame is on the line, the one that is driven is the one on the line. -/
theorem driveFrame_lineEntry {e : TxEntry} (he : s.txHead = some e) (hn : s.lineEntry = none) :
    (driveFrame p s).lineEntry = some { e with onLine := true } := by
  obtain ⟨l, r, hq, -, hqt⟩ := driveFrame_place (p := p) he
  have hl : l.find? (·.onLine) = none := by
    rw [State.lineEntry, hq, List.find?_append] at hn
    exact (Option.or_eq_none_iff.1 hn).1
  rw [State.lineEntry, hqt, List.find?_append, hl]
  rfl

theorem frameChars_eq (s : State) (p : Payload) {data header : List Byte} (hd : s.frameData p = data)
    (hh : [p.kind.h0, BitVec.ofBool s.straps.storeRole ++ BitVec.ofBool (s.pool.sync == .synced)
      ++ BitVec.ofBool s.fe.doubtful ++ s.station, BitVec.ofNat 8 data.length] = header) :
    s.frameChars p = ((0xAA#8 :: header).map fun b => ⟨b, true⟩)
      ++ ((data ++ be16 (crc16 (header ++ data))).map fun b => ⟨b, false⟩) := by
  have hheader : s.frameHeader p data = header := by
    rw [← hh, State.frameHeader, h1Byte, role_eq_store]
    rfl
  simp only [State.frameChars, hd, hheader]
  rfl

end
end Sys2Proof.Machine

namespace Sys2Proof.Machine
open State Sys2Proof.Config

/-! ## The takings leave the rest of the receive queue (R34)

A unit of the station does not write the receive queue; so what an item's taking leads to leaves it as it is. -/

theorem rxQueue_base (q : List RxItem) : BaseStable fun t => t.fe.rxQueue = q where
  mapPending := fun _ _ _ h => h
  mapFe := fun g s hg h => by
    show (g s.fe).rxQueue = q
    rw [hg.rest]
    exact h

theorem rxQueue_counting (q : List RxItem) : CountStable fun t => t.fe.rxQueue = q where
  count := fun _ _ _ h => h
  mapTag := fun _ _ h => h

theorem rxQueue_stable (q : List RxItem) : UnitStable fun t => t.fe.rxQueue = q where
  toBaseStable := rxQueue_base q
  toCountStable := rxQueue_counting q
  mapStop := fun _ _ h => h
  lineBusy := fun _ h => h
  setTransmitter := fun _ _ h => h
  head := fun _ =>
    { toBaseStable := rxQueue_base q, toCountStable := rxQueue_counting q, mapStop := fun _ _ h => h
      lineBusy := fun _ h => h, setTransmitter := fun _ _ h => h, mapHead := fun _ _ h => h
      mapSwap := fun _ _ h => h, mapLevels := fun _ _ h => h }
  store :=
    { toBaseStable := rxQueue_base q, toCountStable := rxQueue_counting q, mapStore := fun _ _ h => h
      setReady := fun _ _ h => h, setDone := fun _ h => h, setFault := fun _ h => h }
  mapImage := fun _ _ h => h
  setAck := fun _ h => h

section
variable (s : State)

/-! ### The image unit -/

@[simp] theorem ask_rxQueue : (ask s).fe.rxQueue = s.fe.rxQueue := by
  have hsubmit := (rxQueue_stable s.fe.rxQueue).submit .imageUnit .imageAsk
    (s.mapImage fun u => { u with collection := none, partSinceAsk := false, askTimer := none }) rfl
  unfold ask; dsimp only
  split
  · split
    · rfl
    · split <;> exact hsubmit
  · rfl

@[simp] theorem enterSynced_rxQueue (t : Table) (g : Word16) : (enterSynced t g s).fe.rxQueue = s.fe.rxQueue :=
  (rxQueue_stable s.fe.rxQueue).reconcile _ rfl

@[simp] theorem keepCollection_rxQueue (c : Collection) (digest : Option Word16) :
    (keepCollection c digest s).fe.rxQueue = s.fe.rxQueue := by
  have hrestart (s : State) : (restartAskTimer s).fe.rxQueue = s.fe.rxQueue :=
    (rxQueue_stable s.fe.rxQueue).restartAskTimer _ rfl
  unfold keepCollection completeCollection; dsimp only
  split
  · split <;> simp [hrestart]
  · simp [hrestart]

@[simp] theorem collect_rxQueue (sender : Station) (p : ImagePartHead) :
    (collect sender p s).fe.rxQueue = s.fe.rxQueue := by
  unfold collect; dsimp only
  split
  · split <;> simp
  · split
    · rfl
    · split
      · rfl
      · split
        · split <;> simp
        · rfl

@[simp] theorem takeImagePart_rxQueue (sender : Station) (data : List Byte) :
    (takeImagePart sender data s).fe.rxQueue = s.fe.rxQueue := by
  unfold takeImagePart; dsimp only
  split
  next p hp =>
    have hpart : (watchPart sender p (if p.index = 0 then takePart0 sender p s else s)).fe.rxQueue = s.fe.rxQueue := by
      refine (rxQueue_stable s.fe.rxQueue).watchPart sender p _ ?_
      split
      exacts [(rxQueue_stable s.fe.rxQueue).takePart0 sender p s rfl, rfl]
    generalize watchPart sender p (if p.index = 0 then takePart0 sender p s else s) = w at hpart ⊢
    split
    exacts [(collect_rxQueue w sender p).trans hpart, hpart]
  · rfl

@[simp] theorem imageTake_rxQueue (i : RxItem) : (imageTake i s).fe.rxQueue = s.fe.rxQueue := by
  unfold imageTake
  split
  · rfl
  · split
    exacts [(rxQueue_stable s.fe.rxQueue).takeImageAsk s rfl, takeImagePart_rxQueue s i.sender i.data, rfl]

/-! ### The pool resync (R105) -/

theorem bothSwaps_rxQueue {f : Head → State → State} (hf : ∀ h s, (f h s).fe.rxQueue = s.fe.rxQueue) :
    (bothSwaps f s).fe.rxQueue = s.fe.rxQueue := by
  unfold bothSwaps
  split
  · rw [hf, hf]
  · rfl

@[simp] theorem poolResync_rxQueue : (poolResync s).fe.rxQueue = s.fe.rxQueue := by
  have hpurge (s : State) : (purgePool s).fe.rxQueue = s.fe.rxQueue := (rxQueue_stable s.fe.rxQueue).purgePool s rfl
  have himage (s : State) : (imageResync s).fe.rxQueue = s.fe.rxQueue := (rxQueue_stable s.fe.rxQueue).imageResync s rfl
  have hstore (s : State) : (storeResync s).fe.rxQueue = s.fe.rxQueue :=
    (rxQueue_stable s.fe.rxQueue).store.storeResync s rfl
  have hheads (s : State) : (bothSwaps headResync (bothSwaps swapResync s)).fe.rxQueue = s.fe.rxQueue := by
    rw [bothSwaps_rxQueue _ fun h s => ((rxQueue_stable s.fe.rxQueue).head h).headResync s rfl,
      bothSwaps_rxQueue _ fun h s => ((rxQueue_stable s.fe.rxQueue).head h).swapResync s rfl]
  unfold poolResync; dsimp only
  split <;> simp [hstore, hheads, himage, hpurge]

@[simp] theorem clearDoubtful_rxQueue : (clearDoubtful s).fe.rxQueue = s.fe.rxQueue := by
  unfold clearDoubtful
  split
  · rw [bothSwaps_rxQueue _ fun h s => ((rxQueue_stable s.fe.rxQueue).head h).claimTest s rfl]; rfl
  · rfl

/-- An item that leaves by all of its consumers leaves at the head (R34); the end of DEAF adds none (R37). -/
theorem depart_rxQueue : (depart s).fe.rxQueue = s.fe.rxQueue.dropWhile RxItem.taken := by
  unfold depart deafTest endDeaf; dsimp only
  split
  next hlen => exact ((List.dropWhile_suffix _).eq_of_length hlen).symm
  · split <;> simp

/-! ### The peer table -/

@[simp] theorem livenessNotice_rxQueue : (livenessNotice s).fe.rxQueue = s.fe.rxQueue :=
  (rxQueue_stable s.fe.rxQueue).store.livenessNotice s rfl

@[simp] theorem learnPeer_rxQueue (i : RxItem) : (learnPeer i s).fe.rxQueue = s.fe.rxQueue := by
  unfold learnPeer
  split
  · rfl
  · split
    · rw [livenessNotice_rxQueue]; rfl
    · split <;> rfl

@[simp] theorem refreshPeer_rxQueue (r : PeerRecord) (i : RxItem) : (refreshPeer r i s).fe.rxQueue = s.fe.rxQueue := by
  unfold refreshPeer; dsimp only
  split
  · rw [livenessNotice_rxQueue]; rfl
  · rfl

@[simp] theorem disagreement_rxQueue (i : RxItem) : (disagreement i s).fe.rxQueue = s.fe.rxQueue := by
  have hdivergent : (divergent s).fe.rxQueue = s.fe.rxQueue := by rw [divergent, ask_rxQueue, poolResync_rxQueue]
  unfold disagreement; dsimp only
  split
  · exact hdivergent
  · split
    · split
      · rfl
      · split
        exacts [rfl, hdivergent]
    · rfl

@[simp] theorem compareRoll_rxQueue (i : RxItem) (v : RollValues) : (compareRoll i v s).fe.rxQueue = s.fe.rxQueue := by
  unfold compareRoll rollMatch
  split
  · split <;> simp
  · rfl

@[simp] theorem checkFamily_rxQueue (i : RxItem) (v : RollValues) : (checkFamily i v s).fe.rxQueue = s.fe.rxQueue := by
  unfold checkFamily
  split
  · rfl
  · split
    · rfl
    · split <;> simp

@[simp] theorem checkRole_rxQueue (i : RxItem) : (checkRole i s).fe.rxQueue = s.fe.rxQueue := by
  unfold checkRole
  split <;> simp

@[simp] theorem peerTake_rxQueue (i : RxItem) : (peerTake i s).fe.rxQueue = s.fe.rxQueue := by
  have hroll (s : State) : (takeRoll i s).fe.rxQueue = s.fe.rxQueue := by
    unfold takeRoll
    split <;> simp [changePeer]
  unfold peerTake; dsimp only
  split
  · rfl
  · split <;> split <;> simp [hroll]

/-! ### The pool engine -/

@[simp] theorem applyOutcome_rxQueue (i : RxItem) (f : PoolFrame) (out : PoolOutcome) :
    (applyOutcome i f out s).fe.rxQueue = s.fe.rxQueue := by
  unfold applyOutcome keepRefusal
  split
  · rfl
  · split <;> rfl

@[simp] theorem poolNotices_rxQueue (i : RxItem) (f : PoolFrame) (before : Table) (out : PoolOutcome) :
    (poolNotices i f before out s).fe.rxQueue = s.fe.rxQueue := by
  have hheads (s : State) : (bothSwaps (headNotices i f out) s).fe.rxQueue = s.fe.rxQueue := by
    refine bothSwaps_rxQueue _ fun h s => ?_
    unfold headNotices; dsimp only
    refine ((rxQueue_stable s.fe.rxQueue).head h).swapNotices _ _ _ _ _ _ _ ?_
    split
    exacts [((rxQueue_stable s.fe.rxQueue).head h).headOutcome _ _ _ rfl, rfl]
  have hstore (s : State) : (if s.storeLive then storeNotice f before (i.own == some .storeUnit) i.stamp out s
      else s).fe.rxQueue = s.fe.rxQueue := by
    split
    exacts [(rxQueue_stable s.fe.rxQueue).store.storeNotice _ _ _ _ _ s rfl, rfl]
  have hfamily (t : Table) (s : State) : (familyNotices f t s).fe.rxQueue = s.fe.rxQueue := by
    have hboth (family : BitVec 4) : (bothSwaps (familyNotice family) s).fe.rxQueue = s.fe.rxQueue :=
      bothSwaps_rxQueue _ fun h s => ((rxQueue_stable s.fe.rxQueue).head h).familyNotice _ s rfl
    unfold familyNotices
    split
    · split
      exacts [hboth _, rfl]
    · split
      exacts [hboth _, rfl]
    · rfl
  have hgeneration (s : State) : (generationNotice s).fe.rxQueue = s.fe.rxQueue :=
    (rxQueue_stable s.fe.rxQueue).generationNotice s rfl
  unfold poolNotices; dsimp only
  split
  · rw [hgeneration, hfamily, hstore, hheads]
  · rw [hstore, hheads]

@[simp] theorem poolTake_rxQueue (i : RxItem) : (poolTake i s).fe.rxQueue = s.fe.rxQueue := by
  unfold poolTake; dsimp only
  split
  · split <;> simp
  · rfl

end
end Sys2Proof.Machine

namespace Sys2Proof.Machine
open State Sys2Proof.Config

/-! ## The consumers take every waiting item (R34, R50, R53) -/

/-- The takings that an item still waits for. -/
def RxItem.takings (i : RxItem) : Nat := i.forPeers.toNat + i.forPool.toNat + i.forImage.toNat

/-- The pool engine waits for pool frames alone, and the image unit for the image's frames (R34). -/
def RxItem.Typed (i : RxItem) : Prop :=
  (i.forPool = true → i.kind.isPool = true) ∧ (i.forImage = true → i.kind = .imageAsk ∨ i.kind = .imagePart)

/-- The item with its first waiting consumer served. -/
def RxItem.served (i : RxItem) : RxItem :=
  if i.forPeers then { i with forPeers := false }
  else if i.forPool then { i with forPool := false }
  else { i with forImage := false }

/-- A receive queue whose items have typed consumers, with one waiting at the head. -/
structure Waiting (q : List RxItem) : Prop where
  typed : ∀ i ∈ q, i.Typed
  head : ∀ i, q.head? = some i → i.taken = false

/-- The takings that a queue waits for. -/
def takings (q : List RxItem) : Nat := (q.map RxItem.takings).sum

/-- One command that takes an item (R53). -/
def TakingStep (a b : State) : Prop :=
  ∃ c, c ∈ [Instr.roll, .peerItem, .enter, .claim, .dispatch, .deliver, .mount, .declare, .release, .quarantine, .rack,
    .remove, .imageAsk, .imagePart] ∧ exec c a = .next b

section
variable {i : RxItem} {rest : List RxItem} {s : State}

theorem taken_iff : i.taken = true ↔ i.takings = 0 := by
  unfold RxItem.taken RxItem.takings
  cases i.forPeers <;> cases i.forPool <;> cases i.forImage <;> decide

theorem served_of_forPeers (hp : i.forPeers = true) : i.served = { i with forPeers := false } := if_pos hp

theorem served_of_forPool (hp : i.forPeers = false) (ho : i.forPool = true) : i.served = { i with forPool := false } := by
  rw [RxItem.served, hp, ho]; rfl

theorem served_of_rest (hp : i.forPeers = false) (ho : i.forPool = false) : i.served = { i with forImage := false } := by
  rw [RxItem.served, hp, ho]; rfl

theorem served_takings (h : i.taken = false) : i.served.takings + 1 = i.takings := by
  cases hp : i.forPeers with
  | true => rw [served_of_forPeers hp]; simp only [RxItem.takings, hp, Bool.toNat_false, Bool.toNat_true]; omega
  | false =>
    cases ho : i.forPool with
    | true => rw [served_of_forPool hp ho]; simp only [RxItem.takings, ho, Bool.toNat_false, Bool.toNat_true]; omega
    | false =>
      have hm : i.forImage = true := by simpa [RxItem.taken, hp, ho] using h
      rw [served_of_rest hp ho]; simp only [RxItem.takings, hm, Bool.toNat_false, Bool.toNat_true]

theorem RxItem.Typed.served (h : i.Typed) : i.served.Typed := by
  unfold RxItem.served
  split
  · exact h
  · split
    exacts [⟨nofun, h.2⟩, ⟨h.1, nofun⟩]

/-- No item waits for both the pool engine and the image unit. -/
theorem RxItem.Typed.takings_le (h : i.Typed) : i.takings ≤ 2 := by
  have hboth : ¬(i.forPool = true ∧ i.forImage = true) := fun ⟨hp, hm⟩ => by
    have hk := h.1 hp
    rcases h.2 hm with h | h <;> rw [h] at hk <;> exact absurd hk (by decide)
  unfold RxItem.takings
  have := Bool.toNat_le i.forPeers
  cases hp : i.forPool <;> cases hm : i.forImage
  case true.true => exact absurd ⟨hp, hm⟩ hboth
  all_goals simp only [Bool.toNat_false, Bool.toNat_true]; omega

theorem takings_le (q : List RxItem) (h : ∀ i ∈ q, i.Typed) : takings q ≤ 2 * q.length := by
  induction q with
  | nil => exact Nat.le_refl _
  | cons i is ih =>
    have hi := (h i (by simp)).takings_le
    have his := ih fun j hj => h j (by simp [hj])
    simp only [takings, List.map_cons, List.sum_cons, List.length_cons] at his ⊢
    omega

/-- Items that leave wait for no taking. -/
theorem takings_dropWhile (q : List RxItem) : takings (q.dropWhile RxItem.taken) = takings q := by
  induction q with
  | nil => rfl
  | cons i is ih =>
    rw [List.dropWhile_cons]
    split
    next ht => rw [ih]; simp [takings, taken_iff.1 ht]
    next => rfl

/-- The queue behind the departures has a waiting item at its head. -/
theorem Waiting.of_dropWhile {q : List RxItem} (h : ∀ i ∈ q, i.Typed) : Waiting (q.dropWhile RxItem.taken) where
  typed i hi := h i ((List.dropWhile_suffix _).subset hi)
  head i hi := by
    have hne := List.head?_dropWhile_not RxItem.taken q
    rw [hi] at hne
    simpa using hne

/-! ### The item at the head -/

theorem peersTakeNext_head (admitted : Kind → Bool) (hq : s.fe.rxQueue = i :: rest) (hi : i.forPeers = true)
    (ha : admitted i.kind = true) : peersTakeNext admitted s
      = depart (peerTake i (setRxQueue ({ i with forPeers := false } :: rest) s)) := by
  simp [peersTakeNext, hq, splitNext, hi, ha, peersMayTake]

theorem poolTakeNext_head (admitted : Kind → Bool) (hq : s.fe.rxQueue = i :: rest) (hi : i.forPool = true)
    (ha : admitted i.kind = true) : poolTakeNext admitted s
      = depart (poolTake i (setRxQueue ({ i with forPool := false } :: rest) s)) := by
  simp [poolTakeNext, hq, splitNext, hi, ha, poolMayTake, rollAhead]

theorem imageTakeNext_head (admitted : Kind → Bool) (hq : s.fe.rxQueue = i :: rest) (hi : i.forImage = true)
    (ha : admitted i.kind = true) : imageTakeNext admitted s
      = depart (imageTake i (setRxQueue ({ i with forImage := false } :: rest) s)) := by
  simp [imageTakeNext, hq, splitNext, hi, ha, imageMayTake, rollAhead]

/-- The item at the head is served, and what is taken leaves. -/
theorem drainHead_rxQueue (hq : s.fe.rxQueue = i :: rest) (ht : i.taken = false) :
    (drainHead i s).fe.rxQueue = (i.served :: rest).dropWhile RxItem.taken := by
  unfold drainHead
  cases hp : i.forPeers with
  | true =>
    rw [if_pos rfl, peersTakeNext_head _ hq hp rfl, depart_rxQueue, peerTake_rxQueue, served_of_forPeers hp]; rfl
  | false =>
    rw [if_neg nofun]
    cases ho : i.forPool with
    | true =>
      rw [if_pos rfl, poolTakeNext_head _ hq ho rfl, depart_rxQueue, poolTake_rxQueue, served_of_forPool hp ho]; rfl
    | false =>
      have hm : i.forImage = true := by simpa [RxItem.taken, hp, ho] using ht
      rw [if_neg nofun, imageTakeNext_head _ hq hm rfl, depart_rxQueue, imageTake_rxQueue, served_of_rest hp ho]; rfl

/-- It is taken by a command of its kind (R52, R68, R93). -/
theorem drainHead_step (hl : s.isLive = true) (hq : s.fe.rxQueue = i :: rest) (hty : i.Typed) (ht : i.taken = false) :
    TakingStep s (drainHead i s) := by
  unfold drainHead
  cases hp : i.forPeers with
  | true =>
    simp only [if_true]
    by_cases hk : i.kind = .roll
    · refine ⟨.roll, by simp, ?_⟩
      show execRoll s = _
      rw [execRoll, if_pos hl, peersTakeNext_head _ hq hp (by simp [hk]), peersTakeNext_head _ hq hp rfl]
    · refine ⟨.peerItem, by simp, ?_⟩
      show execPeerItem s = _
      rw [execPeerItem, if_pos hl, peersTakeNext_head _ hq hp (by simp [hk]), peersTakeNext_head _ hq hp rfl]
  | false =>
    cases ho : i.forPool with
    | true =>
      simp only [Bool.false_eq_true, if_true, if_false]
      have hcommand : poolTakeNext (fun _ => true) s = poolCommand i.kind s := by
        rw [poolCommand, if_pos hl, poolTakeNext_head _ hq ho rfl, poolTakeNext_head (· == i.kind) hq ho (beq_self_eq_true _)]
      have hk := hty.1 ho
      rw [hcommand]
      cases hkind : i.kind with
      | imageAsk | imagePart | roll => rw [hkind] at hk; exact absurd hk (by decide)
      | enter => exact ⟨.enter, by simp, rfl⟩
      | claim => exact ⟨.claim, by simp, rfl⟩
      | dispatch => exact ⟨.dispatch, by simp, rfl⟩
      | deliver => exact ⟨.deliver, by simp, rfl⟩
      | mount => exact ⟨.mount, by simp, rfl⟩
      | declare => exact ⟨.declare, by simp, rfl⟩
      | release => exact ⟨.release, by simp, rfl⟩
      | quarantine => exact ⟨.quarantine, by simp, rfl⟩
      | rack => exact ⟨.rack, by simp, rfl⟩
      | remove => exact ⟨.remove, by simp, rfl⟩
    | false =>
      have hm : i.forImage = true := by simpa [RxItem.taken, hp, ho] using ht
      simp only [Bool.false_eq_true, if_false]
      rcases hty.2 hm with hk | hk
      · refine ⟨.imageAsk, by simp, ?_⟩
        show execImageAsk s = _
        rw [execImageAsk, if_pos hl, imageTakeNext_head _ hq hm (by simp [hk]), imageTakeNext_head _ hq hm rfl]
      · refine ⟨.imagePart, by simp, ?_⟩
        show execImagePart s = _
        rw [execImagePart, if_pos hl, imageTakeNext_head _ hq hm (by simp [hk]), imageTakeNext_head _ hq hm rfl]

/-! ### All of them -/

theorem drainHead_isLive (i : RxItem) (s : State) : (drainHead i s).isLive = s.isLive := by
  obtain ⟨-, -, hphase, -⟩ := (cellFrame_stable s).drainHead i s (cellFrame_refl s)
  rw [State.isLive, State.isLive, hphase]

/-- Enough turns empty the queue, each by a command that takes an item. -/
theorem drainFrom_empties (n : Nat) (s : State) (hl : s.isLive = true) (hw : Waiting s.fe.rxQueue)
    (hn : takings s.fe.rxQueue ≤ n) :
    Relation.ReflTransGen TakingStep s (drainFrom n s) ∧ (drainFrom n s).fe.rxQueue = [] := by
  induction n generalizing s with
  | zero =>
    refine ⟨.refl, ?_⟩
    cases hq : s.fe.rxQueue with
    | nil => exact hq
    | cons i is =>
      have hi := served_takings (hw.head i (by rw [hq]; rfl))
      rw [hq] at hn
      simp only [takings, List.map_cons, List.sum_cons] at hn
      omega
  | succ n ih =>
    unfold drainFrom
    split
    next hq => exact ⟨.refl, hq⟩
    next i is hq =>
      have ht := hw.head i (by rw [hq]; rfl)
      have htyped : ∀ j ∈ i.served :: is, j.Typed := by
        intro j hj
        rcases List.mem_cons.1 hj with rfl | hj
        · exact (hw.typed i (by simp [hq])).served
        · exact hw.typed j (by simp [hq, hj])
      have hqueue := drainHead_rxQueue hq ht
      have hfewer : takings (drainHead i s).fe.rxQueue ≤ n := by
        have hi := served_takings ht
        rw [hq] at hn
        rw [hqueue, takings_dropWhile]
        simp only [takings, List.map_cons, List.sum_cons] at hn ⊢
        omega
      obtain ⟨hsteps, hempty⟩ := ih (drainHead i s) (by rw [drainHead_isLive, hl])
        (by rw [hqueue]; exact .of_dropWhile htyped) hfewer
      exact ⟨.head (drainHead_step hl hq (hw.typed i (by simp [hq])) ht) hsteps, hempty⟩

theorem drain_empties (hl : s.isLive = true) (hw : Waiting s.fe.rxQueue) (h4 : s.fe.rxQueue.length ≤ 4) :
    Relation.ReflTransGen TakingStep s (drain s) ∧ (drain s).fe.rxQueue = [] :=
  drainFrom_empties 8 s hl hw (Nat.le_trans (takings_le _ hw.typed) (by omega))

theorem drain_nil (hq : s.fe.rxQueue = []) : drain s = s := by
  unfold drain drainFrom
  rw [hq]

end
end Sys2Proof.Machine

namespace Sys2Proof.Machine
open State Sys2Proof.Config

/-! ### The command (R13) -/

section
variable {s : State} {e : TxEntry}

theorem toBit_eq (h : Head) : h.toBit = (h == .h1) := by cases h <;> rfl

theorem transmitStart_dominant (s : State) : transmitStart true s = lineBusy s := rfl

theorem catchUp_head (he : s.txHead = some e) (hc : s.catchesUp e.payload = true) : catchUp s = drain s := by
  rw [catchUp, he]
  exact if_pos hc

theorem catchUp_nothing (he : s.txHead = some e)
    (h : s.fe.rxQueue = [] ∨ e.payload = .imageAsk ∨ ∃ f, e.payload = .pool f) : catchUp s = s := by
  rw [catchUp, he]
  dsimp only
  split
  next hc =>
    refine drain_nil (h.resolve_right ?_)
    rintro (hp | ⟨f, hp⟩) <;> rw [hp] at hc <;> exact absurd hc nofun
  next => rfl

theorem transmitStart_drives (hm : s.mayTransmit = true) (he : (catchUp s).txHead = some e) :
    transmitStart false s = driveFrame e.payload (catchUp s) := by
  simp only [transmitStart, Bool.false_eq_true, if_false, hm, if_true, he]

theorem transmitStart_none (hm : s.mayTransmit = true) (hn : (catchUp s).txHead = none) :
    transmitStart false s = catchUp s := by
  simp only [transmitStart, Bool.false_eq_true, if_false, hm, if_true, hn]

theorem lineEntry_of_mayTransmit (hm : s.mayTransmit = true) : s.lineEntry = none := by
  simp only [State.mayTransmit, Bool.and_eq_true, Option.isNone_iff_eq_none] at hm
  exact hm.1.1.2

end

/-- Settles O15: the catch-up takes every item, and then the head is driven with what the station holds. -/
theorem transmitStartDrivesHead : Obligations.TransmitStartDrivesHead := by
  delta Obligations.TransmitStartDrivesHead
  intro condition stateCode record part cond carries driven
  have hcondition : ∀ c, conditionCode c = condition c := fun c => by
    cases c with
    | none => rfl
    | some c => cases c <;> rfl
  have hstate : ∀ st, PoolState.code st = stateCode st := fun st => by cases st <;> rfl
  have hrecord : ∀ e, Entry.bytes e = record e := fun e => by
    rw [Entry.bytes, hstate]
    cases hh : e.holder with
    | none =>
      cases hs : e.slot <;> simp only [record, hh, hs] <;> rfl
    | some x =>
      cases hs : e.slot <;> simp only [record, hh, hs, holderByte, toBit_eq] <;> rfl
  have hpart : ∀ b k, imagePartData b k = part b k := fun b k => by
    rw [imagePartData]
    rw [take_entriesInPart, funext hrecord]
    rfl
  have hcarries : ∀ s p, carries s p ((takeBuffer p s).frameData p) (takeBuffer p s).image := fun s p => by
    rw [frameData_eq]
    cases p with
    | pool f => exact ⟨rfl, rfl⟩
    | imageAsk => exact ⟨rfl, rfl⟩
    | roll =>
      refine ⟨?_, rfl⟩
      rw [takeBuffer_other (by simp), hcondition, hcondition]
      rfl
    | imagePart k =>
      refine ⟨fun hk hr => ?_, fun h => ?_⟩
      · subst hk
        have himage := takeBuffer_queued hr
        refine ⟨_, himage, rfl, rfl, sortBy_perm _ _, sortBy_pairwise _ _, ?_⟩
        rw [himage]
        exact hpart _ 0
      · rw [takeBuffer_other (by simpa using h)]
        refine ⟨rfl, fun b hb => ?_⟩
        rw [hb]
        exact hpart b k
  have hdriven : ∀ s e, s.txHead = some e → driven s e (driveFrame e.payload s) := fun s e he => by
    have hcell := (cellFrame_stable s).driveFrame e.payload s (cellFrame_refl s)
    have hplace := driveFrame_place (p := e.payload) he
    rw [driveFrame_rest] at hcell hplace ⊢
    refine ⟨(takeBuffer e.payload s).frameData e.payload, _, hcarries s e.payload, rfl, ?_, rfl, hplace, rfl, hcell, rfl,
      rfl, rfl⟩
    refine congrArg (Transmitter.frame · true) (frameChars_eq (takeBuffer e.payload s) e.payload rfl ?_)
    rw [takeBuffer_rest]
    rfl
  refine ⟨fun e s hm he hq => ?_, fun e s hl hm he hp h4 htyped hhead => ?_, fun s => ⟨_, rfl, rfl, rfl, rfl, rfl, rfl⟩, by decide⟩
  · have hcatch : catchUp s = s := catchUp_nothing he hq
    have hstep : transmitStart false s = driveFrame e.payload s := by
      rw [transmitStart_drives hm (hcatch.symm ▸ he), hcatch]
    exact ⟨_, congrArg Host.Outcome.next hstep, hdriven s e he, driveFrame_lineEntry he (lineEntry_of_mayTransmit hm)⟩
  · have hcatch : catchUp s = drain s := catchUp_head he (by
      rcases hp with hp | ⟨k, hp, hk⟩
      · rw [hp]; rfl
      · rw [hp]; simpa [State.catchesUp] using hk)
    have hw : Waiting s.fe.rxQueue := ⟨htyped, fun i hi => by
      rcases hhead i hi with h | h | h <;> simp [RxItem.taken, h]⟩
    obtain ⟨hsteps, hempty⟩ := drain_empties hl hw h4
    refine ⟨drain s, _, hsteps, hempty, rfl, fun hn => ?_, fun e' he' => ?_⟩
    · rw [← hcatch] at hn ⊢
      exact transmitStart_none hm hn
    · rw [← hcatch] at he' ⊢
      rw [transmitStart_drives hm he']
      exact hdriven _ e' he'

end Sys2Proof.Machine

namespace Sys2Proof.Machine
open State Sys2Proof.Config

/-! ## The bounds of the queues and the digest (R31, R32, R34, R66) -/

/-- `P` survives the updates of chapters 1 to 10, speaks of the frame engine and the pool engine alone, and holds of a part
just reset: then it survives every command. -/
structure StepStable (P : State → Prop) : Prop extends CellStable P where
  congr : ∀ {s t}, P s → t.fe = s.fe → t.pool = s.pool → P t
  reset : ∀ s, P (resetPart s)

theorem queuesBounded_step : StepStable State.queuesBounded where
  toCellStable := queuesBounded_stable
  congr := fun h hfe _ => by rwa [State.queuesBounded, hfe]
  reset := fun _ => ⟨Nat.zero_le _, Nat.zero_le _⟩

theorem digestTrue_step : StepStable State.digestTrue where
  toCellStable := digestTrue_stable
  congr := fun h _ hpool => by rwa [State.digestTrue, hpool]
  reset := fun _ => show (0xFFFF : Word16) = tableDigest [] by decide

section
variable {P : State → Prop}

/-! ### The life store (chapter 11) -/

theorem StepStable.mapLife (hP : StepStable P) (f : LifeStore → LifeStore) (s : State) (hs : P s) : P (s.mapLife f) :=
  hP.congr hs rfl rfl

theorem StepStable.mapService (hP : StepStable P) (f : ServicePort → ServicePort) (s : State) (hs : P s) :
    P (s.mapService f) :=
  hP.congr hs rfl rfl

theorem StepStable.tellRead (hP : StepStable P) (r : ServiceRead) (s : State) (hs : P s) : P (tellRead r s) := by
  rw [tellRead_eq]
  exact hP.setLevels _ s hs

theorem StepStable.serveWaiting (hP : StepStable P) (s : State) (hs : P s) : P (serveWaiting s) := by
  unfold Machine.serveWaiting
  split
  exacts [hP.mapService _ _ (hP.mapService _ _ (hP.tellRead _ s hs)), hs]

theorem StepStable.clearBuffer (hP : StepStable P) (s : State) (hs : P s) : P (clearBuffer s) := hP.mapLife _ s hs

theorem StepStable.setEngine (hP : StepStable P) (e : Engine) (s : State) (hs : P s) : P (setEngine e s) :=
  hP.mapLife _ s hs

theorem StepStable.putPage (hP : StepStable P) (page : Nat) (content : List Byte) (s : State) (hs : P s) :
    P (putPage page content s) :=
  hP.mapLife _ s hs

theorem StepStable.endCommit (hP : StepStable P) (s : State) (hs : P s) : P (endCommit s) :=
  hP.serveWaiting _ (hP.setEngine _ _ (hP.clearBuffer s hs))

theorem StepStable.enterStoreFault (hP : StepStable P) (s : State) (hs : P s) : P (enterStoreFault s) :=
  hP.endCommit _ (hP.mapLife _ s hs)

theorem StepStable.allocateFor (hP : StepStable P) (id : Nat) (s : State) (hs : P s) : P (allocateFor id s) := by
  unfold Machine.allocateFor
  split
  exacts [hP.setEngine _ s hs, hP.endCommit s hs]

theorem StepStable.badPage (hP : StepStable P) (id page : Nat) (s : State) (hs : P s) : P (badPage id page s) := by
  have hcount := hP.count (fun c => { c with badPages := satInc c.badPages }) _
    (hP.mapLife (fun l => { l with badPages := l.badPages ++ [page] }) s hs)
  unfold Machine.badPage; dsimp only
  split
  exacts [hP.enterStoreFault _ hcount, hP.allocateFor _ _ hcount]

theorem StepStable.programPage (hP : StepStable P) (id page : Nat) (s : State) (hs : P s) : P (programPage id page s) := by
  unfold Machine.programPage
  split
  exacts [hP.enterStoreFault s hs, hP.setEngine _ _ (hP.mapLife _ s hs)]

theorem StepStable.finishAnswer (hP : StepStable P) (bytes : List Byte) (s : State) (hs : P s) :
    P (finishAnswer bytes s) :=
  hP.congr hs rfl rfl

theorem StepStable.endConfig (hP : StepStable P) (status : Byte) (s : State) (hs : P s) : P (endConfig status s) :=
  hP.finishAnswer _ _ (hP.setEngine _ _ (hP.clearBuffer s hs))

theorem StepStable.nextErase (hP : StepStable P) (page failed : Nat) (s : State) (hs : P s) : P (nextErase page failed s) := by
  unfold Machine.nextErase
  split
  exacts [hP.setEngine _ s hs, hP.finishAnswer _ _ (hP.setEngine _ s hs)]

theorem StepStable.commitStart (hP : StepStable P) (s : State) (hs : P s) : P (commitStart s) := by
  unfold Machine.commitStart
  split
  · split
    exacts [hP.allocateFor _ _ (hP.mapLife _ s hs), hs]
  · exact hs

theorem StepStable.eraseDone (hP : StepStable P) (content : List Byte) (s : State) (hs : P s) : P (eraseDone content s) := by
  unfold Machine.eraseDone
  split
  · split
    exacts [hP.programPage _ _ _ (hP.putPage _ _ s hs), hP.badPage _ _ _ (hP.putPage _ _ s hs)]
  · split
    exacts [hP.setEngine _ _ (hP.putPage _ _ s hs), hP.endConfig _ _ (hP.putPage _ _ s hs)]
  · split <;> exact hP.nextErase _ _ _ (hP.putPage _ _ s hs)
  all_goals exact hs

theorem StepStable.programDone (hP : StepStable P) (content : List Byte) (s : State) (hs : P s) :
    P (programDone content s) := by
  unfold Machine.programDone; dsimp only
  split
  · have hput := fun page c => hP.mapLife (fun l => { l with lastWritten := page }) _ (hP.putPage page c s hs)
    split
    · exact hP.setEngine _ _ (hput _ _)
    · split
      exacts [hP.setEngine _ _ (hput _ _), hP.badPage _ _ _ (hput _ _)]
  · have hput := fun page => hP.putPage page content s hs
    split
    · exact hP.endConfig _ _ (hput _)
    · split
      exacts [hP.setEngine _ _ (hput _), hP.endConfig _ _ (hput _)]
  all_goals exact hs

theorem StepStable.markDone (hP : StepStable P) (mark : Byte) (s : State) (hs : P s) : P (markDone mark s) := by
  unfold Machine.markDone; dsimp only
  split
  · split
    exacts [hP.endCommit _ (hP.mapLife _ _ (hP.mapLife _ s hs)), hP.badPage _ _ _ (hP.mapLife _ s hs)]
  all_goals exact hs

/-! ### The service port (12.6) -/

theorem StepStable.engineReads (hP : StepStable P) (reads : List (List Byte)) (s : State) (hs : P s) :
    P (engineReads reads s) := by
  refine foldl_stable _ (fun content t ht => ?_) reads s hs
  unfold Machine.engineRead
  split
  exacts [hP.eraseDone _ t ht, hP.eraseDone _ t ht, hP.programDone _ t ht, ht, ht, ht, ht]

theorem StepStable.runRead (hP : StepStable P) (r : ServiceRead) (s : State) (hs : P s) : P (runRead r s) := by
  unfold Machine.runRead
  split
  exacts [hP.mapService _ s hs, hP.mapService _ _ (hP.tellRead r s hs)]

theorem StepStable.transactionEnd (hP : StepStable P) (s : State) (hs : P s) : P (transactionEnd s) :=
  hP.congr hs rfl rfl

theorem StepStable.answerNow (hP : StepStable P) (bytes : List Byte) (s : State) (hs : P s) : P (answerNow bytes s) :=
  hP.congr hs rfl rfl

theorem StepStable.beginTransaction (hP : StepStable P) (s : State) (hs : P s) : P (beginTransaction s) := by
  refine hP.mapService _ _ ?_
  split
  exacts [hP.transactionEnd s hs, hs]

/-- A command of the service port keeps what its run keeps (R201). -/
theorem StepStable.command (hP : StepStable P) {allowed : State → Bool} {run : State → State}
    (hrun : ∀ s, P s → P (run s)) (s : State) (hs : P s) : P (command allowed run s) := by
  have hbegin := hP.beginTransaction s hs
  unfold Machine.command; dsimp only
  split
  · exact hs
  · split
    · exact hP.answerNow _ _ hbegin
    · split
      exacts [hrun _ hbegin, hP.answerNow _ _ hbegin]

theorem StepStable.loadCommand (hP : StepStable P) (count : Byte) (bytes : List Byte) (s : State) (hs : P s) :
    P (loadCommand count bytes s) := by
  refine hP.command (fun s hs => ?_) s hs
  split
  exacts [hs, hP.answerNow _ _ (hP.mapLife _ s hs)]

theorem StepStable.clearCommand (hP : StepStable P) (s : State) (hs : P s) : P (clearCommand s) :=
  hP.command (fun s hs => hP.answerNow _ _ (hP.clearBuffer s hs)) s hs

theorem StepStable.commitConfig (hP : StepStable P) (page : Byte) (reads : List (List Byte)) (s : State) (hs : P s) :
    P (commitConfig page reads s) :=
  hP.command (fun s hs => hP.engineReads _ _ (hP.setEngine _ s hs)) s hs

theorem StepStable.eraseData (hP : StepStable P) (reads : List (List Byte)) (s : State) (hs : P s) :
    P (eraseData reads s) :=
  hP.command (fun s hs => hP.engineReads _ _ (hP.setEngine _ s hs)) s hs

/-! ### Start-up (12.1 to 12.3) -/

theorem StepStable.scan (hP : StepStable P) (s : State) (hs : P s) : P (scan s) := hP.congr hs rfl rfl

theorem StepStable.restore (hP : StepStable P) (s : State) (hs : P s) : P (restore s) := by
  have hhead (h : Head) (s : State) (hs : P s) : P (restoreHead h s) := by
    unfold restoreHead; dsimp only
    split
    exacts [hP.mapLife _ _ (hP.mapHead _ _ s hs), hP.mapHead _ _ s hs]
  unfold Machine.restore
  split
  exacts [hs, hhead .h1 _ (hhead .h0 s hs)]

theorem StepStable.goLive (hP : StepStable P) (levels : InputLevels) (s : State) (hs : P s) : P (goLive levels s) :=
  hP.congr hs rfl rfl

theorem StepStable.runStartUp (hP : StepStable P) (c : Configuration) (levels : InputLevels) (s : State) (hs : P s) :
    P (runStartUp c levels s) := by
  have hrestored : P (Machine.restore (Machine.scan { s with
      constants := c.constants, families := c.families, familyDigest := c.familyDigest })) :=
    hP.restore _ (hP.scan _ (hP.congr hs rfl rfl))
  unfold Machine.runStartUp; dsimp only
  split
  exacts [hP.goLive _ _ (hP.enterLineFault _ hrestored), hP.congr hrestored rfl rfl]

theorem StepStable.startUp (hP : StepStable P) (straps : Straps) (levels : InputLevels) (s : State) (hs : P s) :
    P (startUp straps levels s) := by
  have hread : P { s with straps := straps } := hP.congr hs rfl rfl
  unfold Machine.startUp
  split
  · generalize ({ s with straps := straps } : State) = u at hread ⊢
    dsimp only
    split
    exacts [hP.congr hread rfl rfl, hP.congr hread rfl rfl, hP.runStartUp _ _ _ hread]
  · exact hs

theorem StepStable.loopbackSelfTestEnd (hP : StepStable P) (bitTimes : Nat) (levels : InputLevels) (s : State) (hs : P s) :
    P (loopbackSelfTestEnd bitTimes levels s) := by
  unfold Machine.loopbackSelfTestEnd
  split
  · refine hP.goLive _ _ ?_
    split
    exacts [hP.submitRoll _ (hP.mapImage _ _ (hP.congr hs rfl rfl)), hP.enterLineFault s hs]
  · exact hs

/-! ### Every command -/

theorem keeps_if {b : Bool} {s t : State} (ht : P t) (hs : P s) : P (if b then t else s) := by
  cases b
  exacts [hs, ht]

/-- Every command answers a next state of which `P` still holds. -/
theorem StepStable.exec (hP : StepStable P) (c : Instr) (s : State) (hs : P s) : ∃ t, exec c s = .next t ∧ P t := by
  have hhead (h : Head) : HeadStable h P := hP.unit.head h
  have hstore : StoreStable P := hP.unit.store
  cases c
  -- Reset and start-up (chapter 12).
  case reset => exact ⟨_, rfl, hP.reset s⟩
  case startUp straps levels => exact ⟨_, rfl, hP.startUp straps levels s hs⟩
  case loopbackSelfTestEnd bitTimes levels => exact ⟨_, rfl, hP.loopbackSelfTestEnd bitTimes levels s hs⟩
  -- The cell line (chapters 1 to 3).
  case syncCharacter start measure => exact ⟨_, rfl, hP.syncCharacter start measure s hs⟩
  case syncTimeout => exact ⟨_, rfl, hP.syncTimeout s hs⟩
  case framePathCharacter c => exact ⟨_, rfl, hP.framePathCharacter c s hs⟩
  case dominantRunEnd r => exact ⟨_, rfl, hP.dominantRunEnd r s hs⟩
  case lineFree => exact ⟨_, rfl, hP.lineFree s hs⟩
  case vetoSlotEnd bits going => exact ⟨_, rfl, hP.vetoSlotEnd bits going s hs⟩
  case watchExpectedEnd => exact ⟨_, rfl, hP.watchExpectedEnd s hs⟩
  case transmitStart seen => exact ⟨_, rfl, hP.transmitStart seen s hs⟩
  case transmitOvertaken => exact ⟨_, rfl, hP.transmitOvertaken s hs⟩
  case readbackMismatch place sent => exact ⟨_, rfl, hP.readbackMismatch place sent s hs⟩
  case heldRequestAdmit => exact ⟨_, rfl, hP.heldRequestAdmit s hs⟩
  case stopCallSendComplete => exact ⟨_, rfl, hP.unit.stopCallSendComplete s hs⟩
  case stopCharacter c => exact ⟨_, rfl, hP.unit.stopCharacter c s hs⟩
  case rollTimerExpire => exact ⟨_, rfl, hP.rollTimerExpire s hs⟩
  -- The consumers of the receive queue (chapters 4 to 6).
  case roll | peerItem => exact ⟨_, rfl, keeps_if (hP.peersTakeNext _ s hs) hs⟩
  case peerSilenceTimeout station => exact ⟨_, rfl, keeps_if (hP.peerSilenceTimeout station s hs) hs⟩
  case disagreementRecordExpire => exact ⟨_, rfl, keeps_if (hP.disagreementExpire s hs) hs⟩
  case enter | claim | dispatch | deliver | mount | declare | release | quarantine | rack | remove =>
    exact ⟨_, rfl, hP.poolCommand _ s hs⟩
  case imageAsk | imagePart => exact ⟨_, rfl, keeps_if (hP.imageTakeNext _ s hs) hs⟩
  case askTimerExpire => exact ⟨_, rfl, keeps_if (hP.askTimerExpire s hs) hs⟩
  case imageWatchExpire => exact ⟨_, rfl, keeps_if (hP.unit.imageWatchExpire s hs) hs⟩
  -- The heads, the swap units and the store unit (chapters 7 to 10).
  case dressStroke h fell => exact ⟨_, rfl, keeps_if ((hhead h).dressStroke fell s hs) hs⟩
  case grindRise h => exact ⟨_, rfl, keeps_if ((hhead h).grindRise s hs) hs⟩
  case grindFall h => exact ⟨_, rfl, keeps_if ((hhead h).grindFall s hs) hs⟩
  case ackEvent fell => exact ⟨_, rfl, keeps_if (hP.unit.ackEvent fell s hs) hs⟩
  case contactRise h => exact ⟨_, rfl, keeps_if ((hhead h).contactRise s hs) hs⟩
  case contactFall h => exact ⟨_, rfl, keeps_if ((hhead h).contactFall s hs) hs⟩
  case maximumContactTimerExpire h => exact ⟨_, rfl, keeps_if ((hhead h).maxContactExpire s hs) hs⟩
  case contactTimeoutExpire h => exact ⟨_, rfl, keeps_if ((hhead h).contactTimeoutExpire s hs) hs⟩
  case loadPulse h => exact ⟨_, rfl, keeps_if ((hhead h).loadPulse s hs) hs⟩
  case loadGateEnd h => exact ⟨_, rfl, keeps_if ((hhead h).loadGateEnd s hs) hs⟩
  case breakageReportRetry h => exact ⟨_, rfl, keeps_if ((hhead h).reportRetry s hs) hs⟩
  case reconciliationDeclareRetry h => exact ⟨_, rfl, keeps_if ((hhead h).declareRetry s hs) hs⟩
  case claimLifetimeExpire h => exact ⟨_, rfl, keeps_if ((hhead h).claimLifetimeExpire s hs) hs⟩
  case backoffExpire h => exact ⟨_, rfl, keeps_if ((hhead h).backoffExpire s hs) hs⟩
  case changePosRise h => exact ⟨_, rfl, keeps_if ((hhead h).changePosRise s hs) hs⟩
  case confirmWindowExpire h => exact ⟨_, rfl, keeps_if ((hhead h).confirmWindowExpire s hs) hs⟩
  case swapFrameRetry h => exact ⟨_, rfl, keeps_if ((hhead h).swapFrameRetry s hs) hs⟩
  case swapTagRecord changePos => exact ⟨_, rfl, keeps_if (hP.unit.swapTagRecord changePos s hs) hs⟩
  case tagByte b framingError => exact ⟨_, rfl, keeps_if (hP.unit.tagByte b framingError s hs) hs⟩
  case tagGapTimeout => exact ⟨_, rfl, keeps_if (hP.unit.tagGapTimeout s hs) hs⟩
  case storeTagRecord => exact ⟨_, rfl, keeps_if (hstore.storeTagRecord s hs) hs⟩
  case jobStart ready => exact ⟨_, rfl, keeps_if (hstore.jobStart ready s hs) hs⟩
  case jobStrobeEnd ready => exact ⟨_, rfl, keeps_if (hstore.jobStrobeEnd ready s hs) hs⟩
  case gantryReadyRise => exact ⟨_, rfl, keeps_if (hstore.gantryReadyRise s hs) hs⟩
  case gantryDone ready => exact ⟨_, rfl, keeps_if (hstore.gantryDone ready s hs) hs⟩
  case gantryFault ready => exact ⟨_, rfl, keeps_if (hstore.gantryFault ready s hs) hs⟩
  case claimWatchExpire serial => exact ⟨_, rfl, keeps_if (hstore.claimWatchExpire serial s hs) hs⟩
  case storeFrameRetry => exact ⟨_, rfl, keeps_if (hstore.storeFrameRetry s hs) hs⟩
  -- The life store and the service port (chapters 11 and 12).
  case commitStart => exact ⟨_, rfl, keeps_if (hP.commitStart s hs) hs⟩
  case pageEraseDone content => exact ⟨_, rfl, hP.eraseDone content s hs⟩
  case pageProgramDone content => exact ⟨_, rfl, hP.programDone content s hs⟩
  case commitMarkDone mark => exact ⟨_, rfl, hP.markDone mark s hs⟩
  case load count bytes => exact ⟨_, rfl, hP.loadCommand count bytes s hs⟩
  case clear => exact ⟨_, rfl, hP.clearCommand s hs⟩
  case commitConfig page reads => exact ⟨_, rfl, hP.commitConfig page reads s hs⟩
  case eraseData reads => exact ⟨_, rfl, hP.eraseData reads s hs⟩
  case readPage | readHead | readPool | readPeer | readCounters => exact ⟨_, rfl, hP.command (hP.runRead _) s hs⟩
  case undefinedCommand => exact ⟨_, rfl, hP.command (fun _ h => h) s hs⟩
  case transactionEnd => exact ⟨_, rfl, hP.transactionEnd s hs⟩

/-- A tick passes, or the front command acts on the queue's rest. -/
theorem StepStable.step (hP : StepStable P) {s t : State} (hs : P s) (h : step s = .next t) : P t := by
  unfold Machine.step at h
  split at h
  · obtain rfl := Host.Outcome.next.inj h
    unfold State.tick
    split
    all_goals exact hP.congr hs rfl rfl
  next c cs _ =>
    obtain ⟨u, hu, hPu⟩ := hP.exec c { s with pending := cs } (hP.congr hs rfl rfl)
    obtain rfl := Host.Outcome.next.inj (hu.symm.trans h)
    exact hPu

end

/-- Settles O59: both invariants survive every command, and the tick. -/
theorem stepKeepsQueuesAndDigest : Obligations.StepKeepsQueuesAndDigest :=
  ⟨fun _ _ hs h => queuesBounded_step.step hs h, fun _ _ hs h => digestTrue_step.step hs h⟩

end Sys2Proof.Machine

namespace Sys2Proof.Machine
open State Sys2Proof.Config

/-! ## The check point (R18, R22, R23, R24) -/

theorem checkPoint_line (s : State) : (checkPoint s).line
    = { s.line with rx := .slot, free := false, freeTimer := 0, vetoDriving := s.fe.vetoes } := by
  unfold checkPoint FrameEngine.vetoes; dsimp only
  generalize s.fe.rxFrame.bad = bad
  generalize (!s.fe.deaf && (bad || decide (rxCapacity ≤ s.fe.rxQueue.length))) = veto
  split
  all_goals cases bad <;> cases veto <;> rfl

theorem checkPoint_counters (s : State) : (checkPoint s).counters = { s.counters with
    checkErrors := if s.fe.rxFrame.bad then satInc s.counters.checkErrors else s.counters.checkErrors
    vetoesSent := if s.fe.vetoes then satInc s.counters.vetoesSent else s.counters.vetoesSent } := by
  unfold checkPoint FrameEngine.vetoes; dsimp only
  generalize s.fe.rxFrame.bad = bad
  generalize (!s.fe.deaf && (bad || decide (rxCapacity ≤ s.fe.rxQueue.length))) = veto
  split
  all_goals cases bad <;> cases veto <;> rfl

/-- The check characters are compared with the running check (R18). -/
theorem bad_iff {f : RxFrame} {a b : Byte} (h : f.check = [a, b]) :
    f.bad = true ↔ f.badMark = true ∨ f.crc ≠ a ++ b := by
  simp [RxFrame.bad, RxFrame.checkFits, h, of16]

/-- The frame engine at its check point: the second check character is taken. -/
def atCheckPoint (ch : Character) (s : State) : State :=
  mapFrame (fun f => { f with check := f.check ++ [ch.data], badMark := f.badMark || ch.mark })
    (noteNoise ch (countNoise ch (lineBusy s)))

theorem framePathCharacter_checkPoint {c : CharSamples} {ch : Character} {a : Byte} {s : State} (hrx : s.line.rx = .frame)
    (hc : decideCharacter c = some ch) (hf : ch.framing = false) (hr : s.fe.rxState = .check)
    (hk : s.fe.rxFrame.check = [a]) : framePathCharacter c s = checkPoint (atCheckPoint ch s) := by
  have hfe : (countNoise ch (lineBusy s)).fe = s.fe := by rw [countNoise_eq]; rfl
  rw [framePathCharacter_frame hrx hc, takeCharacter_check hf (by rw [hfe]; exact hr)]
  refine if_pos ?_
  show 2 ≤ ((countNoise ch (lineBusy s)).fe.rxFrame.check ++ [ch.data]).length
  rw [hfe, hk]
  exact Nat.le_refl 2

/-- Settles O12: the second check character takes the frame engine to the check point. -/
theorem secondCheckCharacterOpensSlot : Obligations.SecondCheckCharacterOpensSlot := by
  intro c ch a s hrx hc hf hr hk
  have hstep := framePathCharacter_checkPoint hrx hc hf hr hk
  have hcell := (cellFrame_stable s).framePathCharacter c s (cellFrame_refl s)
  rw [hstep] at hcell
  have hu : atCheckPoint ch s = { s with
      line := s.line.busy
      fe := { s.fe with rxFrame := (atCheckPoint ch s).fe.rxFrame }
      counters := { s.counters with noise := (atCheckPoint ch s).counters.noise } } := by
    unfold atCheckPoint
    rw [countNoise_eq]
    rfl
  have hframe : (atCheckPoint ch s).fe.rxFrame.check = [a, ch.data]
      ∧ (atCheckPoint ch s).fe.rxFrame.badMark = (s.fe.rxFrame.badMark || ch.mark)
      ∧ (atCheckPoint ch s).fe.rxFrame.crc = s.fe.rxFrame.crc := by
    unfold atCheckPoint
    rw [countNoise_eq]
    exact ⟨congrArg (· ++ [ch.data]) hk, rfl, rfl⟩
  obtain ⟨hcheck, hmark, hcrc⟩ := hframe
  have hbad := bad_iff hcheck
  rw [hmark, hcrc, Bool.or_eq_true, or_assoc] at hbad
  have hveto : (atCheckPoint ch s).fe.vetoes
      = (!s.fe.deaf && ((atCheckPoint ch s).fe.rxFrame.bad || decide (4 ≤ s.fe.rxQueue.length))) := by
    rw [FrameEngine.vetoes, hu]; rfl
  have hkept := checkPoint_kept (atCheckPoint ch s)
  refine ⟨_, _, congrArg Host.Outcome.next hstep, hbad, ?_⟩
  rw [← hveto, checkPoint_fe, checkPoint_line, checkPoint_counters]
  refine ⟨rfl, rfl, rfl, ?_, ?_, ?_, ?_, ?_, hkept.pool.trans ?_, hcell⟩
  all_goals rw [hu]

end Sys2Proof.Machine

namespace Sys2Proof.Machine
open State Sys2Proof.Config

/-! ## A pool resync, unit by unit (R105, R108, R148, R166, R179, R180) -/

section
variable {h : Head} {s t u v : State}

/-! ### What each unit's part leaves -/

theorem swapResync_rest (h : Head) (s : State) :
    swapResync h s = { s with swaps := s.swaps.set h ((swapResync h s).swap h) } := by
  unfold swapResync enterBackoff; dsimp only
  cases h <;> split <;> rfl

theorem headResync_rest (h : Head) (s : State) :
    headResync h s = { s with heads := s.heads.set h ((headResync h s).head h) } := by
  cases h <;> rfl

theorem storeResync_rest (s : State) : storeResync s = { s with
    store := (storeResync s).store, life := { s.life with pending := s.life.pending.filter fun id => id < 16 } } := by
  unfold storeResync; dsimp only
  split
  · rfl
  · split <;> rfl

/-- The swap unit's part looks at the unit, its claim family, the clock and the constants alone. -/
theorem swapResynced.congr (x : swapResynced h u v) (hswap : s.swap h = u.swap h)
    (hfamily : s.claimFamily h = u.claimFamily h) (htime : s.timeBase = u.timeBase) (hconstants : s.constants = u.constants)
    (ht : t.swap h = v.swap h) : swapResynced h s t := by
  unfold swapResynced at *
  rwa [hswap, hfamily, htime, hconstants, ht]

theorem headResynced.congr (x : headResynced h u v) (hhead : s.head h = u.head h) (ht : t.head h = v.head h) :
    headResynced h s t := by
  unfold headResynced at *
  rwa [hhead, ht]

theorem storeResynced.congr (x : storeResynced u v) (hstore : s.store = u.store) (hlife : s.life = u.life) :
    storeResynced s v := by
  unfold storeResynced at *
  rwa [hstore, hlife]

/-! ### The heads of a live grinder -/

/-- Both swap units and both head units are told. -/
def headsResync (s : State) : State := bothSwaps headResync (bothSwaps swapResync s)

theorem headsResync_rest (s : State) :
    headsResync s = { s with swaps := (headsResync s).swaps, heads := (headsResync s).heads } := by
  unfold headsResync bothSwaps
  cases hl : s.headsLive with
  | false => simp only [hl, Bool.false_eq_true, if_false]
  | true =>
    have hl' : (swapResync .h1 (swapResync .h0 s)).headsLive = true := by
      rw [swapResync_rest, swapResync_rest .h0]; exact hl
    simp only [hl', if_true]
    rw [headResync_rest .h1, headResync_rest .h0, swapResync_rest .h1, swapResync_rest .h0]

theorem headsResync_units (hl : s.headsLive = true) (h : Head) :
    swapResynced h s (headsResync s) ∧ headResynced h s (headsResync s) := by
  have hl' : (swapResync .h1 (swapResync .h0 s)).headsLive = true := by
    rw [swapResync_rest, swapResync_rest .h0]; exact hl
  have hunits : headsResync s = headResync .h1 (headResync .h0 (swapResync .h1 (swapResync .h0 s))) := by
    simp only [headsResync, bothSwaps, hl, hl', if_true]
  have h0 := swapResync_rest .h0 s
  have h1 := swapResync_rest .h1 (swapResync .h0 s)
  rw [hunits]
  cases h with
  | h0 =>
    refine ⟨(swapResynced_swapResync .h0 s).congr rfl rfl rfl rfl ?_,
      (headResynced_headResync .h0 (swapResync .h1 (swapResync .h0 s))).congr ?_ rfl⟩
    · show (swapResync .h1 (swapResync .h0 s)).swap .h0 = _
      rw [h1]; rfl
    · rw [h1, h0]; rfl
  | h1 =>
    refine ⟨(swapResynced_swapResync .h1 (swapResync .h0 s)).congr ?_ ?_ ?_ ?_ rfl,
      (headResynced_headResync .h1 (headResync .h0 (swapResync .h1 (swapResync .h0 s)))).congr ?_ rfl⟩
    · rw [h0]; rfl
    · rw [h0]; rfl
    · rw [h0]
    · rw [h0]
    · rw [headResync_rest, h1, h0]; rfl

/-! ### The whole resync -/

/-- The pool engine, the transmit queue and the peer table are told. -/
def poolPurged (s : State) : State :=
  (purgePool ((s.mapPool fun p => { p with table := [], generation := 0, digest := 0xFFFF, sync := .unsynced }).mapFe
    fun f => { f with doubtful := false })).mapPeers fun p => { p with disagreement := none }

/-- And the image unit, before the units of the station's role. -/
def sharedResync (s : State) : State := imageResync (poolPurged s)

theorem poolPurged_rest (s : State) : poolPurged s = { s with
    pool := { s.pool with table := [], generation := 0, digest := 0xFFFF, sync := .unsynced }
    peers := { s.peers with disagreement := none }
    fe := { s.fe with doubtful := false, txQueue := (poolPurged s).fe.txQueue, held := (poolPurged s).fe.held
                      admissionsDue := (poolPurged s).fe.admissionsDue } } := rfl

/-- Frames are withdrawn in the transmit queue alone (R33), and the image unit forgets a frame kept back. -/
theorem withdrawImage_rest (p : Payload → Bool) (s : State) : withdrawImage p s = { s with
    image := (withdrawImage p s).image
    fe := { s.fe with txQueue := (withdrawImage p s).fe.txQueue, held := (withdrawImage p s).fe.held
                      admissionsDue := (withdrawImage p s).fe.admissionsDue } } := rfl

theorem endTransfer_rest (s : State) : endTransfer s = { s with
    image := (endTransfer s).image
    fe := { s.fe with txQueue := (endTransfer s).fe.txQueue, held := (endTransfer s).fe.held
                      admissionsDue := (endTransfer s).fe.admissionsDue } } :=
  withdrawImage_rest _ _

theorem imageResync_rest (s : State) : imageResync s = { s with
    image := (imageResync s).image
    fe := { s.fe with txQueue := (imageResync s).fe.txQueue, held := (imageResync s).fe.held
                      admissionsDue := (imageResync s).fe.admissionsDue } } := by
  have h := withdrawImage_rest (fun _ => true) ((endTransfer s).mapImage fun u => { u.settled with watch := none })
  have he := endTransfer_rest s
  unfold imageResync
  generalize endTransfer s = e at h he ⊢
  rw [h, he]
  rfl

theorem sharedResync_rest (s : State) : sharedResync s = { s with
    pool := { s.pool with table := [], generation := 0, digest := 0xFFFF, sync := .unsynced }
    peers := { s.peers with disagreement := none }
    image := (sharedResync s).image
    fe := { s.fe with doubtful := false, txQueue := (sharedResync s).fe.txQueue, held := (sharedResync s).fe.held
                      admissionsDue := (sharedResync s).fe.admissionsDue } } := by
  have himage := imageResync_rest (poolPurged s)
  have hpurged := poolPurged_rest s
  unfold sharedResync
  generalize poolPurged s = u at himage hpurged ⊢
  generalize imageResync u = v at himage ⊢
  rw [himage, hpurged]

theorem poolResync_eq (s : State) : poolResync s = if (headsResync (sharedResync s)).storeLive
    then storeResync (headsResync (sharedResync s)) else headsResync (sharedResync s) := rfl

/-- What a pool resync leaves of the station. -/
theorem poolResync_rest (s : State) : poolResync s = { s with
    pool := { s.pool with table := [], generation := 0, digest := 0xFFFF, sync := .unsynced }
    peers := { s.peers with disagreement := none }
    fe := { s.fe with doubtful := false, txQueue := (sharedResync s).fe.txQueue, held := (sharedResync s).fe.held
                      admissionsDue := (sharedResync s).fe.admissionsDue }
    image := (sharedResync s).image
    swaps := (poolResync s).swaps, heads := (poolResync s).heads, store := (poolResync s).store
    life := (poolResync s).life } := by
  rw [poolResync_eq]
  split
  · rw [storeResync_rest, headsResync_rest, sharedResync_rest]
  · rw [headsResync_rest, sharedResync_rest]

theorem sharedResync_image (s : State) : (sharedResync s).image = { s.image with
    askTimer := none, askCount := 0, partSinceAsk := false, collection := none, responder := .idle, part0Sent := false
    buffer := none, repeatPending := false, watch := none, deferred := none } :=
  imageResync_image _

/-- Every unit makes its part of a pool resync (R105). -/
theorem poolResync_resynced (s : State) : resynced false s (poolResync s) := by
  obtain ⟨hqueue, hother, hheld⟩ := imageResync_purgePool_queue
    ((s.mapPool fun p => { p with table := [], generation := 0, digest := 0xFFFF, sync := .unsynced }).mapFe
      fun f => { f with doubtful := false })
  have hrest := poolResync_rest s
  have hpool : (poolResync s).pool = { s.pool with table := [], generation := 0, digest := 0xFFFF, sync := .unsynced } := by
    rw [hrest]
  have hpeers : (poolResync s).peers = { s.peers with disagreement := none } := by rw [hrest]
  have himage := (congrArg State.image hrest).trans (sharedResync_image s)
  have hfe := congrArg State.fe hrest
  have hshared := sharedResync_rest s
  have hheads := headsResync_rest (sharedResync s)
  unfold resynced
  rw [hpool, hpeers, himage, hfe]
  refine ⟨rfl, rfl, rfl, nofun, rfl, rfl, rfl, rfl, fun e he hp => .inl (hqueue e he hp), hother,
    fun r hr => ⟨(hheld r hr).1, fun ho => absurd ho (hheld r hr).2⟩, rfl, rfl, rfl, rfl, rfl, rfl, rfl, rfl, rfl, rfl,
    fun hl h => ?_, fun hl => ?_⟩
  · have hstore : (headsResync (sharedResync s)).storeLive = false := by
      rw [hheads, hshared]; exact headsLive_not_storeLive s hl
    have hshared' : (sharedResync s).headsLive = true := by rw [hshared]; exact hl
    rw [poolResync_eq, hstore]
    obtain ⟨hswap, hhead⟩ := headsResync_units hshared' h
    exact ⟨hswap.congr (by rw [hshared]; rfl) (by rw [hshared]; rfl) (by rw [hshared]) (by rw [hshared]) rfl,
      hhead.congr (by rw [hshared]; rfl) rfl⟩
  · have hstore : (headsResync (sharedResync s)).storeLive = true := by rw [hheads, hshared]; exact hl
    rw [poolResync_eq, hstore]
    exact (storeResynced_storeResync _).congr (by rw [hheads, hshared]) (by rw [hheads, hshared])

/-- A resync says nothing of the line, the counters and the receive side that it found. -/
theorem resynced_of_line {asked : Bool} (l : LineInterface) (c : Counters) (f : FrameEngine)
    (hf : f.txQueue = s.fe.txQueue) (x : resynced asked { s with line := l, counters := c, fe := f } t) :
    resynced asked s t := by
  unfold resynced at *
  rw [← hf]
  exact x

end
end Sys2Proof.Machine

namespace Sys2Proof.Machine
open State Sys2Proof.Config

/-! ## The end of a veto slot (R24 to R26, R30, R36 to R38) -/

section
variable {s t : State} {bad vetoed going : Bool} {bits : List Slot3} {f : RxFrame} {i : RxItem} {o : Origin}

/-! ### Submission and the ask (R32, R94) -/

/-- A submission changes the transmit queue, or the held requests. -/
theorem submit_rest (o : Origin) (p : Payload) (s : State) : (submit o p s).1 = { s with
    fe := { s.fe with txQueue := (submit o p s).1.fe.txQueue, held := (submit o p s).1.fe.held } } := by
  unfold submit
  split
  · rfl
  · split <;> rfl

theorem submit_taken {p : Payload} (hr : s.refusedAtOnce p = false) (o : Origin) : (submit o p s).2 ≠ .notSent := by
  unfold submit
  rw [if_neg (by simp [hr])]
  split <;> exact nofun

theorem ask_rest (s : State) : ask s = { s with
    pool := (ask s).pool, image := (ask s).image
    fe := { s.fe with txQueue := (ask s).fe.txQueue, held := (ask s).fe.held } } := by
  have hsubmit := submit_rest .imageUnit .imageAsk
    (s.mapImage fun u => { u with collection := none, partSinceAsk := false, askTimer := none })
  unfold ask; dsimp only
  split
  · split
    · rfl
    · split <;> (rw [hsubmit]; rfl)
  · rfl

/-- An ask that may be made leads to JOINING (R94). -/
theorem ask_joining (hm : s.mayAsk = true) (hl : s.lineFault = false) : (ask s).pool = { s.pool with sync := .joining } := by
  have hrefused : (s.mapImage fun u => { u with collection := none, partSinceAsk := false, askTimer := none }).refusedAtOnce
      .imageAsk = false := by simp [State.refusedAtOnce, hl, Payload.isPool]
  have htaken := submit_taken hrefused .imageUnit
  unfold ask; dsimp only
  rw [if_pos hm]
  split
  · rfl
  · split
    next hn => exact absurd hn htaken
    all_goals rw [submit_rest]; rfl

/-! ### Acceptance (R25) -/

theorem closeSlot_eq (going : Bool) (s : State) : closeSlot going s = { s with
    line := { s.line with rx := .idle, bitTime := 128, vetoDriving := false, free := false, freeTimer := 0, slotRun := going }
    fe := { s.fe with rxState := .none, rxFrame := RxFrame.empty } } := by rfl

theorem acceptedItem_own {own : Option Origin} (h : acceptedItem f own = some i) : i.own = own := by
  unfold acceptedItem at h
  split at h
  · obtain rfl := Option.some.inj h
    rfl
  · exact absurd h nofun

theorem enqueue_eq (bad : Bool) (i : RxItem) (s : State) : enqueue bad i s = s.mapFe fun f => { f with
    rxQueue := if bad = false ∧ s.fe.rxQueue.length < 4 then s.fe.rxQueue ++ [i] else s.fe.rxQueue } := by
  unfold enqueue
  cases bad with
  | true => simp only [Bool.not_true, Bool.false_eq_true, false_and, if_false, reduceCtorEq]; rfl
  | false =>
    simp only [Bool.not_false, true_and, rxCapacity]
    split <;> rfl

theorem accept_none (h : acceptedItem f none = none) : accept bad f none s = s := by
  simp only [accept, h]

theorem accept_foreign (h : acceptedItem f none = some i) (hs : i.sender ≠ s.station) :
    accept bad f none s = enqueue bad i s := by
  simp only [accept, h, hs, and_false, if_false, Option.isSome_none, Bool.false_eq_true]

/-- A frame of another station with this station's number (R38). -/
theorem accept_clash (h : acceptedItem f none = some i) (hs : i.sender = s.station) :
    accept bad f none s = enterLineFault s := by
  simp only [accept, h, hs, acceptedItem_own h, Option.isNone_none, and_self, if_true]

theorem accept_own (h : acceptedItem f (some o) = some i) :
    accept bad f (some o) s = deliverSent (frameSent (enqueue bad i s)).2 (frameSent (enqueue bad i s)).1 := by
  simp only [accept, h, acceptedItem_own h, Option.isNone_some, Bool.false_eq_true, false_and, if_false,
    Option.isSome_some, if_true]

theorem frameSent_eq {e : TxEntry} (he : s.lineEntry = some e) (hw : e.withdrawn = false) :
    frameSent s = (removeFrames (·.onLine) s, some (e.origin, e.payload)) := by
  simp only [frameSent, he, hw, Bool.false_eq_true, if_false]

theorem enterLineFault_kept (s : State) : (enterLineFault s).pool = s.pool ∧ (enterLineFault s).peers = s.peers
    ∧ (enterLineFault s).fe.rxState = .none ∧ (enterLineFault s).fe.deaf = s.fe.deaf
    ∧ (enterLineFault s).fe.vetoRun = s.fe.vetoRun ∧ (enterLineFault s).fe.rxQueue = s.fe.rxQueue := by
  unfold enterLineFault; dsimp only
  rw [endTransfer_rest]
  exact ⟨rfl, rfl, rfl, rfl, rfl, rfl⟩

/-! ### The slot is decided, and DEAF behind it (R36, R37) -/

/-- What the class of the slot makes of the frame, before DEAF is tested. -/
def slotDecided (bits : List Slot3) (going bad : Bool) (s : State) : State :=
  match classifySlot bits with
  | .vetoSeen => vetoSeen going s.ownOnLine (closeSlot going s)
  | .ambiguous => accept bad s.fe.rxFrame s.ownOnLine (setDoubtful (closeSlot going s))
  | .clear => accept bad s.fe.rxFrame s.ownOnLine (closeSlot going s)

theorem vetoSlotEnd_eq (h : s.fe.rxState = .slot bad vetoed) :
    vetoSlotEnd bits going s = deafAtSlotEnd vetoed s.fe.rxQueue.isEmpty (slotDecided bits going bad s) := by
  simp only [vetoSlotEnd, h]
  rfl

theorem deafAtSlotEnd_hearing {wasEmpty : Bool} (hd : s.fe.deaf = false) (hv : vetoed = true → s.fe.vetoRun < 8) :
    deafAtSlotEnd vetoed wasEmpty s = s.mapFe fun f => { f with vetoRun := if vetoed then f.vetoRun else 0 } := by
  cases vetoed with
  | false => simp only [deafAtSlotEnd, hd, Bool.false_eq_true, if_false, Bool.not_false, if_true]
  | true =>
    have h8 : ¬8 ≤ s.fe.vetoRun := Nat.not_le.2 (hv rfl)
    simp only [deafAtSlotEnd, hd, h8, Bool.false_eq_true, if_false, Bool.not_true, if_true]
    rfl

theorem deafAtSlotEnd_eighth {wasEmpty : Bool} (hd : s.fe.deaf = false) (h8 : 8 ≤ s.fe.vetoRun) :
    deafAtSlotEnd true wasEmpty s = poolResync (s.mapFe fun f => { f with deaf := true, vetoRun := 0 }) := by
  simp only [deafAtSlotEnd, hd, h8, Bool.false_eq_true, if_false, Bool.not_true, if_true]

theorem deafAtSlotEnd_deaf {wasEmpty : Bool} (hd : s.fe.deaf = true) : deafAtSlotEnd vetoed wasEmpty s
    = if wasEmpty then endDeaf s else s.mapFe fun f => { f with vetoRun := 0 } := by
  simp only [deafAtSlotEnd, hd, if_true]

/-- DEAF ends, with an ask where the image unit may make one (R37, R94). -/
theorem endDeaf_kept (s : State) : (endDeaf s).fe.deaf = false ∧ (endDeaf s).fe.vetoRun = 0
    ∧ (endDeaf s).fe.rxQueue = s.fe.rxQueue
    ∧ (s.mayAsk = true → s.lineFault = false → (endDeaf s).pool = { s.pool with sync := .joining }) := by
  have hrest := ask_rest (s.mapFe fun f => { f with deaf := false, vetoRun := 0 })
  refine ⟨?_, ?_, ?_, fun hm hl => ask_joining (by exact hm) (by exact hl)⟩
  all_goals
    unfold endDeaf
    rw [hrest]
    rfl

/-! ### A frame of another station -/

/-- The station with its slot closed on a veto that was seen (R25). -/
def slotVetoed (going : Bool) (s : State) : State := { s with
  line := (closeSlot going s).line
  counters := { s.counters with vetoesSeen := satInc s.counters.vetoesSeen }
  fe := { s.fe with rxState := .none, rxFrame := RxFrame.empty } }

theorem slotVetoed_eq (going : Bool) (s : State) : ((closeSlot going s).count fun c =>
    { c with vetoesSeen := satInc c.vetoesSeen }) = slotVetoed going s := by rfl

theorem slotDecided_veto (hc : classifySlot bits = .vetoSeen) (ho : s.ownOnLine = none) :
    slotDecided bits going bad s = slotVetoed going s := by
  rw [← slotVetoed_eq]
  simp only [slotDecided, hc, ho, vetoSeen, Option.isSome_none, Bool.false_eq_true, if_false]

/-- The station with its doubtful flag as an ambiguous slot leaves it (R24). -/
def slotClosed (bits : List Slot3) (going : Bool) (s : State) : State :=
  if classifySlot bits = .ambiguous then setDoubtful (closeSlot going s) else closeSlot going s

theorem slotDecided_accepts (hc : classifySlot bits ≠ .vetoSeen) :
    slotDecided bits going bad s = accept bad s.fe.rxFrame s.ownOnLine (slotClosed bits going s) := by
  unfold slotDecided slotClosed
  cases h : classifySlot bits with
  | vetoSeen => exact absurd h hc
  | ambiguous | clear => rfl

theorem slotClosed_rest (bits : List Slot3) (going : Bool) (s : State) : slotClosed bits going s = { s with
    line := (closeSlot going s).line
    image := (slotClosed bits going s).image
    fe := { s.fe with
      rxState := .none, rxFrame := RxFrame.empty, doubtful := (slotClosed bits going s).fe.doubtful
      txQueue := (slotClosed bits going s).fe.txQueue, held := (slotClosed bits going s).fe.held
      admissionsDue := (slotClosed bits going s).fe.admissionsDue } } := by
  unfold slotClosed
  split
  · rw [setDoubtful_rest]; rfl
  · rfl

theorem slotClosed_station : (slotClosed bits going s).station = s.station := by
  rw [slotClosed_rest]; rfl

theorem slotClosed_clear (hc : classifySlot bits = .clear) : slotClosed bits going s = closeSlot going s := by
  simp only [slotClosed, hc, reduceCtorEq, if_false]

/-- A frame that is accepted leaves the image unit's right to ask (R94). -/
theorem slotClosed_mayAsk : (slotClosed bits going s).mayAsk = s.mayAsk := by
  have hstopped : (slotClosed bits going s).image.askingStopped = s.image.askingStopped := by
    unfold slotClosed setDoubtful; dsimp only
    split
    · split <;> rfl
    · rfl
  have hrest := slotClosed_rest bits going s
  unfold State.mayAsk
  rw [hstopped, hrest]
  rfl

/-- A clear or an ambiguous slot of another station's frame: accepted, with a clash of numbers found (R25, R38). -/
theorem slotDecided_foreign (hc : classifySlot bits ≠ .vetoSeen) (ho : s.ownOnLine = none)
    (hi : acceptedItem s.fe.rxFrame none = some i) : slotDecided bits going bad s
      = if i.sender = s.station then enterLineFault (slotClosed bits going s)
        else (slotClosed bits going s).mapFe fun f => { f with
          rxQueue := if bad = false ∧ s.fe.rxQueue.length < 4 then s.fe.rxQueue ++ [i] else s.fe.rxQueue } := by
  rw [slotDecided_accepts hc, ho]
  split
  next hs => exact accept_clash hi (by rw [slotClosed_station]; exact hs)
  next hs =>
    rw [accept_foreign hi (by rw [slotClosed_station]; exact hs), enqueue_eq]
    have hq : (slotClosed bits going s).fe.rxQueue = s.fe.rxQueue := by rw [slotClosed_rest]
    rw [hq]

/-- What the slot of another station's frame leaves of the station. -/
structure KeptBySlot (s t : State) : Prop where
  pool : t.pool = s.pool
  peers : t.peers = s.peers
  rxState : t.fe.rxState = .none
  deaf : t.fe.deaf = s.fe.deaf
  vetoRun : t.fe.vetoRun = s.fe.vetoRun

theorem slotClosed_kept (bits : List Slot3) (going : Bool) (s : State) : KeptBySlot s (slotClosed bits going s) := by
  rw [slotClosed_rest]
  exact ⟨rfl, rfl, rfl, rfl, rfl⟩

theorem slotDecided_kept (ho : s.ownOnLine = none) : KeptBySlot s (slotDecided bits going bad s) := by
  obtain ⟨hpool, hpeers, hrx, hdeaf, hrun⟩ := slotClosed_kept bits going s
  by_cases hc : classifySlot bits = .vetoSeen
  · rw [slotDecided_veto hc ho]
    exact ⟨rfl, rfl, rfl, rfl, rfl⟩
  cases hi : acceptedItem s.fe.rxFrame none with
  | none =>
    rw [slotDecided_accepts hc, ho, accept_none hi]
    exact slotClosed_kept bits going s
  | some i =>
    rw [slotDecided_foreign hc ho hi]
    split
    · obtain ⟨h1, h2, h3, h4, h5, -⟩ := enterLineFault_kept (slotClosed bits going s)
      exact ⟨h1.trans hpool, h2.trans hpeers, h3, h4.trans hdeaf, h5.trans hrun⟩
    · exact ⟨hpool, hpeers, hrx, hdeaf, hrun⟩

/-! ### The frame of this station (R30) -/

/-- What an originator that is told *sent* leaves of the station. -/
theorem deliverSent_kept (r : Option (Origin × Payload)) (s : State) : (deliverSent r s).pool = s.pool
    ∧ (deliverSent r s).line.rx = s.line.rx ∧ (deliverSent r s).fe.rxQueue = s.fe.rxQueue
    ∧ (deliverSent r s).fe.deaf = s.fe.deaf := by
  have hunit : ∀ {t : State}, unitFrame s t →
      t.pool = s.pool ∧ t.line.rx = s.line.rx ∧ t.fe.rxQueue = s.fe.rxQueue ∧ t.fe.deaf = s.fe.deaf :=
    fun ⟨_, _, hline, _, hpool, _, hfe⟩ =>
      ⟨hpool, by rcases hline with h | h <;> rw [h], by rw [hfe], by rw [hfe]⟩
  unfold deliverSent
  split
  · exact ⟨rfl, rfl, rfl, rfl⟩
  · exact hunit ((unitFrame_stable s).imageSent _ s (unitFrame_refl s))
  all_goals exact ⟨rfl, rfl, rfl, rfl⟩

/-- Only the image unit submits at once (R98). -/
theorem deliverSent_fe {p : Payload} (ho : o ≠ .imageUnit) : (deliverSent (some (o, p)) s).fe = s.fe := by
  cases o with
  | imageUnit => exact absurd rfl ho
  | peerTable | headUnit | storeUnit => rfl
  | swapUnit => cases p <;> rfl

theorem swapSent_outstanding {h : Head} {p : PoolFrame} {st : SwapState}
    (ho : (s.swap h).outstanding = some ⟨p, false, st⟩) :
    (swapSent h p s).swap h = { s.swap h with outstanding := some ⟨p, true, st⟩ } := by
  rw [swapSent, mapSwap_swap_self, ho]
  simp

/-- The station with its own frame accepted and out of the transmit queue, before the originator is told (R25, R30). -/
def ownTaken (going : Bool) (i : RxItem) (s : State) : State :=
  removeFrames (·.onLine) ((closeSlot going s).mapFe fun f => { f with
    rxQueue := if s.fe.rxQueue.length < 4 then s.fe.rxQueue ++ [i] else s.fe.rxQueue })

theorem ownTaken_rest (going : Bool) (i : RxItem) (s : State) : ownTaken going i s = { s with
    line := (closeSlot going s).line
    fe := { s.fe with
      rxState := .none, rxFrame := RxFrame.empty, txQueue := s.fe.txQueue.filter fun e => !e.onLine
      admissionsDue := (ownTaken going i s).fe.admissionsDue
      rxQueue := if s.fe.rxQueue.length < 4 then s.fe.rxQueue ++ [i] else s.fe.rxQueue } } := by
  rw [ownTaken, closeSlot_eq]
  rfl

/-- An own frame that is accepted (R25, R30). -/
theorem slotDecided_own {e : TxEntry} (hc : classifySlot bits = .clear) (he : s.lineEntry = some e)
    (hh : s.fe.heldOutcome = none) (hw : e.withdrawn = false)
    (hi : acceptedItem s.fe.rxFrame (some e.origin) = some i) : slotDecided bits going false s
      = deliverSent (some (e.origin, e.payload)) (ownTaken going i s) := by
  have ho : s.ownOnLine = some e.origin := by simp [State.ownOnLine, hh, he]
  have hsent := frameSent_eq (s := enqueue false i (closeSlot going s)) (e := e)
    (by rw [enqueue_eq]; exact he) hw
  rw [slotDecided_accepts (by rw [hc]; nofun), ho, slotClosed_clear hc, accept_own hi, hsent, enqueue_eq]
  simp only [true_and]
  rfl

/-- An own frame that was vetoed (R26, R30). -/
theorem slotDecided_ownVetoed {e : TxEntry} (hc : classifySlot bits = .vetoSeen) (he : s.lineEntry = some e)
    (hh : s.fe.heldOutcome = none) : slotDecided bits going bad s
      = if going then (slotVetoed going s).mapFe fun f => { f with heldOutcome := some .vetoed }
        else attemptMade (slotVetoed going s) := by
  have ho : s.ownOnLine = some e.origin := by simp [State.ownOnLine, hh, he]
  simp only [slotDecided, hc, ho, vetoSeen, Option.isSome_some, if_true, slotVetoed_eq]

theorem attemptMade_vetoesSeen (s : State) : (attemptMade s).counters.vetoesSeen = s.counters.vetoesSeen := by
  cases he : s.lineEntry with
  | none => rw [attemptMade_none he]
  | some e =>
    cases hw : e.withdrawn with
    | true => rw [attemptMade_withdrawn he hw]; rfl
    | false =>
      by_cases ha : e.attempts < 3
      · rw [attemptMade_counts he hw ha]; rfl
      · rw [attemptMade_fails he hw (Nat.le_of_not_lt ha), (deliverNotSent_kept _ _).counters]; rfl

end

/-! ### The command (R25) -/

section
variable {bits : List Slot3} {going bad vetoed : Bool} {s : State} {i : RxItem} {e : TxEntry}

theorem vetoSlotEnd_hearing (h : s.fe.rxState = .slot bad vetoed)
    (hd : (slotDecided bits going bad s).fe.deaf = false)
    (hv : vetoed = true → (slotDecided bits going bad s).fe.vetoRun < 8) : vetoSlotEnd bits going s
      = (slotDecided bits going bad s).mapFe fun f => { f with vetoRun := if vetoed then f.vetoRun else 0 } := by
  rw [vetoSlotEnd_eq h, deafAtSlotEnd_hearing hd hv]

/-- The station that the eighth veto running makes DEAF, before the pool resync (R36). -/
def deafened (going : Bool) (s : State) : State := { s with
  line := (closeSlot going s).line
  counters := { s.counters with vetoesSeen := satInc s.counters.vetoesSeen }
  fe := { s.fe with rxState := .none, rxFrame := RxFrame.empty, deaf := true, vetoRun := 0 } }

theorem vetoSlotEnd_eighth (h : s.fe.rxState = .slot bad true) (ho : s.ownOnLine = none) (hd : s.fe.deaf = false)
    (h8 : 8 ≤ s.fe.vetoRun) (hc : classifySlot bits = .vetoSeen) :
    vetoSlotEnd bits going s = poolResync (deafened going s) := by
  rw [vetoSlotEnd_eq h, slotDecided_veto hc ho]
  exact deafAtSlotEnd_eighth hd h8

/-- A slot's end that finds the receive queue empty ends DEAF (R37). -/
theorem vetoSlotEnd_endsDeaf (h : s.fe.rxState = .slot bad vetoed) (ho : s.ownOnLine = none) (hd : s.fe.deaf = true)
    (hq : s.fe.rxQueue = []) : vetoSlotEnd bits going s = endDeaf (slotDecided bits going bad s) := by
  rw [vetoSlotEnd_eq h, deafAtSlotEnd_deaf ((slotDecided_kept ho).deaf.trans hd), hq]
  rfl

theorem vetoSlotEnd_staysDeaf (h : s.fe.rxState = .slot bad vetoed) (ho : s.ownOnLine = none) (hd : s.fe.deaf = true)
    (hq : s.fe.rxQueue ≠ []) :
    vetoSlotEnd bits going s = (slotDecided bits going bad s).mapFe fun f => { f with vetoRun := 0 } := by
  rw [vetoSlotEnd_eq h, deafAtSlotEnd_deaf ((slotDecided_kept ho).deaf.trans hd), List.isEmpty_eq_false_iff.2 hq]
  rfl

/-- A frame without a clash of numbers leaves the image unit what decides on its ask (R94). -/
theorem slotDecided_mayAsk (ho : s.ownOnLine = none)
    (hns : ∀ i, acceptedItem s.fe.rxFrame none = some i → i.sender ≠ s.station) :
    (slotDecided bits going bad s).mayAsk = s.mayAsk ∧ (slotDecided bits going bad s).lineFault = s.lineFault := by
  have hclosed : (slotClosed bits going s).mayAsk = s.mayAsk ∧ (slotClosed bits going s).lineFault = s.lineFault :=
    ⟨slotClosed_mayAsk, by rw [slotClosed_rest]⟩
  by_cases hc : classifySlot bits = .vetoSeen
  · rw [slotDecided_veto hc ho]
    exact ⟨rfl, rfl⟩
  cases hi : acceptedItem s.fe.rxFrame none with
  | none => rw [slotDecided_accepts hc, ho, accept_none hi]; exact hclosed
  | some i => rw [slotDecided_foreign hc ho hi, if_neg (hns i hi)]; exact hclosed

end

/-- An own frame that is accepted leaves the transmit queue, and its originator is told (R25, R30). -/
theorem vetoSlotEnd_ownAccepted (hslot : s.fe.rxState = .slot false false) (hd : s.fe.deaf = false)
    (hh : s.fe.heldOutcome = none) (he : s.lineEntry = some e) (hw : e.withdrawn = false)
    (hi : acceptedItem s.fe.rxFrame (some e.origin) = some i) (hc : classifySlot bits = .clear) :
    let t := vetoSlotEnd bits going s
    t.pool = s.pool ∧ t.line.rx = .idle
      ∧ t.fe.rxQueue = (if s.fe.rxQueue.length < 4 then s.fe.rxQueue ++ [i] else s.fe.rxQueue)
      ∧ (e.origin ≠ .imageUnit → t.fe.txQueue = s.fe.txQueue.filter (fun x => !x.onLine))
      ∧ (e.origin = .peerTable →
          t.peers = { s.peers with rollTimer := some ⟨s.timeBase, s.constants.rollIntervalMs * 1000⟩ })
      ∧ (∀ h f st, e.origin = .swapUnit h → e.payload = .pool f → (s.swap h).outstanding = some ⟨f, false, st⟩ →
          t.swap h = { s.swap h with outstanding := some ⟨f, true, st⟩ }) := by
  have hdecided := slotDecided_own (bits := bits) (going := going) hc he hh hw hi
  have hrest := ownTaken_rest going i s
  generalize ownTaken going i s = u at hdecided hrest
  obtain ⟨hpool, hrx, hqueue, hdeaf⟩ := deliverSent_kept (some (e.origin, e.payload)) u
  intro t
  have ht : t = (deliverSent (some (e.origin, e.payload)) u).mapFe fun f => { f with vetoRun := 0 } := by
    rw [← hdecided]
    exact vetoSlotEnd_hearing hslot (by rw [hdecided, hdeaf, hrest]; exact hd) nofun
  rw [ht]
  refine ⟨hpool.trans (by rw [hrest]), hrx.trans (by rw [hrest]; rfl), hqueue.trans (by rw [hrest]), fun ho => ?_,
    fun ho => ?_, fun h p st ho hp hout => ?_⟩
  · rw [mapFe_fe, deliverSent_fe ho, hrest]
  · rw [ho, hrest]; rfl
  · have hswap : u.swap h = s.swap h := by rw [hrest]; rfl
    have hsent := swapSent_outstanding (s := u) (by rw [hswap]; exact hout)
    rw [ho, hp, ← hswap]
    exact hsent

/-- An own frame that was vetoed counts an attempt, once the run in the slot has ended (R26, R30). -/
theorem vetoSlotEnd_ownVetoed (hslot : s.fe.rxState = .slot false false) (hd : s.fe.deaf = false)
    (hh : s.fe.heldOutcome = none) (he : s.lineEntry = some e) (hw : e.withdrawn = false)
    (hc : classifySlot bits = .vetoSeen) :
    let t := vetoSlotEnd bits going s
    t.pool = s.pool ∧ t.line.rx = .idle ∧ t.fe.rxQueue = s.fe.rxQueue
      ∧ t.counters.vetoesSeen = satInc s.counters.vetoesSeen
      ∧ (going = true → t.fe.heldOutcome = some .vetoed ∧ t.fe.txQueue = s.fe.txQueue)
      ∧ (going = false → e.attempts < 3 → ∃ l r, s.fe.txQueue = l ++ e :: r ∧ (∀ x ∈ l, x.onLine = false)
          ∧ t.fe.txQueue = l ++ { e with attempts := e.attempts + 1, onLine := false } :: r) := by
  have hdecided := slotDecided_ownVetoed (bits := bits) (going := going) (bad := false) hc he hh
  intro t
  cases going with
  | true =>
    have ht : t = ((slotVetoed true s).mapFe fun f => { f with heldOutcome := some .vetoed }).mapFe
        fun f => { f with vetoRun := 0 } := by
      rw [← hdecided.trans (if_pos rfl)]
      exact vetoSlotEnd_hearing hslot (by rw [hdecided]; exact hd) nofun
    rw [ht]
    unfold slotVetoed
    exact ⟨rfl, rfl, rfl, rfl, fun _ => ⟨rfl, rfl⟩, nofun⟩
  | false =>
    obtain ⟨-, hline, -, -, hpool, hfe⟩ := attemptMade_kept (slotVetoed false s)
    have hseen := attemptMade_vetoesSeen (slotVetoed false s)
    have hplace := fun ha => attemptMade_place (s := slotVetoed false s) (e := e) he hw ha
    have hdeaf : (attemptMade (slotVetoed false s)).fe.deaf = false := by rw [hfe]; exact hd
    have ht : t = (attemptMade (slotVetoed false s)).mapFe fun f => { f with vetoRun := 0 } := by
      rw [← hdecided.trans (if_neg Bool.false_ne_true)]
      exact vetoSlotEnd_hearing hslot (by rw [hdecided]; exact hdeaf) nofun
    rw [ht]
    have hqueue : (attemptMade (slotVetoed false s)).fe.rxQueue = s.fe.rxQueue := by rw [hfe]; rfl
    exact ⟨hpool, congrArg LineInterface.rx hline, hqueue, hseen, nofun, fun _ => hplace⟩

/-- Settles O13: the class of the slot decides on the frame, and DEAF is tested behind it. -/
theorem vetoSlotDecidesAcceptance : Obligations.VetoSlotDecidesAcceptance := by
  refine ⟨fun bits going bad vetoed i s hslot hd hv ho hi => ⟨_, rfl, ?_⟩,
    fun bits going e i s hslot hd hh he hw hi => ⟨fun hc => ⟨_, rfl, ?_⟩, fun hc => ⟨_, rfl, ?_⟩⟩,
    fun bits going bad vetoed s hslot ho => ⟨fun hd hvt h8 hc => ⟨_, rfl, ?_⟩, fun hd hq hns => ⟨_, rfl, ?_⟩,
      fun hd hq hc => ⟨_, rfl, ?_⟩⟩⟩
  all_goals
    have hcell : cellFrame s (vetoSlotEnd bits going s) := (cellFrame_stable s).vetoSlotEnd bits going s (cellFrame_refl s)
    refine ⟨hcell, ?_⟩
    clear hcell
  -- A frame of another station.
  · obtain ⟨hpool, hpeers, hrx, hdeaf, hrun⟩ := slotDecided_kept (bits := bits) (going := going) (bad := bad) ho
    rw [vetoSlotEnd_hearing hslot (hdeaf.trans hd) (fun h => by rw [hrun]; exact hv h)]
    refine ⟨hpool, hpeers, hrx, ?_, fun hc => ?_, fun hc hs => ?_, fun hc hs => ?_, fun hc hs => ?_⟩
    · rw [mapFe_fe, hrun]
    · rw [slotDecided_veto hc ho, slotVetoed]
      exact ⟨rfl, rfl, rfl, rfl⟩
    · rw [slotDecided_foreign (by rw [hc]; nofun) ho hi, if_neg hs, slotClosed_clear hc, closeSlot_eq]
      exact ⟨rfl, rfl, rfl, rfl, rfl⟩
    · have hclosed : slotClosed bits going s = setDoubtful (closeSlot going s) := if_pos hc
      rw [slotDecided_foreign (by rw [hc]; nofun) ho hi, if_neg hs, hclosed, setDoubtful_rest]
      exact ⟨rfl, rfl⟩
    · obtain ⟨-, -, -, -, -, hq⟩ := enterLineFault_kept (slotClosed bits going s)
      obtain ⟨hlisten, -, -, hfault, -⟩ := enterLineFault_rest (slotClosed bits going s)
      rw [slotDecided_foreign hc ho hi, if_pos hs]
      exact ⟨hfault, hlisten, hq.trans (by rw [slotClosed_rest])⟩
  -- An own frame.
  · obtain ⟨hpool, hrx, hqueue, hrest⟩ := vetoSlotEnd_ownAccepted (bits := bits) (going := going) hslot hd hh he hw hi hc
    exact ⟨hpool, hrx, acceptedItem_own hi, hqueue, hrest⟩
  · exact vetoSlotEnd_ownVetoed hslot hd hh he hw hc
  -- The eighth veto running, and a station that is DEAF.
  · have hrest := poolResync_rest (deafened going s)
    have hresynced := resynced_of_line _ _ _ rfl (poolResync_resynced (deafened going s))
    subst hvt
    rw [vetoSlotEnd_eighth hslot ho hd h8 hc]
    generalize poolResync (deafened going s) = t at hrest hresynced ⊢
    exact ⟨by rw [hrest]; rfl, by rw [hrest]; rfl, by rw [hrest], by rw [hrest]; rfl, hresynced⟩
  · obtain ⟨hpool, -⟩ := slotDecided_kept (bits := bits) (going := going) (bad := bad) ho
    obtain ⟨hdeaf, hrun, hqueue, hask⟩ := endDeaf_kept (slotDecided bits going bad s)
    obtain ⟨hmay, hfault⟩ := slotDecided_mayAsk (bits := bits) (going := going) (bad := bad) ho hns
    rw [vetoSlotEnd_endsDeaf hslot ho hd hq]
    refine ⟨hdeaf, hrun, fun hm hl => ?_, fun i hi hb hc => ?_⟩
    · rw [hask (hmay.trans hm) (hfault.trans hl), hpool]
    · rw [hqueue, slotDecided_foreign hc ho hi, if_neg (hns i hi), hb, hq]
      rfl
  · rw [vetoSlotEnd_staysDeaf hslot ho hd hq, slotDecided_veto hc ho, slotVetoed]
    exact ⟨hd, rfl, rfl, rfl⟩

end Sys2Proof.Machine

namespace Sys2Proof.Machine
open State Sys2Proof.Config

/-! ## Submission by the rows of R32 -/

/-- A new element goes behind those whose key is not greater than its own. -/
theorem insertBy_split {α : Type} (key : α → Nat) (x : α) (q : List α) :
    ∃ l r, q = l ++ r ∧ insertBy key x q = l ++ x :: r ∧ (∀ y ∈ l, key y ≤ key x)
      ∧ ∀ y, r.head? = some y → key x < key y := by
  induction q with
  | nil => exact ⟨[], [], rfl, rfl, nofun, nofun⟩
  | cons y ys ih =>
    unfold insertBy
    split
    next hle =>
      obtain ⟨l, r, hq, hi, hl, hr⟩ := ih
      exact ⟨y :: l, r, congrArg (y :: ·) hq, congrArg (y :: ·) hi, List.forall_mem_cons.2 ⟨hle, hl⟩, hr⟩
    next hlt =>
      refine ⟨[], y :: ys, rfl, rfl, nofun, fun z hz => ?_⟩
      obtain rfl := Option.some.inj hz
      exact Nat.lt_of_not_le hlt

section
variable {s : State} {o : Origin} {p : Payload}

/-- A frame is admitted behind those of its class (R31). -/
theorem queueFrame_place (o : Origin) (p : Payload) (s : State) :
    ∃ l r, s.fe.txQueue = l ++ r ∧ (queueFrame o p s).fe.txQueue = l ++ ⟨o, p, 0, false, false⟩ :: r
      ∧ (∀ e ∈ l, e.payload.cls ≤ p.cls) ∧ ∀ e, r.head? = some e → p.cls < e.payload.cls :=
  insertBy_split (fun e : TxEntry => e.payload.cls) ⟨o, p, 0, false, false⟩ s.fe.txQueue

theorem submit_refused (hr : s.refusedAtOnce p = true) : submit o p s = (s, .notSent) := if_pos hr

theorem submit_admitted (hr : s.refusedAtOnce p = false) (hroom : s.txRoom = true) :
    submit o p s = (queueFrame o p s, .admitted) := by
  simp only [submit, hr, hroom, Bool.false_eq_true, if_false, if_true]

theorem submit_held (hr : s.refusedAtOnce p = false) (hroom : s.txRoom = false) :
    submit o p s = (s.mapFe fun f => { f with held := f.held ++ [(o, p)] }, .held) := by
  simp only [submit, hr, hroom, Bool.false_eq_true, if_false]

/-! ### The first three rows -/

theorem poolBarred_iff : s.poolBarred = true ↔ s.pool.sync ≠ .synced ∨ s.fe.deaf = true ∨ s.peers.familyMismatch = true
    ∨ s.peers.roleClash = true := by
  simp only [State.poolBarred, State.synced, Bool.or_eq_true, Bool.not_eq_true', beq_eq_false_iff_ne, or_assoc, ne_eq]

theorem claimQueued_iff {head : Byte} : s.claimQueued head = true
    ↔ ∃ e ∈ s.fe.txQueue, ∃ g, e.payload = .pool (.claim head g) := by
  simp only [State.claimQueued, List.any_eq_true]
  refine exists_congr fun e => and_congr_right fun _ => ?_
  split
  next head' g hp => simp [hp]
  next hn => exact ⟨nofun, fun ⟨g, hg⟩ => absurd hg (hn head g)⟩

theorem refusedAtOnce_claim {head family : Byte} : s.refusedAtOnce (.pool (.claim head family))
    = (s.lineFault || s.poolBarred || s.claimQueued head) := rfl

theorem refusedAtOnce_other {f : PoolFrame} (hf : f.kind ≠ .claim) :
    s.refusedAtOnce (.pool f) = (s.lineFault || s.poolBarred) := by
  cases f with
  | claim => exact absurd rfl hf
  | _ => exact Bool.or_false _

theorem refusedAtOnce_unpooled (hp : p.isPool = false) : s.refusedAtOnce p = s.lineFault := by
  cases p with
  | pool => exact absurd hp nofun
  | _ => simp [State.refusedAtOnce, Payload.isPool]

/-- A station that does not refuse a pool frame refuses none but for a CLAIM of a head whose CLAIM stands in the queue. -/
theorem refusedAtOnce_pool {f : PoolFrame} (hr : s.refusedAtOnce p = false) (hp : p.isPool = true) (hf : f.kind ≠ .claim) :
    s.refusedAtOnce (.pool f) = false := by
  simp only [State.refusedAtOnce, hp, Bool.true_and, Bool.or_eq_false_iff] at hr
  rw [refusedAtOnce_other hf, hr.1.1, hr.1.2]
  rfl

theorem synced_of_refusedAtOnce (hr : s.refusedAtOnce p = false) (hp : p.isPool = true) : s.synced = true := by
  simp only [State.refusedAtOnce, hp, Bool.true_and, Bool.or_eq_false_iff, State.poolBarred, Bool.not_eq_false'] at hr
  exact hr.1.2.1.1.1

/-- The rows of R32 in order. -/
theorem submit_byRows (o : Origin) (p : Payload) (s : State) :
    (s.lineFault = true → submit o p s = (s, .notSent))
      ∧ (p.isPool = true → (s.pool.sync ≠ .synced ∨ s.fe.deaf = true ∨ s.peers.familyMismatch = true
          ∨ s.peers.roleClash = true) → submit o p s = (s, .notSent))
      ∧ (∀ head family, p = .pool (.claim head family) →
          (∃ e ∈ s.fe.txQueue, ∃ g, e.payload = .pool (.claim head g)) → submit o p s = (s, .notSent))
      ∧ (s.refusedAtOnce p = false → s.fe.txQueue.length + s.fe.admissionsDue < 6 →
          (submit o p s).2 = .admitted
          ∧ ∃ l r, s.fe.txQueue = l ++ r ∧ (submit o p s).1.fe.txQueue = l ++ ⟨o, p, 0, false, false⟩ :: r
            ∧ (∀ e ∈ l, e.payload.cls ≤ p.cls) ∧ (∀ e, r.head? = some e → p.cls < e.payload.cls))
      ∧ (s.refusedAtOnce p = false → 6 ≤ s.fe.txQueue.length + s.fe.admissionsDue →
          (submit o p s).2 = .held ∧ (submit o p s).1.fe = { s.fe with held := s.fe.held ++ [(o, p)] }) := by
  refine ⟨fun hl => submit_refused ?_, fun hp hb => submit_refused ?_, fun head family hp hq => submit_refused ?_,
    fun hr hroom => ?_, fun hr hroom => ?_⟩
  · simp [State.refusedAtOnce, hl]
  · simp [State.refusedAtOnce, hp, poolBarred_iff.2 hb]
  · rw [hp, refusedAtOnce_claim, claimQueued_iff.2 hq, Bool.or_true]
  · rw [submit_admitted hr (decide_eq_true hroom)]
    exact ⟨rfl, queueFrame_place o p s⟩
  · rw [submit_held hr (decide_eq_false (Nat.not_lt.2 hroom))]
    exact ⟨rfl, rfl⟩

/-! ### What a submission leaves in the queues -/

/-- The frame stands in the transmit queue, behind no other attempt, or among the held requests. -/
def State.submitted (t : State) (o : Origin) (p : Payload) : Prop :=
  (⟨o, p, 0, false, false⟩ : TxEntry) ∈ t.fe.txQueue ∨ (o, p) ∈ t.fe.held

theorem queueFrame_submitted (o : Origin) (p : Payload) (s : State) : (queueFrame o p s).submitted o p := by
  obtain ⟨l, r, -, hq, -⟩ := queueFrame_place o p s
  exact .inl (by simp [hq])

theorem submit_submitted (hr : s.refusedAtOnce p = false) : (submit o p s).1.submitted o p := by
  cases hroom : s.txRoom with
  | true => rw [submit_admitted hr hroom]; exact queueFrame_submitted o p s
  | false => rw [submit_held hr hroom]; exact .inr (by simp)

/-- What stands in the queues stays there behind a submission. -/
theorem State.submitted.submit {o' : Origin} {p' : Payload} (h : s.submitted o' p') :
    (submit o p s).1.submitted o' p' := by
  cases hr : s.refusedAtOnce p with
  | true => rw [submit_refused hr]; exact h
  | false =>
    cases hroom : s.txRoom with
    | true =>
      rw [submit_admitted hr hroom]
      obtain ⟨l, r, hq, hq', -⟩ := queueFrame_place o p s
      refine h.imp (fun h => ?_) id
      rw [hq] at h
      rw [hq']
      simp only [List.mem_append, List.mem_cons] at h ⊢
      tauto
    | false =>
      rw [submit_held hr hroom]
      exact h.imp id fun h => List.mem_append_left _ h

end

/-! ## The admission of a held request (R32) -/

theorem nextHeld_mem {l : List (Origin × Payload)} {q : Origin × Payload} (h : nextHeld l = some q) : q ∈ l := by
  induction l with
  | nil => exact absurd h nofun
  | cons r rs ih =>
    unfold nextHeld at h
    split at h
    next => simp_all
    next q' hq' =>
      split at h
      · obtain rfl := Option.some.inj h
        exact List.mem_cons_of_mem _ (ih hq')
      · simp_all

/-- The request of lowest class that is held longest is the next one (R32). -/
theorem nextHeld_eq {x : Origin × Payload} {before after : List (Origin × Payload)}
    (hb : ∀ r ∈ before, x.2.cls < r.2.cls) (ha : ∀ r ∈ after, x.2.cls ≤ r.2.cls) :
    nextHeld (before ++ x :: after) = some x := by
  induction before with
  | nil =>
    show nextHeld (x :: after) = some x
    unfold nextHeld
    split
    next => rfl
    next q hq => rw [if_neg (Nat.not_lt.2 (ha q (nextHeld_mem hq)))]
  | cons r rs ih =>
    have hrest := ih fun q hq => hb q (List.mem_cons_of_mem _ hq)
    show nextHeld (r :: (rs ++ x :: after)) = some x
    unfold nextHeld
    rw [hrest]
    exact if_pos (hb r List.mem_cons_self)

/-- The request of a block leaves the held ones, and an admission is made. -/
def requestTaken (o : Origin) (s : State) : State := s.mapFe fun f =>
  { f with held := f.held.filter (fun r => r.1 != o), admissionsDue := f.admissionsDue - 1 }

section
variable {s : State} {o : Origin} {p : Payload} {before after : List (Origin × Payload)}

theorem requestTaken_held (hs : s.fe.held = before ++ (o, p) :: after) (hn : ∀ r ∈ before ++ after, r.1 ≠ o) :
    (requestTaken o s).fe.held = before ++ after := by
  have hkeep : ∀ l : List (Origin × Payload), (∀ r ∈ l, r.1 ≠ o) → l.filter (fun r => r.1 != o) = l := fun l hl =>
    List.filter_eq_self.2 fun r hr => by simpa using hl r hr
  show s.fe.held.filter (fun r => r.1 != o) = _
  rw [hs, List.filter_append, List.filter_cons_of_neg (by simp), ← List.filter_append, hkeep _ hn]

theorem heldRequestAdmit_admits (hd : 0 < s.fe.admissionsDue) (hn : nextHeld s.fe.held = some (o, p))
    (hr : s.refusedAtOnce p = false) :
    heldRequestAdmit s = afterAdmission o (queueFrame o p (requestTaken o s)) := by
  have hr' : (requestTaken o s).refusedAtOnce p = false := hr
  have hadmit : admitHeld s = (queueFrame o p (requestTaken o s), some (o, p, .admitted)) := by
    unfold admitHeld
    rw [if_neg (Nat.ne_of_gt hd), hn]
    exact if_neg (by rw [Bool.not_eq_true]; exact hr')
  unfold heldRequestAdmit
  rw [hadmit]
  rfl

theorem heldRequestAdmit_drops (hd : 0 < s.fe.admissionsDue) (hn : nextHeld s.fe.held = some (o, p))
    (hr : s.refusedAtOnce p = true) :
    heldRequestAdmit s = afterAdmission o (deliverNotSent (some (o, p)) (requestTaken o s)) := by
  have hr' : (requestTaken o s).refusedAtOnce p = true := hr
  have hadmit : admitHeld s = (requestTaken o s, some (o, p, .notSent)) := by
    unfold admitHeld
    rw [if_neg (Nat.ne_of_gt hd), hn]
    exact if_pos hr'
  unfold heldRequestAdmit
  rw [hadmit]
  rfl

end
end Sys2Proof.Machine

namespace Sys2Proof.Machine
open State Sys2Proof.Config

/-! ## What the block of an admitted request submits behind it (R32, R148, R168) -/

theorem UnitStable.afterAdmission {P : State → Prop} (hP : UnitStable P) (o : Origin) {s : State} (hs : P s) :
    P (afterAdmission o s) := by
  cases o with
  | peerTable | swapUnit => exact hs
  | storeUnit => exact hP.store.storePump s hs
  | headUnit h =>
    unfold Machine.afterAdmission
    dsimp only
    split
    · exact (hP.head h).declareRetry s hs
    · exact (hP.head h).declareRetry _ ((hP.head h).submitReport s hs)
  | imageUnit =>
    unfold Machine.afterAdmission
    dsimp only
    split
    · have hsubmitted := hP.submitImage ‹Payload› _ (hP.mapImage (fun u => { u with deferred := none }) s hs)
      split
      · exact hP.endTransfer _ hsubmitted
      · exact hsubmitted
    · exact hs

/-- An admission leaves the clock, the configuration, the pool and the receive queue. -/
theorem heldRequestAdmit_kept {s : State} {o : Origin} {p : Payload} (hd : 0 < s.fe.admissionsDue)
    (hn : nextHeld s.fe.held = some (o, p)) : cellFrame s (heldRequestAdmit s)
      ∧ (heldRequestAdmit s).pool = s.pool ∧ (heldRequestAdmit s).fe.rxQueue = s.fe.rxQueue := by
  refine ⟨(cellFrame_stable s).heldRequestAdmit s (cellFrame_refl s), ?_⟩
  cases hr : s.refusedAtOnce p with
  | false =>
    rw [heldRequestAdmit_admits hd hn hr]
    obtain ⟨-, -, -, -, hpool, -, hfe⟩ := (unitFrame_stable (queueFrame o p (requestTaken o s))).afterAdmission o
      (unitFrame_refl _)
    exact ⟨hpool, by rw [hfe]; rfl⟩
  | true =>
    rw [heldRequestAdmit_drops hd hn hr]
    have hkept := deliverNotSent_kept (some (o, p)) (requestTaken o s)
    obtain ⟨-, -, -, -, hpool, -, hfe⟩ := (unitFrame_stable (deliverNotSent (some (o, p)) (requestTaken o s))).afterAdmission o
      (unitFrame_refl _)
    exact ⟨hpool.trans hkept.pool, by rw [hfe, hkept.fe]; rfl⟩

/-- The block of a held request has no frame that waits for its admission. -/
def State.nothingWaits (s : State) : Origin → Prop
  | .peerTable | .swapUnit _ => True
  | .headUnit h => ((s.head h).report = .due → (s.head h).reportRetry.isSome = true)
      ∧ ∀ f tm, (s.head h).declare = some ⟨f, some tm⟩ → tm.due s.now = false
  | .imageUnit => s.image.deferred = none
  | .storeUnit => s.store.jobFrame.filter StoreFrame.isDue = none ∧ s.store.track.filter StoreFrame.isDue = none
      ∧ s.store.sendList = []

section
variable {s : State} {h : Head} {o : Origin} {p : Payload}

theorem submitReport_idle (hr : (s.head h).report ≠ .due) : submitReport h s = s := by
  unfold submitReport
  split
  next => rfl
  next => rw [if_neg fun hc => hr hc.1]

theorem declareRetry_idle (hd : ∀ f tm, (s.head h).declare = some ⟨f, some tm⟩ → tm.due s.now = false) :
    declareRetry h s = s := by
  unfold declareRetry
  split
  next f tm hf => rw [if_neg fun hc => absurd hc.1 (by simp [hd f tm hf])]
  all_goals rfl

theorem afterAdmission_nothing (hn : s.nothingWaits o) : afterAdmission o s = s := by
  cases o with
  | peerTable | swapUnit => rfl
  | storeUnit =>
    obtain ⟨hjob, htrack, hlist⟩ := hn
    exact storePump_nothing hjob htrack hlist
  | imageUnit =>
    have himage : s.image.deferred = none := hn
    simp only [afterAdmission, himage]
  | headUnit h =>
    obtain ⟨hreport, hdeclare⟩ := hn
    simp only [afterAdmission]
    split
    next => exact declareRetry_idle hdeclare
    next hretry => rw [submitReport_idle fun hdue => hretry (hreport hdue), declareRetry_idle hdeclare]

/-- The block has no frame that waits, and a swap unit claims for its own head alone. -/
def State.quiet (s : State) (o : Origin) (p : Payload) : Prop :=
  match o with
  | .peerTable => True
  | .swapUnit h => (s.swap h).wants = [] ∧ ∀ head family, p = .pool (.claim head family) → head = headByte h
  | .headUnit h => (s.head h).report ≠ .due ∧ ∀ f tm, (s.head h).declare ≠ some ⟨f, some tm⟩
  | .imageUnit => s.image.deferred = none
  | .storeUnit => (∀ f, s.store.jobFrame ≠ some ⟨f, .due⟩) ∧ (∀ f, s.store.track ≠ some ⟨f, .due⟩)
      ∧ s.store.sendList = []

theorem filter_isDue_none {x : Option StoreFrame} (hx : ∀ f, x ≠ some ⟨f, .due⟩) :
    x.filter StoreFrame.isDue = none := by
  match x with
  | none => rfl
  | some ⟨f, .due⟩ => exact absurd rfl (hx f)
  | some ⟨_, .submitted⟩ | some ⟨_, .waiting _⟩ => rfl

theorem State.quiet.nothingWaits (hq : s.quiet o p) : s.nothingWaits o := by
  cases o with
  | peerTable | swapUnit => trivial
  | imageUnit => exact hq
  | headUnit h => exact ⟨fun hdue => absurd hdue hq.1, fun f tm hf => absurd hf (hq.2 f tm)⟩
  | storeUnit => exact ⟨filter_isDue_none hq.1, filter_isDue_none hq.2.1, hq.2.2⟩

/-- A block with nothing else to submit submits nothing behind its admitted request (R32). -/
theorem heldRequestAdmit_alone (hd : 0 < s.fe.admissionsDue) (hn : nextHeld s.fe.held = some (o, p))
    (hr : s.refusedAtOnce p = false) (hq : s.quiet o p) :
    heldRequestAdmit s = queueFrame o p (requestTaken o s) := by
  have hw : (queueFrame o p (requestTaken o s)).nothingWaits o := by
    cases o <;> exact hq.nothingWaits
  rw [heldRequestAdmit_admits hd hn hr, afterAdmission_nothing hw]

end
end Sys2Proof.Machine

namespace Sys2Proof.Machine
open State Sys2Proof.Config

/-! ## What waits behind an admitted request -/

section
variable {s : State} {h : Head} {o : Origin} {p : Payload} {f : PoolFrame}

theorem refusedAtOnce_queueFrame (hf : f.kind ≠ .claim) (o : Origin) (p : Payload) (s : State) :
    (queueFrame o p (requestTaken o s)).refusedAtOnce (.pool f) = s.refusedAtOnce (.pool f) := by
  rw [refusedAtOnce_other hf, refusedAtOnce_other hf]
  rfl

/-- The requests of the other blocks are held yet. -/
theorem holdsRequest_requestTaken (o : Origin) (p : Payload) (s : State) :
    (queueFrame o p (requestTaken o s)).holdsRequest o = false := by
  have hothers : ∀ r ∈ s.fe.held.filter (fun r => r.1 != o), (r.1 == o) = false := fun r hr => by
    simpa using (List.mem_filter.1 hr).2
  exact List.any_eq_false.2 fun r hr => by simp [hothers r hr]

/-- A DUE report is submitted while the unit holds no request (R148). -/
theorem submitReport_taken {r : HeadRecord} (hrec : (s.head h).record = some r) (hdue : (s.head h).report = .due)
    (hsync : s.synced = true) (hheld : s.holdsRequest (.headUnit h) = false)
    (hr : s.refusedAtOnce (.pool (.quarantine r.serial (s.head h).reportReason 1)) = false) :
    submitReport h s = (submit (.headUnit h) (.pool (.quarantine r.serial (s.head h).reportReason 1)) s).1.mapHead h
      fun u => { u with report := .outstanding, reportRetry := none } := by
  simp only [submitReport, hrec]
  rw [if_pos ⟨hdue, hsync, by rw [hheld]; rfl⟩]
  split
  next hnot => exact absurd hnot (submit_taken hr _)
  all_goals rfl

/-- A DUE report goes behind the unit's admitted request (R148). -/
theorem afterAdmission_report {r : HeadRecord} (hr : s.refusedAtOnce p = false) (hp : p.isPool = true)
    (hrec : (s.head h).record = some r) (hdue : (s.head h).report = .due) (hretry : (s.head h).reportRetry = none)
    (hdeclare : (s.head h).declare = none) :
    let q : Payload := .pool (.quarantine r.serial (s.head h).reportReason 1)
    let t := afterAdmission (.headUnit h) (queueFrame (.headUnit h) p (requestTaken (.headUnit h) s))
    t.submitted (.headUnit h) p ∧ t.submitted (.headUnit h) q ∧ t.head h = { s.head h with report := .outstanding } := by
  intro q t
  obtain ⟨u, hu⟩ : ∃ u, queueFrame (.headUnit h) p (requestTaken (.headUnit h) s) = u := ⟨_, rfl⟩
  have hhead : u.head h = s.head h := by rw [← hu]; rfl
  have hsync : s.synced = true := synced_of_refusedAtOnce hr hp
  have hfree : u.refusedAtOnce q = false := by
    rw [← hu]
    have hk : (PoolFrame.quarantine r.serial (s.head h).reportReason 1).kind ≠ .claim := by simp [PoolFrame.kind]
    exact (refusedAtOnce_queueFrame hk _ _ _).trans (refusedAtOnce_pool hr hp hk)
  have hreport : submitReport h u = (submit (.headUnit h) q u).1.mapHead h fun x =>
      { x with report := .outstanding, reportRetry := none } := by
    have htaken := submitReport_taken (h := h) (s := u) (by rw [hhead]; exact hrec) (by rw [hhead]; exact hdue)
      (by rw [← hu]; exact hsync) (by rw [← hu]; exact holdsRequest_requestTaken _ _ _)
      (by rw [hhead]; exact hfree)
    rwa [hhead] at htaken
  have hunit : (submitReport h u).head h = { s.head h with report := .outstanding } := by
    rw [hreport, mapHead_head_self, submit_rest]
    show { u.head h with report := .outstanding, reportRetry := none } = _
    rw [hhead, ← hretry]
  have ht : t = submitReport h u := by
    have hnone : (u.head h).reportRetry = none := by rw [hhead, hretry]
    show afterAdmission (.headUnit h) (queueFrame (.headUnit h) p (requestTaken (.headUnit h) s)) = _
    rw [hu]
    simp only [afterAdmission, hnone, Option.isSome_none, Bool.false_eq_true, if_false]
    exact declareRetry_idle fun f tm hf => by rw [hunit] at hf; exact absurd (hdeclare.symm.trans hf) nofun
  rw [ht]
  refine ⟨?_, ?_, hunit⟩
  · rw [hreport]
    exact (hu ▸ queueFrame_submitted _ p _ : u.submitted (.headUnit h) p).submit
  · rw [hreport]
    exact submit_submitted hfree

theorem storePumpFrom_idle (hs : storeSubmitOne s = s) (n : Nat) : storePumpFrom n s = s := by
  induction n with
  | zero => rfl
  | succ n ih => rw [storePumpFrom, hs, ih, ite_self]

/-- One request goes from the send list, and the unit has no other (R168). -/
theorem storePump_one (hjob : s.store.jobFrame = none) (htrack : s.store.track = none) (hlist : s.store.sendList = [f])
    (hheld : s.holdsRequest .storeUnit = false) (hr : s.refusedAtOnce (.pool f) = false) :
    storePump s = (submit .storeUnit (.pool f) (s.mapStore fun u => { u with sendList := [] })).1 := by
  have hone : storeSubmitOne s = (submit .storeUnit (.pool f) (s.mapStore fun u => { u with sendList := [] })).1 := by
    simp only [storeSubmitOne, hjob, htrack, hlist, Option.filter_none]
    split
    next hnot => exact absurd hnot (submit_taken (by exact hr) _)
    all_goals rfl
  show (if s.holdsRequest .storeUnit = true then s else storePumpFrom 17 (storeSubmitOne s)) = _
  rw [hheld, if_neg nofun, hone]
  refine storePumpFrom_idle ?_ 17
  rw [submit_rest]
  simp [storeSubmitOne, hjob, htrack]

/-- A send-list request goes behind the unit's admitted request (R168). -/
theorem afterAdmission_sendList (hr : s.refusedAtOnce p = false) (hp : p.isPool = true)
    (hjob : s.store.jobFrame = none) (htrack : s.store.track = none) (hlist : s.store.sendList = [f])
    (hf : f.kind ≠ .claim) :
    let t := afterAdmission .storeUnit (queueFrame .storeUnit p (requestTaken .storeUnit s))
    t.submitted .storeUnit p ∧ t.submitted .storeUnit (.pool f) ∧ t.store = { s.store with sendList := [] } := by
  intro t
  have hfree : (queueFrame .storeUnit p (requestTaken .storeUnit s)).refusedAtOnce (.pool f) = false :=
    (refusedAtOnce_queueFrame hf _ _ _).trans (refusedAtOnce_pool hr hp hf)
  have ht : t = _ := storePump_one hjob htrack hlist (holdsRequest_requestTaken _ _ _) hfree
  rw [ht]
  refine ⟨State.submitted.submit ?_, submit_submitted hfree, ?_⟩
  · exact queueFrame_submitted _ p (requestTaken .storeUnit s)
  · rw [submit_rest]
    rfl

/-- A frame kept by the image unit goes behind its admitted request (notes/assumptions/11.md). -/
theorem afterAdmission_deferred {q : Payload} (hr : s.refusedAtOnce p = false) (hdeferred : s.image.deferred = some q)
    (hq : q.isPool = false) :
    let t := afterAdmission .imageUnit (queueFrame .imageUnit p (requestTaken .imageUnit s))
    t.submitted .imageUnit p ∧ t.submitted .imageUnit q ∧ t.image = { s.image with deferred := none } := by
  intro t
  generalize hu : (queueFrame .imageUnit p (requestTaken .imageUnit s)).mapImage (fun u => { u with deferred := none }) = u
  have hfree : u.refusedAtOnce q = false := by
    simp only [State.refusedAtOnce, Bool.or_eq_false_iff] at hr
    rw [← hu, refusedAtOnce_unpooled hq]
    exact hr.1.1
  have hheld : u.holdsRequest .imageUnit = false := by
    rw [← hu]
    exact holdsRequest_requestTaken _ p s
  have hsubmit : submitImage q u = ((submit .imageUnit q u).1, (submit .imageUnit q u).2 == .notSent) := by
    rw [submitImage, hheld]
    exact if_neg nofun
  have ht : t = (submit .imageUnit q u).1 := by
    show (match s.image.deferred with | some p => _ | none => _) = _
    rw [hdeferred]
    dsimp only
    rw [hu, hsubmit]
    exact if_neg (by simpa using submit_taken hfree .imageUnit)
  rw [ht]
  refine ⟨State.submitted.submit ?_, submit_submitted hfree, ?_⟩
  · rw [← hu]
    exact queueFrame_submitted _ p (requestTaken .imageUnit s)
  · rw [submit_rest, ← hu]
    rfl

end
end Sys2Proof.Machine

namespace Sys2Proof.Machine
open State Sys2Proof.Config

/-! ## A dropped CLAIM, RELEASE, MOUNT, QUARANTINE or DECLARE at its swap unit (R152, R154) -/

/-- A CLAIM for the head is refused at once. -/
def State.claimBarred (s : State) (h : Head) : Prop :=
  ∀ family, s.refusedAtOnce (.pool (.claim (headByte h) family)) = true

/-- Only swap units differ, and unit `h` calls for no frame. -/
structure SwapOnly (h : Head) (s t : State) : Prop where
  rest : t = { s with swaps := t.swaps }
  wants : (t.swap h).wants = []

section
variable {s t : State} {h : Head} {p : Payload} {f : PoolFrame}

theorem SwapOnly.refl (hw : (s.swap h).wants = []) : SwapOnly h s s := ⟨rfl, hw⟩

theorem SwapOnly.claimBarred (ht : SwapOnly h s t) (hb : s.claimBarred h) : t.claimBarred h := by
  intro family
  rw [ht.rest]
  exact hb family

theorem SwapOnly.mapSwap {g : SwapUnit → SwapUnit} (hg : ∀ u, (g u).wants = u.wants) (ht : SwapOnly h s t) :
    SwapOnly h s (t.mapSwap h g) := by
  refine ⟨?_, ?_⟩
  · conv_lhs => rw [ht.rest]
    rw [State.mapSwap, State.mapSwap, ht.rest]
  · rw [mapSwap_swap_self, hg, ht.wants]

theorem SwapOnly.enterBackoff (family : BitVec 4) (ht : SwapOnly h s t) : SwapOnly h s (enterBackoff h family t) :=
  ht.mapSwap fun _ => rfl

theorem SwapOnly.claimTest (ht : SwapOnly h s t) (hb : s.claimBarred h) : SwapOnly h s (claimTest h t) := by
  unfold Machine.claimTest
  split
  · unfold submitClaim
    dsimp only
    rw [submit_refused (ht.claimBarred hb _)]
    exact ht.enterBackoff _
  · exact ht

theorem SwapOnly.swapFrameEnded (ht : SwapOnly h s t) (hb : s.claimBarred h) : SwapOnly h s (swapFrameEnded h t) := by
  rw [Machine.swapFrameEnded, swapPump_nil ht.wants]
  exact ht.claimTest hb

theorem SwapOnly.declareEnded (ht : SwapOnly h s t) (hb : s.claimBarred h) : SwapOnly h s (declareEnded h t) := by
  have htag : SwapOnly h s (t.mapSwap h fun u => { u with tagDeclare := false }) := ht.mapSwap fun _ => rfl
  unfold Machine.declareEnded
  dsimp only
  split
  · unfold Machine.endBackoff
    dsimp only
    split
    · exact htag
    · split
      · exact htag.mapSwap fun _ => rfl
      · exact SwapOnly.claimTest (htag.mapSwap fun _ => rfl) hb
  · exact htag.claimTest hb

/-- A swap unit that is told *not sent* submits nothing while its CLAIM would be refused. -/
theorem swapNotSent_only (f : PoolFrame) (hw : (s.swap h).wants = []) (hb : s.claimBarred h) :
    SwapOnly h s (swapNotSent h f s) := by
  have hfree : SwapOnly h s (s.mapSwap h fun x => { x with outstanding := none }) :=
    (SwapOnly.refl hw).mapSwap fun _ => rfl
  unfold swapNotSent
  dsimp only
  split
  · split
    · split
      · exact (hfree.enterBackoff _).swapFrameEnded hb
      · exact hfree.swapFrameEnded hb
    · have hended := hfree.declareEnded hb
      rw [swapPump_nil hended.wants]
      exact hended
    · exact SwapOnly.swapFrameEnded (hfree.mapSwap fun _ => rfl) hb
  · exact .refl hw

/-- What refuses a frame of the swap unit refuses a CLAIM of its head. -/
theorem claimBarred_of_refused (hr : s.refusedAtOnce (.pool f) = true)
    (hq : ∀ head family, f = .claim head family → head = headByte h) : s.claimBarred h := by
  intro family
  by_cases hf : f.kind = .claim
  · obtain ⟨head, g, rfl⟩ : ∃ head g, f = .claim head g := by
      cases f <;> simp [PoolFrame.kind] at hf ⊢
    rw [hq head g rfl] at hr
    exact hr
  · rw [refusedAtOnce_other hf] at hr
    rw [refusedAtOnce_claim, hr, Bool.true_or]

/-- A RELEASE, MOUNT or QUARANTINE waits a roll interval (R152). -/
theorem swapNotSent_retries {st : SwapState} (hk : f.kind = .release ∨ f.kind = .mount ∨ f.kind = .quarantine)
    (ho : (s.swap h).outstanding = some ⟨f, false, st⟩) (hs : (s.swap h).state ≠ .idle) (hw : (s.swap h).wants = []) :
    (swapNotSent h f s).swap h = { s.swap h with
      outstanding := none
      retries := (s.swap h).retries ++ [⟨f, ⟨s.timeBase, s.constants.rollIntervalMs * 1000⟩, st⟩] } := by
  have hf : (s.swap h).outstanding.filter (fun o => decide (o.frame = f)) = some ⟨f, false, st⟩ := by simp [ho]
  have hcall : swapNotSent h f s = swapFrameEnded h ((s.mapSwap h fun x => { x with outstanding := none }).mapSwap h
      fun x => { x with retries := x.retries ++ [⟨f, s.timer s.rollInterval, st⟩] }) := by
    cases f with
    | claim | declare => simp [PoolFrame.kind] at hk
    | _ => simp only [swapNotSent, hf]; rfl
  rw [hcall]
  generalize hb : (s.mapSwap h fun x => { x with outstanding := none }).mapSwap h
      (fun x => { x with retries := x.retries ++ [⟨f, s.timer s.rollInterval, st⟩] }) = b
  have hbs : b.swap h = { s.swap h with
      outstanding := none
      retries := (s.swap h).retries ++ [⟨f, ⟨s.timeBase, s.constants.rollIntervalMs * 1000⟩, st⟩] } := by
    rw [← hb, mapSwap_swap_self, mapSwap_swap_self]
    rfl
  have hclaim : b.mayClaim h = false := by simp [State.mayClaim, hbs, hs]
  rw [swapFrameEnded, swapPump_nil (by rw [hbs]; exact hw), claimTest, if_neg (by simp [hclaim]), hbs]

end
end Sys2Proof.Machine

namespace Sys2Proof.Machine
open State Sys2Proof.Config

/-! ## A dropped breakage report or reconciliation DECLARE at its head unit (R108, R148) -/

section
variable {s : State} {h : Head} {o : Origin} {p : Payload} {f : PoolFrame}

/-- A timer just started runs. -/
theorem timer_not_due {n : Nat} (hn : 0 < n) : (s.timer n).due s.now = false := by
  have hzero : elapsed s.now s.now = 0 := by simp [elapsed]
  show decide (n ≤ elapsed s.now s.now) = false
  rw [hzero]
  exact decide_eq_false (Nat.not_le.2 hn)

theorem headNotSent_rest (h : Head) (f : PoolFrame) (s : State) :
    headNotSent h f s = { s with heads := (headNotSent h f s).heads } := by
  unfold headNotSent
  dsimp only
  split
  · split <;> rfl
  · split <;> rfl
  · rfl

/-- The reconciliation DECLARE waits a roll interval (R108). -/
theorem headNotSent_declare (hd : (s.head h).declare = some ⟨f, none⟩) (hk : f.kind = .declare) :
    headNotSent h f s = s.mapHead h fun x => { x with declare := some ⟨f, some (s.timer s.rollInterval)⟩ } := by
  cases f with
  | declare => exact if_pos hd
  | _ => simp [PoolFrame.kind] at hk

/-- What is not sent at a head unit waits for its timer (R108, R148). -/
theorem headNotSent_nothingWaits (hq : s.quiet (.headUnit h) p) (hroll : 0 < s.rollInterval) :
    (headNotSent h f s).nothingWaits (.headUnit h) := by
  obtain ⟨hreport, hdeclare⟩ := hq
  have hkeeps : s.nothingWaits (.headUnit h) := State.quiet.nothingWaits (p := p) ⟨hreport, hdeclare⟩
  unfold headNotSent
  dsimp only
  split
  · split
    · simp only [State.nothingWaits, mapHead_head_self, Option.isSome_some, implies_true, true_and]
      exact fun g tm hg => absurd hg (hdeclare g tm)
    · exact hkeeps
  · split
    · simp only [State.nothingWaits, mapHead_head_self, mapHead_now]
      refine ⟨fun hdue => absurd hdue hreport, fun g tm hg => ?_⟩
      obtain ⟨-, rfl⟩ : _ ∧ s.timer s.rollInterval = tm := by simpa using hg
      exact timer_not_due hroll
    · exact hkeeps
  · exact hkeeps

/-! ## A dropped frame of the store unit (R168, R178) -/

/-- The frame waits, or its request is dropped. -/
def storeDropped (f : PoolFrame) (s : State) : State :=
  if s.store.awaitsJob f then s.mapStore fun u => { u with jobFrame := some ⟨f, .waiting (s.timer s.rollInterval)⟩ }
  else if s.store.awaitsTrack f then s.mapStore fun u => { u with track := some ⟨f, .waiting (s.timer s.rollInterval)⟩ }
  else requestFailed f s

theorem storeNotSent_eq (f : PoolFrame) (s : State) : storeNotSent f s = storePump (storeDropped f s) := rfl

theorem awaitsJob_iff : s.store.awaitsJob f = true ↔ s.store.jobFrame = some ⟨f, .submitted⟩ := by
  simp [StoreUnit.awaitsJob]

theorem awaitsTrack_iff : s.store.awaitsTrack f = true ↔ s.store.track = some ⟨f, .submitted⟩ := by
  simp [StoreUnit.awaitsTrack]

theorem requestFailed_rest (f : PoolFrame) (s : State) :
    requestFailed f s = s.mapStore fun u => { u with claims := (requestFailed f s).store.claims } := by
  unfold requestFailed
  split
  · split <;> rfl
  · rfl

theorem requestFailed_expired (x : Serial) (s : State) : (requestFailed (.release x releaseExpired) s).store.claims
    = s.store.claims.map fun c => if c.serial = x then { c with releasePending := false } else c := by
  simp only [requestFailed, if_true, clearReleasePending, mapStore_store]

theorem requestFailed_other (hf : ∀ x, f ≠ .release x releaseExpired) : requestFailed f s = s := by
  unfold requestFailed
  split
  next serial reason => rw [if_neg fun he => hf serial (by rw [he])]
  next => rfl

theorem storeDropped_nothingWaits (hq : s.quiet .storeUnit p) : (storeDropped f s).nothingWaits .storeUnit := by
  obtain ⟨hjob, htrack, hlist⟩ := State.quiet.nothingWaits hq
  unfold storeDropped
  split
  · exact ⟨rfl, htrack, hlist⟩
  · split
    · exact ⟨hjob, rfl, hlist⟩
    · rw [requestFailed_rest]
      exact ⟨hjob, htrack, hlist⟩

/-- The store unit with nothing else to submit submits nothing (R168). -/
theorem storeNotSent_quiet (hq : s.quiet .storeUnit p) : storeNotSent f s = storeDropped f s := by
  obtain ⟨hjob, htrack, hlist⟩ := storeDropped_nothingWaits (f := f) hq
  rw [storeNotSent_eq, storePump_nothing hjob htrack hlist]

theorem storeDropped_rest (f : PoolFrame) (s : State) :
    storeDropped f s = { s with store := (storeDropped f s).store } := by
  unfold storeDropped
  split
  · rfl
  · split
    · rfl
    · rw [requestFailed_rest]
      rfl

/-! ## A dropped frame at its originator -/

theorem imageNotSent_held (hh : ∀ r ∈ s.fe.held, r.1 ≠ .imageUnit) (p : Payload) :
    (imageNotSent p s).fe.held = s.fe.held := by
  cases p with
  | imagePart =>
    refine List.filter_eq_self.2 fun r hr => ?_
    simp [hh r hr]
  | _ => rfl

theorem imageNotSent_deferred (hd : s.image.deferred = none) (p : Payload) : (imageNotSent p s).image.deferred = none := by
  cases p with
  | imagePart =>
    show s.image.deferred.filter _ = none
    rw [hd]
    rfl
  | _ => exact hd

/-- A block told *not sent* has nothing more to submit (R32). -/
theorem deliverNotSent_nothingWaits (hq : s.quiet o p) (hroll : 0 < s.rollInterval) :
    (deliverNotSent (some (o, p)) s).nothingWaits o := by
  cases o with
  | peerTable | swapUnit => trivial
  | imageUnit => exact imageNotSent_deferred hq p
  | headUnit h =>
    cases p with
    | pool f => exact headNotSent_nothingWaits hq hroll
    | _ => exact State.quiet.nothingWaits hq
  | storeUnit =>
    cases p with
    | pool f =>
      show (storeNotSent f s).nothingWaits _
      rw [storeNotSent_quiet hq]
      exact storeDropped_nothingWaits hq
    | _ => exact State.quiet.nothingWaits hq

/-- No block but the image unit changes the queues where it is told *not sent*. -/
theorem deliverNotSent_fe (ho : o ≠ .imageUnit) (hq : s.quiet o p) (hr : s.refusedAtOnce p = true) :
    (deliverNotSent (some (o, p)) s).fe = s.fe := by
  cases o with
  | imageUnit => exact absurd rfl ho
  | peerTable =>
    rw [deliverNotSent_peerTable]
    split <;> rfl
  | swapUnit h =>
    cases p with
    | pool f =>
      obtain ⟨hwants, hclaim⟩ := hq
      have honly := swapNotSent_only (h := h) f hwants
        (claimBarred_of_refused hr fun head family hf => hclaim head family (by rw [hf]))
      show (swapNotSent h f s).fe = s.fe
      rw [honly.rest]
    | _ => rfl
  | headUnit h =>
    cases p with
    | pool f =>
      show (headNotSent h f s).fe = s.fe
      rw [headNotSent_rest]
    | _ => rfl
  | storeUnit =>
    cases p with
    | pool f =>
      show (storeNotSent f s).fe = s.fe
      rw [storeNotSent_quiet hq, storeDropped_rest]
    | _ => rfl

theorem deliverNotSent_held (hh : ∀ r ∈ s.fe.held, r.1 ≠ o) (hq : s.quiet o p) (hr : s.refusedAtOnce p = true) :
    (deliverNotSent (some (o, p)) s).fe.held = s.fe.held := by
  by_cases ho : o = .imageUnit
  · subst ho
    exact imageNotSent_held hh p
  · rw [deliverNotSent_fe ho hq hr]

end
end Sys2Proof.Machine

namespace Sys2Proof.Machine
open State Sys2Proof.Config

/-! ## The obligation of R32 -/

section
variable {s : State} {o : Origin} {p : Payload} {before after : List (Origin × Payload)}

/-- A dropped request of a block with nothing else to submit (R32). -/
theorem heldRequestAdmit_dropped (hd : 0 < s.fe.admissionsDue) (hn : nextHeld s.fe.held = some (o, p))
    (hr : s.refusedAtOnce p = true) (hq : s.quiet o p) (hroll : 0 < s.constants.rollIntervalMs) :
    heldRequestAdmit s = deliverNotSent (some (o, p)) (requestTaken o s) := by
  have hq' : (requestTaken o s).quiet o p := by
    cases o <;> exact hq
  have hroll' : 0 < (requestTaken o s).rollInterval := Nat.mul_pos hroll (by decide)
  rw [heldRequestAdmit_drops hd hn hr, afterAdmission_nothing (deliverNotSent_nothingWaits hq' hroll')]

/-- The held requests and the transmit queue behind a dropped request. -/
theorem deliverNotSent_queues (hheld : s.fe.held = before ++ (o, p) :: after) (hothers : ∀ r ∈ before ++ after, r.1 ≠ o)
    (hr : s.refusedAtOnce p = true) (hq : s.quiet o p) :
    (deliverNotSent (some (o, p)) (requestTaken o s)).fe.held = before ++ after
      ∧ (o ≠ .imageUnit → (deliverNotSent (some (o, p)) (requestTaken o s)).fe.txQueue = s.fe.txQueue) := by
  have hq' : (requestTaken o s).quiet o p := by
    cases o <;> exact hq
  have htaken := requestTaken_held hheld hothers
  refine ⟨?_, fun ho => ?_⟩
  · rw [deliverNotSent_held (by rw [htaken]; exact hothers) hq' hr, htaken]
  · rw [deliverNotSent_fe ho hq' hr]
    rfl

/-- The store's job frame waits a roll interval, whatever else waits for its timer (R168). -/
theorem storeNotSent_awaitsJob {f : PoolFrame} (hq : s.quiet .storeUnit p)
    (hjob : s.store.jobFrame = some ⟨f, .submitted⟩) : (storeNotSent f s).store = { s.store with
      jobFrame := some ⟨f, .waiting ⟨s.timeBase, s.constants.rollIntervalMs * 1000⟩⟩ } := by
  rw [storeNotSent_quiet hq, storeDropped, if_pos (awaitsJob_iff.2 hjob)]
  rfl

/-- The track scan's frame waits a roll interval (R168). -/
theorem storeNotSent_awaitsTrack {f : PoolFrame} (hq : s.quiet .storeUnit p)
    (hjob : s.store.jobFrame ≠ some ⟨f, .submitted⟩) (htrack : s.store.track = some ⟨f, .submitted⟩) :
    (storeNotSent f s).store = { s.store with
      track := some ⟨f, .waiting ⟨s.timeBase, s.constants.rollIntervalMs * 1000⟩⟩ } := by
  rw [storeNotSent_quiet hq, storeDropped, if_neg (mt awaitsJob_iff.1 hjob), if_pos (awaitsTrack_iff.2 htrack)]
  rfl

/-- A send-list request that is dropped (R168, R178). -/
theorem storeNotSent_dropped {f : PoolFrame} (hq : s.quiet .storeUnit p) (hjob : s.store.jobFrame ≠ some ⟨f, .submitted⟩)
    (htrack : s.store.track ≠ some ⟨f, .submitted⟩) :
    (storeNotSent f s).store.sendList = []
      ∧ (storeNotSent f s).store = { s.store with claims := (storeNotSent f s).store.claims }
      ∧ (∀ x, f = .release x releaseExpired → (storeNotSent f s).store.claims = s.store.claims.map fun c =>
          if c.serial = x then { c with releasePending := false } else c)
      ∧ ((∀ x, f ≠ .release x releaseExpired) → (storeNotSent f s).store.claims = s.store.claims) := by
  have hfailed : storeNotSent f s = requestFailed f s := by
    rw [storeNotSent_quiet hq, storeDropped, if_neg (mt awaitsJob_iff.1 hjob), if_neg (mt awaitsTrack_iff.1 htrack)]
  rw [hfailed]
  refine ⟨?_, ?_, fun x hx => ?_, fun hx => ?_⟩
  · rw [requestFailed_rest]
    exact hq.2.2
  · exact congrArg State.store (requestFailed_rest f s)
  · rw [hx, requestFailed_expired]
  · rw [requestFailed_other hx]

end

/-- Settles O17: the rows of R32 in order; a block with nothing else to submit leaves the station as the admission makes it,
and what waits is submitted behind it; a dropped request is told to its block alone. -/
theorem submissionAndAdmission : Obligations.SubmissionAndAdmission := by
  refine ⟨submit_byRows, fun p o before after s hd hheld hbefore hafter hothers hroll => ?_⟩
  intro again submitted quiet
  have hquiet : quiet → s.quiet o p := by
    cases o <;> exact id
  have hn : nextHeld s.fe.held = some (o, p) := by rw [hheld]; exact nextHeld_eq hbefore hafter
  obtain ⟨hcell, hpool, hrx⟩ := heldRequestAdmit_kept hd hn
  refine ⟨heldRequestAdmit s, rfl, hcell, hpool, hrx, fun hr hq => ?_, ?_, ?_, ?_, fun hr hq => ?_⟩
  · rw [heldRequestAdmit_alone hd hn hr (hquiet hq)]
    exact ⟨requestTaken_held hheld hothers, rfl, rfl, rfl, rfl, rfl, rfl, queueFrame_place o p (requestTaken o s)⟩
  · rintro h r hr hp rfl hrec hdue hretry hdeclare
    rw [heldRequestAdmit_admits hd hn hr]
    exact afterAdmission_report hr hp hrec hdue hretry hdeclare
  · rintro f hr hp rfl hjob htrack hlist hf
    rw [heldRequestAdmit_admits hd hn hr]
    exact afterAdmission_sendList hr hp hjob htrack hlist hf
  · rintro q hr rfl hdeferred hunpooled
    rw [heldRequestAdmit_admits hd hn hr]
    exact afterAdmission_deferred hr hdeferred hunpooled
  · have hq' := hquiet hq
    rw [heldRequestAdmit_dropped hd hn hr hq' hroll]
    obtain ⟨hleft, hqueue⟩ := deliverNotSent_queues hheld hothers hr hq'
    refine ⟨hleft, hqueue, ?_, ?_, ?_, ?_, ?_, ?_, ?_, ?_⟩
    · rintro rfl hfault
      rw [deliverNotSent_peerTable, if_pos (by exact hfault)]
      rfl
    · rintro h head family rfl rfl ho hs
      exact swapNotSent_claiming (s := requestTaken (.swapUnit h) s) ho hs hq'.1
    · rintro h f st rfl rfl hk ho hs
      exact swapNotSent_retries (s := requestTaken (.swapUnit h) s) hk ho hs hq'.1
    · rintro h f rfl rfl hdeclare hk
      have hwaits := headNotSent_declare (s := requestTaken (.headUnit h) s) hdeclare hk
      exact (congrArg (State.head · h) hwaits).trans (mapHead_head_self _ _)
    · rintro h r reason rfl rfl hrec hreport
      exact headNotSent_report (reason := reason) (keep := 1) (s := requestTaken (.headUnit h) s) hrec hreport
    · rintro f rfl rfl hjob
      exact storeNotSent_awaitsJob (s := requestTaken .storeUnit s) (p := .pool f) hq' hjob
    · rintro f rfl rfl hjob htrack
      exact storeNotSent_awaitsTrack (s := requestTaken .storeUnit s) (p := .pool f) hq' hjob htrack
    · rintro f rfl rfl hjob htrack
      exact storeNotSent_dropped (s := requestTaken .storeUnit s) (p := .pool f) hq' hjob htrack

end Sys2Proof.Machine

namespace Sys2Proof.Machine
open State Sys2Proof.Config

/-! ## The end of a stop call, and a mismatch in one (R40 to R42) -/

section
variable {s t : State} {q : StopRequest} {rs : List StopRequest} {part : StopPart} {chars : List WireChar}

theorem stopSend_stop (h : s.stop.requests = q :: rs) :
    (stopSend s).stop = { s.stop with requests := ⟨q.sends + 1, false⟩ :: rs, latch := true } := by
  unfold stopSend
  rw [h]
  cases s.transmitter <;> rfl

/-- Behind the last request nothing is sent (R40). -/
theorem removeStopRequest_last (h : s.stop.requests = [q]) :
    removeStopRequest s = s.mapStop fun u => { u with requests := [] } := by
  have htail : s.mapStop (fun u => { u with requests := u.requests.tail })
      = s.mapStop fun u => { u with requests := [] } := by rw [State.mapStop, h]; rfl
  rw [removeStopRequest, htail]
  rfl

theorem KeptByStopUnit.fe (h : KeptByStopUnit s t) : t.fe = s.fe := by rw [h.rest]

theorem KeptByStopUnit.pool (h : KeptByStopUnit s t) : t.pool = s.pool := by rw [h.rest]

theorem stopCallSendComplete_removes {late : Bool} (htx : s.transmitter = .stopCall chars late) :
    stopCallSendComplete s = removeStopRequest { s with transmitter := .idle } := by
  simp only [stopCallSendComplete, htx]

theorem readbackMismatch_stopCall (htx : s.transmitter = .stopCall chars false) (hl : s.line.loopInternal = false)
    (sentRecessive : Bool) : readbackMismatch (.stopCall part) sentRecessive s = stopMismatch part chars s := by
  simp [readbackMismatch, hl, htx]

/-- A mismatch up to the cell code ends the sending (R42). -/
theorem stopMismatch_ends (hs : part ≠ .sender) (hc : part ≠ .complement) (h : s.stop.requests = q :: rs) :
    stopMismatch part chars s
      = { s with transmitter := .idle, stop := { s.stop with requests := { q with awaiting := true } :: rs } } := by
  cases part with
  | sender => exact absurd rfl hs
  | complement => exact absurd rfl hc
  | longBreak | delimiter | sync | cellCode => simp only [stopMismatch, State.mapStop, h]

/-- One in the sender or the complement lets it go on (R42). -/
theorem stopMismatch_goesOn (h : part = .sender ∨ part = .complement) :
    stopMismatch part chars s = { s with transmitter := .stopCall chars true } := by
  rcases h with rfl | rfl <;> rfl

/-- What a mismatch in a stop call leaves (R42). -/
theorem stopMismatch_rest (part : StopPart) (chars : List WireChar) (s : State) : stopMismatch part chars s = { s with
    transmitter := (stopMismatch part chars s).transmitter, stop := (stopMismatch part chars s).stop } := by
  cases part <;> rfl

end

/-- Settles O18: the end removes the first request, and the part of the call decides what a mismatch does. -/
theorem stopCallCompletes : Obligations.StopCallCompletes := by
  intro chars late r s htx
  have hends := stopCallSendComplete_removes htx
  have hexec : exec .stopCallSendComplete s = .next (removeStopRequest { s with transmitter := .idle }) :=
    congrArg Host.Outcome.next hends
  have hframe : cellFrame s (removeStopRequest { s with transmitter := .idle }) :=
    hends ▸ ((unitFrame_stable s).stopCallSendComplete s (unitFrame_refl s)).1
  refine ⟨fun hq => ?_, fun r' hq => ?_, fun part b rs hloop hlate hq => ?_⟩
  · have hlast := removeStopRequest_last (s := { s with transmitter := .idle }) hq
    rw [hlast] at hexec hframe
    exact ⟨_, hexec, rfl, rfl, rfl, rfl, hframe, rfl⟩
  · have hkept := removeStopRequest_kept (s := { s with transmitter := .idle }) nofun
    obtain ⟨hsent, -⟩ := removeStopRequest_removed (s := { s with transmitter := .idle }) hq
    have hstop := stopSend_stop (q := r') (rs := [])
      (s := { s with transmitter := .idle }.mapStop fun u => { u with requests := u.requests.tail })
      (congrArg List.tail hq)
    exact ⟨_, hexec, hsent, hstop, hkept.fe, hkept.pool, hframe⟩
  · subst hlate
    have hstep := readbackMismatch_stopCall (part := part) htx hloop b
    refine ⟨stopMismatch part chars s, congrArg Host.Outcome.next hstep, by rw [stopMismatch_rest],
      by rw [stopMismatch_rest], by rw [stopMismatch_rest]; exact cellFrame_refl s, fun hs hc => ?_, fun hpart => ?_⟩
    · rw [stopMismatch_ends hs hc hq]
      exact ⟨rfl, rfl⟩
    · rw [stopMismatch_goesOn hpart]
      exact ⟨rfl, rfl⟩

end Sys2Proof.Machine

namespace Sys2Proof.Machine
open State Sys2Proof.Config

/-! ## A character at the matcher (R42 to R46) -/

section
variable {s : State} {c : CharSamples} {ch : Character} {stamp : Time} {taken matched missed : Nat}

theorem Character.good_iff : ch.good = true ↔ ch.mark = true ∧ ch.framing = false := by
  simp [Character.good]

/-- Samples that give a character go to the matcher, their noise counted where an attempt is in progress (R9). -/
theorem stopCharacter_taken (hc : decideCharacter c = some ch) (s : State) :
    ∃ g, stopCharacter c s = matcherTake ch (s.count g) := by
  by_cases hm : s.stop.matcher = .idle
  · exact ⟨id, by simp only [stopCharacter, matcherTake, hm, if_true, count_stop]; rfl⟩
  · exact ⟨_, by rw [stopCharacter, if_neg hm, hc, ← countNoise_eq]⟩

/-- An idle matcher, or samples that are no start edge (R4, R9). -/
theorem stopCharacter_passes (h : s.stop.matcher = .idle ∨ decideCharacter c = none) : stopCharacter c s = s := by
  unfold stopCharacter
  rcases h with hm | hc
  · rw [if_pos hm]
  · rw [hc]
    split <;> rfl

/-! ### What the matcher does, by its state (R44, R45) -/

theorem matcherTake_sync (hm : s.stop.matcher = .sync stamp taken) (hd : ch.data = 0xAA#8) (hg : ch.good = true) :
    matcherTake ch s = setMatcher (if 2 ≤ taken then .code stamp 0 0 0 else .sync stamp (taken + 1)) s := by
  simp only [matcherTake, hm, hd, hg, and_self, if_true, apply_ite (setMatcher · s)]

theorem matcherTake_match (hm : s.stop.matcher = .code stamp taken matched missed) (h4 : matched < 4)
    (hd : ch.data = s.constants.cellCode) (hg : ch.good = true) :
    matcherTake ch s = setMatcher (.code stamp (taken + 1) (matched + 1) missed) s := by
  have h5 : ¬5 ≤ matched := by omega
  have hlast : ¬matched + 1 = 5 := by omega
  simp only [matcherTake, hm, hd, hg, and_self, if_true, if_neg h5, if_neg hlast]

/-- The fifth match recognises the call. -/
theorem matcherTake_fifth (hm : s.stop.matcher = .code stamp taken 4 missed) (hd : ch.data = s.constants.cellCode)
    (hg : ch.good = true) : matcherTake ch s
      = recognise (setMatcher (if taken + 1 = 6 then .sender stamp else .code stamp (taken + 1) 5 missed) s) := by
  simp [matcherTake, hm, hd, hg]

theorem matcherTake_miss (hm : s.stop.matcher = .code stamp taken matched 0) (h5 : matched < 5)
    (hmiss : ¬(ch.data = s.constants.cellCode ∧ ch.good = true)) :
    matcherTake ch s = setMatcher (.code stamp (taken + 1) matched 1) s := by
  simp only [matcherTake, hm, if_neg (Nat.not_le.2 h5), if_neg hmiss]
  rfl

theorem matcherTake_recognised (hm : s.stop.matcher = .code stamp taken 5 missed) :
    matcherTake ch s = setMatcher (.sender stamp) s := by
  simp only [matcherTake, hm, Nat.le_refl, if_true]

theorem matcherTake_sender (hm : s.stop.matcher = .sender stamp) :
    matcherTake ch s = setMatcher (.complement stamp ch.data ch.good) s := by
  simp only [matcherTake, hm]

theorem matcherTake_complement {data : Byte} {sound : Bool} (hm : s.stop.matcher = .complement stamp data sound) :
    matcherTake ch s = matcherComplete stamp (knownSender data sound ch) s := by
  simp only [matcherTake, hm]

/-- The character ends the attempt: it is no good sync character, or a second miss (R44). -/
def State.attemptFailsAt (s : State) (ch : Character) : Prop :=
  (∃ stamp n, s.stop.matcher = .sync stamp n ∧ ¬(ch.data = 0xAA#8 ∧ ch.mark = true ∧ ch.framing = false))
    ∨ ∃ stamp taken matched missed, s.stop.matcher = .code stamp taken matched missed ∧ matched < 5 ∧ 1 ≤ missed
      ∧ ¬(ch.data = s.constants.cellCode ∧ ch.mark = true ∧ ch.framing = false)

theorem matcherTake_fails (h : s.attemptFailsAt ch) : matcherTake ch s = matcherMissed ch s := by
  rcases h with ⟨stamp, n, hm, hbad⟩ | ⟨stamp, taken, matched, missed, hm, h5, h1, hmiss⟩
  · simp only [matcherTake, hm, Character.good_iff, if_neg hbad]
  · have h2 : 2 ≤ missed + 1 := by omega
    simp only [matcherTake, hm, Character.good_iff, if_neg (Nat.not_le.2 h5), if_neg hmiss, if_pos h2]

theorem knownSender_eq (data : Byte) (sound : Bool) (ch : Character) : knownSender data sound ch
    = if sound = true ∧ (ch.mark = true ∧ ch.framing = false) ∧ 1 ≤ data.toNat ∧ data.toNat ≤ 30
        ∧ data.toNat + ch.data.toNat = 255
      then some (data.setWidth 5) else none := by
  simp only [knownSender, Bool.and_eq_true, decide_eq_true_eq, beq_iff_eq, Character.good_iff, and_assoc]

/-! ### The request of this station (R40, R42) -/

theorem satisfyRequest_idle (h : s.awaitingResolution = false) : satisfyRequest s = s := by simp [satisfyRequest, h]

theorem satisfyRequest_removes (h : s.awaitingResolution = true) : satisfyRequest s = removeStopRequest s := if_pos h

/-- The latch behind a recognition (R44, R46). -/
def latchedByCall (s : State) : State := s.mapStop fun u => { u with latch := u.latch || s.constants.obeyPeerStop }

theorem recognise_eq (s : State) : recognise s = satisfyRequest (latchedByCall s) := by
  unfold recognise latchedByCall setLatch State.mapStop
  cases s.constants.obeyPeerStop <;> simp

theorem recognise_idle (h : s.awaitingResolution = false) : recognise s = latchedByCall s :=
  (recognise_eq s).trans (satisfyRequest_idle h)

theorem matcherMissed_framing (hf : ch.framing = true) : matcherMissed ch s
    = s.mapStop fun u => { u with matcher := .idle, failHeld := s.awaitingResolution } := if_pos hf

theorem matcherMissed_clean (hf : ch.framing = false) : matcherMissed ch s = matcherFailed s := by
  simp [matcherMissed, hf]

/-- The last request is removed at the event that would send it a fifth time (R42). -/
theorem resendRequest_last {q : StopRequest} (hq : s.stop.requests = [q]) (ha : q.awaiting = true) (h4 : 4 ≤ q.sends) :
    resendRequest s = s.mapStop fun u => { u with requests := [], failHeld := false } := by
  have hw : s.awaitingResolution = true := (awaitingResolution_cons hq).trans ha
  simp only [resendRequest, hw, if_true, mapStop_stop, hq, List.head?_cons, Option.map_some, Option.getD_some, if_pos h4]
  exact removeStopRequest_last (s := s.mapStop fun u => { u with failHeld := false }) hq

/-- The frame engine has no part where nothing is sent: with no request to resolve, or none behind the one that is. -/
theorem satisfyRequest_fe (h : s.awaitingResolution = false ∨ ∃ q, s.stop.requests = [q]) :
    (satisfyRequest s).fe = s.fe := by
  unfold satisfyRequest
  split
  · next ha =>
    rcases h with h | ⟨q, hq⟩
    · simp [h] at ha
    · rw [removeStopRequest_last hq]
      rfl
  · rfl

/-- A recognition satisfies the request that awaits resolution (R44). -/
theorem recognise_removed {q : StopRequest} {rs : List StopRequest} (hq : s.stop.requests = q :: rs)
    (ha : q.awaiting = true) :
    requestRemoved s s.transmitter rs (recognise s) ∧ (recognise s).stop.matcher = s.stop.matcher
      ∧ (rs = [] → (recognise s).fe = s.fe ∧ (recognise s).stop.latch = (s.stop.latch || s.constants.obeyPeerStop)) := by
  have hw : (latchedByCall s).awaitingResolution = true := (awaitingResolution_cons hq).trans ha
  obtain ⟨hremoved, hlatch⟩ := removeStopRequest_removed (s := latchedByCall s) hq
  rw [recognise_eq, satisfyRequest_removes hw]
  refine ⟨hremoved, (stopSend_matcher _).1, fun hrs => ⟨?_, hlatch hrs⟩⟩
  rw [removeStopRequest_last (s := latchedByCall s) (hq.trans (by rw [hrs]))]
  rfl

theorem matcherComplete_fe {sender : Option Station} (h : s.awaitingResolution = false ∨ ∃ q, s.stop.requests = [q]) :
    (matcherComplete stamp sender s).fe = s.fe :=
  satisfyRequest_fe (s := s.mapStop fun u => { u with matcher := .idle, event := some ⟨stamp, sender⟩ }) h

theorem matcherFailed_fe (h : s.awaitingResolution = false
    ∨ ∃ q, s.stop.requests = [q] ∧ q.awaiting = true ∧ 4 ≤ q.sends) : (matcherFailed s).fe = s.fe := by
  rcases h with h | ⟨q, hq, ha, h4⟩
  · rw [matcherFailed, resendRequest_idle (by exact h)]
    rfl
  · rw [matcherFailed, resendRequest_last (by exact hq) ha h4]
    rfl

end

/-- Settles O19: the matcher's state decides what a character does, and the attempt's end what follows for the request. -/
theorem stopCharacterIsMatched : Obligations.StopCharacterIsMatched := by
  refine ⟨fun c s h => congrArg Host.Outcome.next (stopCharacter_passes h), fun c ch s hc => ?_⟩
  intro good hit event after fails
  have hframe := (unitFrame_stable s).toLineStable.stopCharacter c s (unitFrame_refl s)
  obtain ⟨hcell, -, -, -, hpool, -⟩ := hframe
  obtain ⟨g, htaken⟩ := stopCharacter_taken hc s
  have hexec : exec (.stopCharacter c) s = .next (matcherTake ch (s.count g)) := congrArg Host.Outcome.next htaken
  rw [htaken] at hcell hpool
  have hgood : ch.good = true ↔ good := Character.good_iff
  have hmiss (hn : ¬hit) : ¬(ch.data = s.constants.cellCode ∧ ch.good = true) := by rwa [hgood]
  have hfails (hf : fails) : matcherTake ch (s.count g) = matcherMissed ch (s.count g) := matcherTake_fails hf
  have moves (m : Matcher) (h : matcherTake ch (s.count g) = setMatcher m (s.count g)) :
      ∃ t, exec (.stopCharacter c) s = .next t ∧ t.fe = s.fe ∧ t.pool = s.pool ∧ cellFrame s t
        ∧ t.stop = { s.stop with matcher := m } :=
    ⟨_, hexec, by rw [h]; rfl, hpool, hcell, by rw [h]; rfl⟩
  have hfifth (stamp : Time) (taken missed : Nat) (hm : s.stop.matcher = .code stamp taken 4 missed) (hh : hit) :
      matcherTake ch (s.count g) = recognise (setMatcher (after stamp taken missed) (s.count g)) :=
    matcherTake_fifth (s := s.count g) hm hh.1 (hgood.2 hh.2)
  have hcomplete (stamp : Time) (data : Byte) (sound : Bool) (hm : s.stop.matcher = .complement stamp data sound) :
      matcherTake ch (s.count g) = matcherComplete stamp (event stamp data sound).sender (s.count g) :=
    (matcherTake_complement (ch := ch) (s := s.count g) hm).trans (by rw [knownSender_eq])
  refine ⟨fun stamp n hm hd => moves _ (matcherTake_sync hm hd.1 (hgood.2 hd.2)),
    fun stamp taken matched missed hm h4 hh => moves _ (matcherTake_match hm h4 hh.1 (hgood.2 hh.2)),
    fun stamp taken matched hm h5 hn => moves _ (matcherTake_miss hm h5 (hmiss hn)),
    fun stamp taken missed hm => moves _ (matcherTake_recognised hm), fun stamp hm => ?_, fun ha => ⟨?_, ?_, ?_⟩,
    fun hf hfr => ?_, fun r rs hq ha => ?_⟩
  · obtain ⟨t, ht, hfe, hp, hf, hstop⟩ := moves _ (matcherTake_sender hm)
    exact ⟨t, ch.good, ht, hfe, hp, hf, hstop, hgood⟩
  · intro stamp taken missed hm hh
    have ht := (hfifth stamp taken missed hm hh).trans (recognise_idle ha)
    exact ⟨_, hexec, by rw [ht]; rfl, hpool, hcell, by rw [ht]; rfl⟩
  · intro stamp data sound hm
    have ht := hcomplete stamp data sound hm
    refine ⟨_, hexec, ?_, hpool, hcell, ?_⟩
    · rw [ht]
      exact matcherComplete_fe (.inl ha)
    · rw [ht]
      exact ((matcherComplete_completes _ _ (s.count g)).1 ha).1
  · intro hf hfr
    have ht := (hfails hf).trans (matcherMissed_clean hfr)
    refine ⟨_, hexec, ?_, hpool, hcell, ?_⟩
    · rw [ht]
      exact matcherFailed_fe (.inl ha)
    · rw [ht]
      exact matcherFailed_fails (s.count g)
  · have ht := (hfails hf).trans (matcherMissed_framing hfr)
    refine ⟨_, hexec, ?_, hpool, hcell, ?_⟩
    · rw [ht]; rfl
    · rw [ht]
      exact ⟨rfl, rfl, rfl⟩
  · have hlast (hrs : rs = []) : s.stop.requests = [r] := hq.trans (by rw [hrs])
    intro removed
    refine ⟨fun stamp taken missed hm hh => ?_, fun stamp data sound hm => ?_, fun hf hfr => ?_⟩
    · obtain ⟨hremoved, hmatcher, hlast⟩ :=
        recognise_removed (s := setMatcher (after stamp taken missed) (s.count g)) hq ha
      rw [← hfifth stamp taken missed hm hh] at hremoved hmatcher hlast
      exact ⟨_, hexec, hpool, hcell, ⟨hremoved, fun hrs => (hlast hrs).1⟩, hmatcher, fun hrs => (hlast hrs).2⟩
    · have ht := hcomplete stamp data sound hm
      refine ⟨_, hexec, hpool, hcell, fun hrs => ?_, ?_⟩
      · rw [ht]
        exact matcherComplete_fe (.inr ⟨r, hlast hrs⟩)
      · rw [ht]
        exact matcherComplete_completes _ _ (s.count g)
    · have ht := (hfails hf).trans (matcherMissed_clean hfr)
      refine ⟨_, hexec, hpool, hcell, fun h4 hrs => ?_, ?_⟩
      · rw [ht]
        exact matcherFailed_fe (.inr ⟨r, hlast hrs, ha, h4⟩)
      · rw [ht]
        exact matcherFailed_fails (s.count g)

end Sys2Proof.Machine

namespace Sys2Proof.Machine
open State Sys2Proof.Config

/-! ## ACK at the swap units and the head units (R128, R131, R163) -/

/-- Swap unit `h` has left FAILED with its attempt count at 0 (R163). -/
def State.swapCleared (h : Head) (s : State) : Prop := (s.swap h).attempts = 0 ∧ (s.swap h).state ≠ .failed

/-- The swap unit keeps out of FAILED, and its attempt count at 0. -/
def keepsCleared (g : SwapUnit → SwapUnit) : Prop :=
  ∀ u : SwapUnit, u.attempts = 0 → u.state ≠ .failed → (g u).attempts = 0 ∧ (g u).state ≠ .failed

section
variable {s : State} {h : Head}

theorem State.swapCleared.mapSwap {g : SwapUnit → SwapUnit} (hs : s.swapCleared h) (hg : keepsCleared g) :
    (s.mapSwap h g).swapCleared h := by
  rw [State.swapCleared, mapSwap_swap_self]
  exact hg _ hs.1 hs.2

theorem State.swapCleared.submit {o : Origin} {p : Payload} (hs : s.swapCleared h) :
    (submit o p s).1.swapCleared h := by
  rw [submit_rest]
  exact hs

theorem State.swapCleared.submitClaim (hs : s.swapCleared h) : (submitClaim h s).swapCleared h := by
  unfold Machine.submitClaim
  dsimp only
  split
  · exact hs.submit.mapSwap fun _ ha _ => ⟨ha, nofun⟩
  · exact hs.submit.mapSwap fun _ ha _ => ⟨ha, nofun⟩
  · exact hs.submit.mapSwap fun _ ha _ => ⟨ha, nofun⟩

theorem State.swapCleared.claimTest (hs : s.swapCleared h) : (claimTest h s).swapCleared h := by
  unfold Machine.claimTest
  split
  exacts [hs.submitClaim, hs]

theorem State.swapCleared.submitRetryable (f : PoolFrame) (hs : s.swapCleared h) :
    (submitRetryable h f s).swapCleared h := by
  unfold Machine.submitRetryable
  dsimp only
  split
  · exact hs.submit.mapSwap fun _ ha hf => ⟨ha, hf⟩
  · exact hs.submit.mapSwap fun _ ha hf => ⟨ha, hf⟩
  · exact hs.submit.mapSwap fun _ ha hf => ⟨ha, hf⟩

theorem State.swapCleared.takeWant (w : Want) (hs : s.swapCleared h) : (takeWant h w s).swapCleared h := by
  have hidle : (s.mapSwap h fun x => { x with state := .idle }).swapCleared h := hs.mapSwap fun _ ha _ => ⟨ha, nofun⟩
  unfold Machine.takeWant
  repeat' first | with_reducible exact hs | with_reducible exact hs.submitClaim
                | with_reducible exact hs.submitRetryable _ | with_reducible exact hidle | split

theorem State.swapCleared.swapPumpFrom (ws : List Want) (hs : s.swapCleared h) :
    (swapPumpFrom h ws s).swapCleared h := by
  induction ws generalizing s with
  | nil => exact hs
  | cons w ws ih =>
    unfold Machine.swapPumpFrom
    split
    · exact hs
    · exact ih (State.swapCleared.takeWant w (State.swapCleared.mapSwap hs fun _ ha hf => ⟨ha, hf⟩))

theorem State.swapCleared.swapWant (w : Want) (hs : s.swapCleared h) : (swapWant h w s).swapCleared h := by
  unfold Machine.swapWant swapPump
  exact State.swapCleared.swapPumpFrom _ (State.swapCleared.mapSwap hs fun _ ha hf => ⟨ha, hf⟩)

theorem State.swapCleared.markNotNeeded (hs : s.swapCleared h) : (markNotNeeded h s).swapCleared h := by
  have hflag : (s.mapSwap h fun u => { u with notNeeded := true }).swapCleared h := hs.mapSwap fun _ ha hf => ⟨ha, hf⟩
  have hstop := State.swapCleared.swapWant .releaseNotNeeded
    (State.swapCleared.mapSwap (g := fun u => { u with window := .stopped }) hflag fun _ ha hf => ⟨ha, hf⟩)
  unfold Machine.markNotNeeded
  dsimp only
  split
  · split
    exacts [hflag.swapWant _, hflag]
  · exact hstop
  · exact hstop
  all_goals exact hflag

theorem State.swapCleared.exchangeTest (hs : s.swapCleared h) : (exchangeTest h s).swapCleared h := by
  unfold Machine.exchangeTest
  split
  exacts [hs.mapSwap fun _ ha _ => ⟨ha, nofun⟩, hs]

theorem goesOn_keepsCleared : keepsCleared SwapUnit.goesOn := by
  intro u ha hf
  refine ⟨ha, ?_⟩
  unfold SwapUnit.goesOn
  dsimp only
  split
  exacts [nofun, hf]

theorem State.swapCleared.suitTest (hs : s.swapCleared h) : (suitTest h s).swapCleared h := by
  unfold Machine.suitTest
  dsimp only
  split
  · exact hs
  · split
    · split
      exacts [hs, hs.markNotNeeded]
    · split
      exacts [(hs.mapSwap goesOn_keepsCleared).exchangeTest, hs]

theorem State.swapCleared.conditionChanged (hs : s.swapCleared h) : (conditionChanged h s).swapCleared h := by
  unfold Machine.conditionChanged swapNews
  split
  · exact State.swapCleared.claimTest (State.swapCleared.suitTest (State.swapCleared.exchangeTest hs))
  · exact hs

/-! ### The head unit behind an ACK -/

/-- The head unit behind an ACK (R128, R131): a CONFLICT ends with its record, and another HOLD is evaluated. -/
def HeadUnit.acked (families : List Family) (u : HeadUnit) : HeadUnit :=
  match u.record.map HeadRecord.condition with
  | some (.hold .conflict) => { u with record := none, cycle := none }
  | some (.hold _) => { u with record := u.record.map (HeadRecord.evaluated families) }
  | _ => u

theorem acked_conflict {fams : List Family} {u : HeadUnit}
    (hu : u.record.map HeadRecord.condition = some (.hold .conflict)) :
    u.acked fams = { u with record := none, cycle := none } := by
  simp only [HeadUnit.acked, hu]

theorem acked_hold {fams : List Family} {u : HeadUnit} {x : HoldReason} (hx : x ≠ .conflict)
    (hu : u.record.map HeadRecord.condition = some (.hold x)) :
    u.acked fams = { u with record := u.record.map (HeadRecord.evaluated fams) } := by
  cases x with
  | conflict => exact absurd rfl hx
  | _ => simp only [HeadUnit.acked, hu]

theorem acked_other {fams : List Family} {u : HeadUnit} (hu : ∀ x, u.record.map HeadRecord.condition ≠ some (.hold x)) :
    u.acked fams = u := by
  unfold HeadUnit.acked
  split
  · next hx => exact absurd hx (hu _)
  · next hx => exact absurd hx (hu _)
  · rfl

theorem mapHead_congr {f g : HeadUnit → HeadUnit} (hfg : f (s.head h) = g (s.head h)) :
    s.mapHead h f = s.mapHead h g :=
  congrArg (fun u => { s with heads := s.heads.set h u }) hfg

theorem mapHead_id : s.mapHead h id = s := by
  cases h <;> rfl

/-- What an ACK does at a head unit: its own change, and what a condition change tells the swap unit (R117). -/
theorem ackHead_cases (h : Head) (s : State) : ackHead h s = s.mapHead h (HeadUnit.acked s.families)
    ∨ ackHead h s = conditionChanged h (s.mapHead h (HeadUnit.acked s.families)) := by
  by_cases hhold : ∃ x, s.condition h = some (.hold x)
  · obtain ⟨x, hx⟩ := hhold
    by_cases hc : x = .conflict
    · subst hc
      have hmap : s.mapHead h (HeadUnit.acked s.families)
          = s.mapHead h fun u => { u with record := none, cycle := none } :=
        mapHead_congr (acked_conflict hx)
      exact .inr (by simp only [ackHead, hx, dropRecord, hmap])
    · have hstep : ackHead h s = evaluateHead h s := by simp only [ackHead, hx]
      have hmap : s.mapHead h (HeadUnit.acked s.families) = s.mapRecord h (HeadRecord.evaluated s.families) :=
        mapHead_congr (acked_hold hc hx)
      rw [hstep, hmap, evaluateHead]
      split
      exacts [.inl rfl, .inr rfl]
  · left
    have hstep : ackHead h s = s := by
      unfold ackHead
      split
      · next hx => exact absurd ⟨_, hx⟩ hhold
      · next hx => exact absurd ⟨_, hx⟩ hhold
      · rfl
    rw [hstep, mapHead_congr (g := id) (acked_other fun x hx => hhold ⟨x, hx⟩), mapHead_id]

theorem ackHead_frame (h : Head) (s : State) : swapFrame h (s.mapHead h (HeadUnit.acked s.families)) (ackHead h s) := by
  rcases ackHead_cases h s with hs | hs
  · rw [hs]
    exact swapFrame_refl h _
  · rw [hs]
    exact (swapFrame_stable h _).conditionChanged _ (swapFrame_refl h _)

/-! ### Both heads -/

/-- What a swap unit that takes no tag record leaves to its head unit and to the other head. -/
theorem swapFrame.kept {t : State} (x : swapFrame h s t) : t.families = s.families ∧ t.levels = s.levels
    ∧ t.heads = s.heads ∧ t.stop = s.stop ∧ ∀ k, k ≠ h → t.swap k = s.swap k := by
  obtain ⟨⟨⟨⟨⟨-, -, -, -, -, -, hfamilies, -⟩, -⟩, -, -, hothers, -⟩, -, hlevels, -⟩, hheads, hstop, -, -⟩ := x
  exact ⟨hfamilies, hlevels, hheads, hstop, fun k hk => (hothers k hk).2.1⟩

theorem ackSwap_frame (h : Head) (s : State) : swapFrame h s (ackSwap h s) :=
  (swapFrame_stable h s).ackSwap s (swapFrame_refl h s)

theorem ackSwap_cleared (hf : (s.swap h).state = .failed) : (ackSwap h s).swapCleared h := by
  have hidle : (s.mapSwap h fun u => { u with attempts := 0, state := .idle }).swapCleared h := by
    rw [State.swapCleared, mapSwap_swap_self]
    exact ⟨rfl, nofun⟩
  rw [ackSwap, if_pos hf]
  exact hidle.claimTest

theorem ackHead_cleared (k : Head) (hs : s.swapCleared h) : (ackHead k s).swapCleared h := by
  by_cases hk : h = k
  · subst hk
    rcases ackHead_cases h s with hstep | hstep
    · rw [hstep]
      exact hs
    · rw [hstep]
      exact State.swapCleared.conditionChanged hs
  · obtain ⟨-, -, -, -, hothers⟩ := (ackHead_frame k s).kept
    rw [State.swapCleared, hothers h hk]
    exact hs

theorem ackHead_head_self (h : Head) (s : State) : (ackHead h s).head h = (s.head h).acked s.families := by
  obtain ⟨-, -, hheads, -, -⟩ := (ackHead_frame h s).kept
  exact (congrArg (PerHead.get · h) hheads).trans (mapHead_head_self s _)

theorem ackHead_head_other {k : Head} (hk : k ≠ h) (s : State) : (ackHead h s).head k = s.head k := by
  obtain ⟨-, -, hheads, -, -⟩ := (ackHead_frame h s).kept
  exact (congrArg (PerHead.get · k) hheads).trans (mapHead_head_other s _ hk)

/-- An ACK at both swap units, and then at both head units. -/
def unitsAcked (s : State) : State := ackHead .h1 (ackHead .h0 (ackSwap .h1 (ackSwap .h0 s)))

theorem unitsAcked_kept (s : State) : (unitsAcked s).levels = s.levels ∧ (unitsAcked s).stop = s.stop
    ∧ ∀ h, (unitsAcked s).head h = (s.head h).acked s.families := by
  obtain ⟨hf0, hl0, hh0, hs0, -⟩ := (ackSwap_frame .h0 s).kept
  obtain ⟨hf1, hl1, hh1, hs1, -⟩ := (ackSwap_frame .h1 (ackSwap .h0 s)).kept
  obtain ⟨hf2, hl2, -, hs2, -⟩ := (ackHead_frame .h0 (ackSwap .h1 (ackSwap .h0 s))).kept
  obtain ⟨-, hl3, -, hs3, -⟩ := (ackHead_frame .h1 (ackHead .h0 (ackSwap .h1 (ackSwap .h0 s)))).kept
  have hfamilies : (ackSwap .h1 (ackSwap .h0 s)).families = s.families := hf1.trans hf0
  have hhead (h : Head) : (ackSwap .h1 (ackSwap .h0 s)).head h = s.head h := congrArg (PerHead.get · h) (hh1.trans hh0)
  refine ⟨hl3.trans (hl2.trans (hl1.trans hl0)), hs3.trans (hs2.trans (hs1.trans hs0)), fun h => ?_⟩
  cases h with
  | h0 => rw [unitsAcked, ackHead_head_other (h := .h1) (k := .h0) nofun, ackHead_head_self, hhead, hfamilies]
  | h1 => rw [unitsAcked, ackHead_head_self, ackHead_head_other (h := .h0) (k := .h1) nofun, hhead, hf2,
      mapHead_families, hfamilies]

theorem unitsAcked_cleared (hf : (s.swap h).state = .failed) : (unitsAcked s).swapCleared h := by
  refine ackHead_cleared .h1 (ackHead_cleared .h0 ?_)
  cases h with
  | h0 =>
    obtain ⟨-, -, -, -, hothers⟩ := (ackSwap_frame .h1 (ackSwap .h0 s)).kept
    rw [State.swapCleared, hothers .h0 nofun]
    exact ackSwap_cleared hf
  | h1 =>
    obtain ⟨-, -, -, -, hothers⟩ := (ackSwap_frame .h0 s).kept
    refine ackSwap_cleared ?_
    rw [hothers .h1 nofun]
    exact hf

/-- The station as an ACK clears the peer-stop latch (R46). -/
def latchAcked (s : State) : State :=
  { s with levels := { s.levels with ack := true }, stop := { s.stop with latch := false } }

/-- A pulse gives one event, and a level that was high as start-up completed none (R128). -/
theorem ackEvent_passes {fell : Bool} (ha : s.levels.ack = true) (hf : fell = false) : ackEvent fell s = s := by
  rw [ackEvent, if_pos ⟨ha, by simp [hf]⟩]

theorem ackEvent_taken {fell : Bool} (h : s.levels.ack = false ∨ fell = true) :
    ackEvent fell s = if s.headsLive then unitsAcked (latchAcked s) else latchAcked s := by
  have hn : ¬(s.levels.ack = true ∧ (!fell) = true) := by
    rcases h with h | h <;> simp [h]
  rw [ackEvent, if_neg hn]
  rfl

theorem headsLive_of_grinder (hl : s.isLive = true) (hr : s.isStore = false) : s.headsLive = true := by
  unfold State.headsLive
  rw [Bool.and_eq_true]
  exact ⟨hl, by simpa [State.isStore] using hr⟩

theorem not_headsLive_of_store (hr : s.isStore = true) : s.headsLive = false := by
  unfold State.headsLive
  rw [show s.straps.storeRole = true from hr]
  simp

end

/-- Settles O41: the latch is cleared in either role, and at a grinder each swap unit and head unit takes the ACK. -/
theorem ackEndsHolds : Obligations.AckEndsHolds := by
  intro fell s hl
  have hexec : exec (.ackEvent fell) s = .next (ackEvent fell s) := congrArg Host.Outcome.next (if_pos hl)
  refine ⟨fun ha hf => hexec.trans (by rw [ackEvent_passes ha hf]), fun hpulse => ?_⟩
  have hframe := (unitFrame_stable s).ackEvent fell s (unitFrame_refl s)
  have hstep := ackEvent_taken hpulse
  cases hr : s.isStore with
  | true =>
    rw [hstep, not_headsLive_of_store hr] at hexec hframe
    exact ⟨_, hexec, rfl, rfl, hframe, fun _ => ⟨rfl, rfl, rfl⟩, nofun⟩
  | false =>
    rw [hstep, headsLive_of_grinder hl hr] at hexec hframe
    obtain ⟨hlevels, hstop, hhead⟩ := unitsAcked_kept (latchAcked s)
    refine ⟨_, hexec, congrArg StopUnit.latch hstop, congrArg InputLevels.ack hlevels, hframe, nofun,
      fun _ h => ⟨fun hf => unitsAcked_cleared (s := latchAcked s) hf, fun hc => ?_, fun r x hrec hx hnc => ?_,
        fun hn => ?_⟩⟩
    · rw [if_pos rfl, hhead, acked_conflict (by exact hc)]
      exact ⟨rfl, rfl⟩
    · have hcond : ((latchAcked s).head h).record.map HeadRecord.condition = some (.hold x) :=
        (congrArg (Option.map HeadRecord.condition) hrec).trans (by rw [Option.map_some, hx])
      rw [if_pos rfl, hhead, acked_hold hnc hcond]
      exact congrArg (Option.map (HeadRecord.evaluated s.families)) hrec
    · rw [if_pos rfl, hhead]
      exact acked_other hn

end Sys2Proof.Machine

namespace Sys2Proof.Machine
open State Sys2Proof.Config

/-! ## The claim watch behind a liveness notice (R55, R168, R178) -/

/-- What the claim watch leaves of the store unit: it adds to the send list and submits. -/
structure KeptByWatch (s t : State) : Prop where
  life : t.life = s.life
  store : t.store = { s.store with
    claims := t.store.claims, sendList := t.store.sendList, jobFrame := t.store.jobFrame, track := t.store.track }
  jobFrame : t.store.jobFrame.map StoreFrame.frame = s.store.jobFrame.map StoreFrame.frame
  queued : s.fe.txQueue ⊆ t.fe.txQueue

section
variable {s t u : State}

theorem KeptByWatch.refl (s : State) : KeptByWatch s s := ⟨rfl, rfl, rfl, List.Subset.refl _⟩

theorem KeptByWatch.trans (h : KeptByWatch s t) (k : KeptByWatch t u) : KeptByWatch s u where
  life := k.life.trans h.life
  store := by
    have hstore := k.store
    rw [h.store] at hstore
    exact hstore
  jobFrame := k.jobFrame.trans h.jobFrame
  queued := List.Subset.trans h.queued k.queued

theorem mapStore_watched {g : StoreUnit → StoreUnit} (hg : g s.store = { s.store with
    claims := (g s.store).claims, sendList := (g s.store).sendList, track := (g s.store).track }) :
    KeptByWatch s (s.mapStore g) where
  life := rfl
  store := by rw [mapStore_store, hg]
  jobFrame := by rw [mapStore_store, hg]
  queued := List.Subset.refl _

/-- A submission takes no frame out of the transmit queue, and adds the submitted one alone (R31, R32). -/
theorem submit_queues (o : Origin) (p : Payload) (s : State) : s.fe.txQueue ⊆ (submit o p s).1.fe.txQueue
    ∧ (∀ e ∈ (submit o p s).1.fe.txQueue, e = ⟨o, p, 0, false, false⟩ ∨ e ∈ s.fe.txQueue)
    ∧ ∀ r ∈ (submit o p s).1.fe.held, r = (o, p) ∨ r ∈ s.fe.held := by
  cases hr : s.refusedAtOnce p with
  | true =>
    rw [submit_refused hr]
    exact ⟨List.Subset.refl _, fun _ => .inr, fun _ => .inr⟩
  | false =>
    cases hroom : s.txRoom with
    | true =>
      rw [submit_admitted hr hroom]
      obtain ⟨l, r, hq, hq', -⟩ := queueFrame_place o p s
      rw [hq, hq']
      exact ⟨fun e he => by simpa using (List.mem_append.1 he).imp_right .inr,
        fun e he => by simpa [or_left_comm] using he, fun _ => .inr⟩
    | false =>
      rw [submit_held hr hroom]
      exact ⟨List.Subset.refl _, fun _ => .inr, fun r h => by simpa [or_comm] using h⟩

theorem submit_watched (o : Origin) (p : Payload) (s : State) : KeptByWatch s (submit o p s).1 := by
  refine ⟨?_, ?_, ?_, (submit_queues o p s).1⟩ <;> rw [submit_rest]

theorem storeSubmitOne_watched (s : State) : KeptByWatch s (storeSubmitOne s) := by
  unfold storeSubmitOne
  split
  next jf hjf =>
    obtain ⟨hlife, hstore, -, hqueued⟩ := submit_watched .storeUnit (.pool jf.frame) s
    have hframe : s.store.jobFrame = some jf := (Option.filter_eq_some_iff.1 hjf).1
    refine ⟨hlife, ?_, by rw [hframe]; rfl, hqueued⟩
    rw [mapStore_store, hstore]
  next =>
    split
    next tf _ =>
      obtain ⟨hlife, hstore, hframe, hqueued⟩ := submit_watched .storeUnit (.pool tf.frame) s
      refine ⟨hlife, ?_, hframe, hqueued⟩
      rw [mapStore_store, hstore]
    next =>
      split
      next => exact .refl s
      next f fs _ =>
        have hsent : KeptByWatch s (s.mapStore fun u => { u with sendList := fs }) := mapStore_watched rfl
        have hsubmit := hsent.trans (submit_watched .storeUnit (.pool f) _)
        dsimp only
        split
        · rw [requestFailed_rest]
          exact hsubmit.trans (mapStore_watched rfl)
        all_goals exact hsubmit

theorem storePumpFrom_watched (n : Nat) (s : State) : KeptByWatch s (storePumpFrom n s) := by
  induction n generalizing s with
  | zero => exact .refl s
  | succ n ih =>
    unfold storePumpFrom
    split
    · exact .refl s
    · exact (storeSubmitOne_watched s).trans (ih _)

theorem claimWatchTest_watched (x : Serial) (s : State) : KeptByWatch s (claimWatchTest x s) := by
  unfold claimWatchTest addRequest
  split
  · split
    · split
      · refine .trans (mapStore_watched ?_) (.trans (mapStore_watched ?_) (storePumpFrom_watched 18 _)) <;> rfl
      · exact mapStore_watched rfl
    · exact .refl s
  · exact .refl s

theorem livenessNotice_watched (s : State) : KeptByWatch s (livenessNotice s) := by
  unfold livenessNotice
  split
  · exact foldl_stable _ (fun x t ht => ht.trans (claimWatchTest_watched x t)) _ s (.refl s)
  · exact .refl s

/-- Only a SYNCED store releases claims behind a liveness notice (R178). -/
theorem livenessNotice_quiet (h : s.storeLive = false ∨ s.synced = false) : livenessNotice s = s := by
  unfold livenessNotice
  split
  next hl =>
    have hsynced : s.synced = false := h.resolve_left (by rw [hl]; nofun)
    refine foldl_stable (P := (· = s)) _ (fun x t ht => ?_) _ s rfl
    subst ht
    unfold claimWatchTest
    split
    · rw [if_neg fun hc => absurd hc.1 (by rw [hsynced]; nofun)]
    · rfl
  next => rfl

theorem livenessNotice_depot (s : State) : depotFrame s (livenessNotice s) :=
  (depotFrame_stable s).livenessNotice s (depotFrame_refl s)

@[simp] theorem livenessNotice_peers (s : State) : (livenessNotice s).peers = s.peers := by
  obtain ⟨⟨⟨-, -, -, hpeers, -⟩, -⟩, -⟩ := livenessNotice_depot s
  exact hpeers

@[simp] theorem livenessNotice_counters (s : State) : (livenessNotice s).counters = s.counters :=
  (livenessNotice_depot s).2.1

end

/-! ## The timers of the peer table (R49, R54, R57) -/

/-- Settles O20: the roll timer stops as it expires, and a ROLL is submitted. -/
theorem rollTimerSubmitsRoll : Obligations.RollTimerSubmitsRoll := by
  intro tm s htm
  have hexec : exec .rollTimerExpire s = .next (rollTimerExpire s) := rfl
  refine ⟨fun hdue => ?_, fun hearly => ?_⟩
  · have hstep : rollTimerExpire s = (submit .peerTable .roll (s.mapPeers fun p => { p with rollTimer := none })).1 := by
      unfold rollTimerExpire
      rw [htm]
      exact if_pos (decide_eq_true hdue)
    obtain ⟨hfault, -, -, hadmitted, hheld⟩ :=
      submit_byRows .peerTable .roll (s.mapPeers fun p => { p with rollTimer := none })
    have hopen : s.lineFault = false →
        (s.mapPeers fun p => { p with rollTimer := none }).refusedAtOnce .roll = false :=
      fun hl => (refusedAtOnce_unpooled rfl).trans hl
    have hcell : cellFrame s (rollTimerExpire s) := (cellFrame_stable s).rollTimerExpire s (cellFrame_refl s)
    rw [hstep] at hexec hcell
    refine ⟨_, hexec, ?_, ?_, ?_, ?_, hcell, fun hl => ?_, fun hl hroom => ?_, fun hl hfull => ?_⟩
    case refine_1 | refine_2 | refine_3 | refine_4 => rw [submit_rest]; rfl
    · rw [hfault hl]; rfl
    · obtain ⟨-, l, r, hq, hq', -, hr⟩ := hadmitted (hopen hl) hroom
      exact ⟨l, r, hq, hq', hr⟩
    · exact (hheld (hopen hl) hfull).2
  · rw [hexec]
    unfold rollTimerExpire
    rw [htm]
    exact congrArg Host.Outcome.next (if_neg fun h => Nat.not_le.2 hearly (of_decide_eq_true h))

/-- Settles O23: four roll intervals after its stamp a LIVE record goes SILENT, and a disagreement is forgotten. -/
theorem peerTimersExpire : Obligations.PeerTimersExpire := by
  intro st s hl
  refine ⟨fun r hr hlive hdue => ?_, fun d hd hdue => ?_⟩
  · have hexec : exec (.peerSilenceTimeout st) s = .next (peerSilenceTimeout st s) :=
      congrArg Host.Outcome.next (if_pos hl)
    have hcell : cellFrame s (peerSilenceTimeout st s) :=
      (cellFrame_stable s).peerSilenceTimeout st s (cellFrame_refl s)
    have hdue' : (!r.silent) = true ∧ s.silenceLength ≤ elapsed r.lastHeard s.now := ⟨by rw [hlive]; rfl, hdue⟩
    unfold peerSilenceTimeout at hexec hcell
    simp only [hr, if_pos hdue'] at hexec hcell
    refine ⟨_, hexec, hcell, ?_⟩
    clear hexec hcell
    generalize hgone : (changePeer st (fun x => { x with silent := true }) s).mapPeers (fun p =>
      { p with silentOrder := p.silentOrder ++ [st]
               disagreement := p.disagreement.filter fun d => d.station != st }) = gone
    obtain ⟨⟨⟨-, -, -, hpeers, hpool, -, hfe⟩, -, -, -, -, hline, -⟩, -⟩ := livenessNotice_depot gone
    rw [hpeers, hpool, hline, hfe, ← hgone]
    exact ⟨rfl, rfl, rfl, rfl⟩
  · have hexec : exec .disagreementRecordExpire s = .next (disagreementExpire s) :=
      congrArg Host.Outcome.next (if_pos hl)
    have hdue' : s.silenceLength ≤ elapsed d.stamp s.now := hdue
    rw [hexec]
    unfold disagreementExpire
    rw [hd]
    exact congrArg Host.Outcome.next (if_pos hdue')

end Sys2Proof.Machine

namespace Sys2Proof.Machine
open State Sys2Proof.Config

/-! ## The departure of an item, and the end of DEAF (R34, R37, R94) -/

section
variable {s t u : State} {i : RxItem} {rest : List RxItem}

theorem ask_barred (hm : s.mayAsk = false) : ask s = s := if_neg (by rw [hm]; nofun)

/-- An ask in LINE_FAULT is answered *not sent*, and no other follows (R94). -/
theorem ask_refused (hm : s.mayAsk = true) (hh : s.holdsRequest .imageUnit = false) (hl : s.lineFault = true) :
    ask s = s.mapImage fun u =>
      { u with collection := none, partSinceAsk := false, askTimer := none, askingStopped := true } := by
  have hrefused := submit_refused (o := .imageUnit) (p := .imageAsk)
    (s := s.mapImage fun u => { u with collection := none, partSinceAsk := false, askTimer := none })
    ((refusedAtOnce_unpooled rfl).trans hl)
  unfold ask; dsimp only
  rw [if_pos hm, if_neg (by simp only [mapImage_fe, State.holdsRequest] at hh ⊢; rw [hh]; nofun), hrefused]
  rfl

/-- An ask that may be made is submitted, and the station is JOINING (R94). -/
theorem ask_submits (hm : s.mayAsk = true) (hh : s.holdsRequest .imageUnit = false) (hl : s.lineFault = false) :
    ask s = { s with
      pool := { s.pool with sync := .joining }
      image := { s.image with collection := none, partSinceAsk := false, askTimer := none }
      fe := (submit .imageUnit .imageAsk s).1.fe } := by
  unfold ask; dsimp only
  rw [if_pos hm, if_neg (by simp only [mapImage_fe, State.holdsRequest] at hh ⊢; rw [hh]; nofun)]
  have hopen : s.refusedAtOnce .imageAsk = false := (refusedAtOnce_unpooled rfl).trans hl
  have hopen' : (s.mapImage fun u => { u with collection := none, partSinceAsk := false, askTimer := none }).refusedAtOnce
      .imageAsk = false := hopen
  cases hroom : s.txRoom with
  | true =>
    rw [submit_admitted hopen hroom, submit_admitted hopen' hroom]
    rfl
  | false =>
    rw [submit_held hopen hroom, submit_held hopen' hroom]
    rfl

/-- An ask changes of the pool engine the sync state alone. -/
theorem ask_table (s : State) : (ask s).pool.table = s.pool.table := by
  unfold ask; dsimp only
  split
  · split
    · rfl
    · split <;> rw [submit_rest] <;> rfl
  · rfl

theorem depart_hearing (hd : s.fe.deaf = false) : depart s = setRxQueue (s.fe.rxQueue.dropWhile RxItem.taken) s := by
  unfold depart deafTest; dsimp only
  split
  next hlen =>
    rw [(List.dropWhile_suffix _).eq_of_length hlen]
    rfl
  next =>
    exact if_neg fun hc => Bool.false_ne_true (hd.symm.trans hc.1)

/-- DEAF ended with an empty receive queue, before the image unit is told (R37). -/
def hearingAgain (s : State) : State := s.mapFe fun f => { f with deaf := false, vetoRun := 0, rxQueue := [] }

/-- The last item leaves a DEAF station (R37). -/
theorem depart_last (hd : s.fe.deaf = true) (hq : s.fe.rxQueue = [i]) (hi : i.taken = true) :
    depart s = ask (hearingAgain s) := by
  unfold depart deafTest; dsimp only
  rw [hq, List.dropWhile_cons_of_pos hi]
  exact (if_neg (by simp)).trans (if_pos ⟨hd, rfl⟩)

/-- The departure of an item is no matter of the peer table's, the counters' or the pool's entries. -/
theorem depart_kept (s : State) : (depart s).peers = s.peers ∧ (depart s).counters = s.counters
    ∧ (depart s).pool.table = s.pool.table := by
  unfold depart deafTest endDeaf; dsimp only
  split
  · exact ⟨rfl, rfl, rfl⟩
  · split
    · rw [ask_table]
      rw [ask_rest]
      exact ⟨rfl, rfl, rfl⟩
    · exact ⟨rfl, rfl, rfl⟩

/-- A station `u` that is as `s` but for what its peer table has taken ends DEAF as its last item leaves (R37, R94). -/
theorem depart_deafEnds (hd : u.fe.deaf = true) (hq : u.fe.rxQueue = [i]) (hi : i.taken = true)
    (hmay : u.mayAsk = s.mayAsk) (hpool : u.pool = s.pool) (hline : u.lineFault = s.lineFault)
    (hfe : s.mayAsk = true → u.fe = { s.fe with rxQueue := u.fe.rxQueue }) : deafEnds s (depart u) := by
  have hrest := ask_rest (hearingAgain u)
  have hmay' : (hearingAgain u).mayAsk = s.mayAsk := hmay
  rw [depart_last hd hq hi]
  refine ⟨by rw [hrest]; rfl, by rw [hrest]; rfl, by rw [hrest]; rfl, fun hm => ?_, fun hm hl hheld hroom => ?_⟩
  · rw [ask_barred (hmay'.trans hm)]
    exact hpool
  · have hfe := hfe hm
    have hline' : (hearingAgain u).lineFault = false := hline.trans hl
    have hnone : (hearingAgain u).holdsRequest .imageUnit = false := by
      show u.fe.held.any _ = false
      rw [hfe]
      exact congrArg (List.any · _) hheld
    have htx : u.fe.txQueue.length + u.fe.admissionsDue < txCapacity := by rw [hfe]; exact hroom
    rw [ask_submits (hmay'.trans hm) hnone hline',
      submit_admitted ((refusedAtOnce_unpooled rfl).trans hline') (decide_eq_true htx)]
    obtain ⟨l, r, -, hq', -⟩ := queueFrame_place .imageUnit .imageAsk (hearingAgain u)
    refine ⟨congrArg (fun p : PoolEngine => { p with sync := .joining }) hpool, ?_, rfl, rfl, rfl⟩
    show _ ∈ (queueFrame _ _ _).fe.txQueue
    rw [hq']
    exact List.mem_append_right _ List.mem_cons_self

/-! ## Lists of peer records (R51, R52) -/

theorem mem_insertBy {α : Type} (key : α → Nat) (a x : α) (l : List α) : x ∈ insertBy key a l ↔ x = a ∨ x ∈ l := by
  obtain ⟨front, back, hl, hi, -⟩ := insertBy_split key a l
  rw [hi, hl, List.mem_append, List.mem_cons, List.mem_append]
  exact or_left_comm

/-- The lowest number that the list leaves free. -/
theorem lowestFree_eq_some {l : List Nat} {n k : Nat} (hk : k ∉ l) (hn : k < n) (hbelow : ∀ j < k, j ∈ l) :
    lowestFree l n = some k := by
  unfold lowestFree
  refine List.find?_range_eq_some.2 ⟨by simpa using hk, List.mem_range.2 hn, fun j hj => by simpa using hbelow j hj⟩

theorem lowestFree_eq_none {l : List Nat} {n : Nat} (h : ∀ k < n, k ∈ l) : lowestFree l n = none := by
  unfold lowestFree
  exact List.find?_eq_none.2 fun k hk => by simpa using h k (List.mem_range.1 hk)

theorem lowestFree_isSome {l : List Nat} {n k : Nat} (hk : k ∉ l) (hn : k < n) : ∃ j, lowestFree l n = some j := by
  refine Option.isSome_iff_exists.1 (Option.isSome_iff_ne_none.2 fun hnone => ?_)
  have hfull := List.find?_eq_none.1 hnone k (List.mem_range.2 hn)
  exact hk (by simpa using hfull)

theorem peer_eq_none_iff {st : Station} : s.peer st = none ↔ ∀ x ∈ s.peers.records, x.station ≠ st := by
  simp [State.peer]

theorem peer_mem {st : Station} {r : PeerRecord} (h : s.peer st = some r) : r ∈ s.peers.records ∧ r.station = st :=
  ⟨List.mem_of_find?_eq_some h, by simpa using List.find?_some h⟩

/-- A LIVE grinder's record (R52). -/
def PeerRecord.liveGrinder (r : PeerRecord) : Prop := r.role = .grinder ∧ r.silent = false

theorem not_liveGrinder_iff (r : PeerRecord) : ¬r.liveGrinder ↔ r.silent = true ∨ r.role = .store := by
  unfold PeerRecord.liveGrinder
  cases r.role <;> cases r.silent <;> decide

theorem oldestGrinder_mem {now : Time} {l : List PeerRecord} {r : PeerRecord} (h : oldestGrinder now l = some r) :
    r ∈ l ∧ r.liveGrinder := by
  induction l with
  | nil => exact absurd h nofun
  | cons x xs ih =>
    have htail (h : oldestGrinder now xs = some r) := (ih h).imp_left (List.mem_cons_of_mem x)
    simp only [oldestGrinder] at h
    split at h
    next => exact htail h
    next hx =>
      have hhead (h : some x = some r) : r ∈ x :: xs ∧ r.liveGrinder := by
        obtain rfl := Option.some.inj h
        exact ⟨List.mem_cons_self, not_not.1 ((not_liveGrinder_iff x).not.2 hx)⟩
      split at h
      next b hb =>
        split at h
        · exact htail (hb.trans h)
        · exact hhead h
      next => exact hhead h

theorem oldestGrinder_none {now : Time} {l : List PeerRecord} (h : ∀ x ∈ l, ¬x.liveGrinder) :
    oldestGrinder now l = none := by
  cases hr : oldestGrinder now l with
  | none => rfl
  | some r => exact absurd (oldestGrinder_mem hr).2 (h r (oldestGrinder_mem hr).1)

/-- The LIVE grinder heard longest ago, where one was heard before all others. -/
theorem oldestGrinder_eq {now : Time} {l : List PeerRecord} {r : PeerRecord} (hr : r ∈ l) (hlive : r.liveGrinder)
    (hall : ∀ x ∈ l, x ≠ r → x.liveGrinder → elapsed x.lastHeard now < elapsed r.lastHeard now) :
    oldestGrinder now l = some r := by
  induction l with
  | nil => exact absurd hr nofun
  | cons x xs ih =>
    have htail (hmem : r ∈ xs) := ih hmem fun y hy => hall y (List.mem_cons_of_mem x hy)
    simp only [oldestGrinder]
    split
    next hx =>
      have hne : x ≠ r := fun h => (not_liveGrinder_iff x).2 hx (h ▸ hlive)
      exact htail ((List.mem_cons.1 hr).resolve_left (Ne.symm hne))
    next hx =>
      have hxlive : x.liveGrinder := not_not.1 ((not_liveGrinder_iff x).not.2 hx)
      by_cases hxr : x = r
      · subst hxr
        split
        next b hb =>
          split
          next hlt =>
            obtain ⟨hmem, hblive⟩ := oldestGrinder_mem hb
            by_cases hbx : b = x
            · rw [hbx]
            · exact absurd (hall b (List.mem_cons_of_mem x hmem) hbx hblive) (Nat.lt_asymm hlt)
          next => rfl
        next => rfl
      · rw [htail ((List.mem_cons.1 hr).resolve_left (Ne.symm hxr))]
        exact if_pos (hall x List.mem_cons_self hxr hxlive)

/-! ## The sender's record (R52, R53) -/

/-- The record of an item's sender is refreshed, or the sender is learned (R52, R53). -/
def senderRecorded (i : RxItem) (s : State) : State :=
  match s.peer i.sender with
  | some r => refreshPeer r i s
  | none => learnPeer i s

/-- The record that a sender's takes the place of, where no position is free (R52, second and third row). -/
def State.replacedBy (s : State) (i : RxItem) (r : PeerRecord) : Prop :=
  (∃ rest, s.peers.silentOrder = r.station :: rest ∧ s.peer r.station = some r)
    ∨ (s.peers.silentOrder = [] ∧ i.role = .store ∧ r ∈ s.peers.records ∧ r.role = .grinder ∧ r.silent = false
        ∧ ∀ x ∈ s.peers.records, x ≠ r → x.role = .grinder → x.silent = false →
            (s.timeBase - x.lastHeard).toNat < (s.timeBase - r.lastHeard).toNat)

theorem learnPeer_free {pos : Nat} (h : lowestFree (s.peers.records.map PeerRecord.pos) peerCapacity = some pos) :
    learnPeer i s = addPeer pos i s := by
  simp only [learnPeer, h]

theorem learnPeer_replaces {r : PeerRecord} (hfull : lowestFree (s.peers.records.map PeerRecord.pos) peerCapacity = none)
    (hr : s.replacedBy i r) : learnPeer i s = livenessNotice (addPeer r.pos i (deletePeer r.station s))
      ∨ learnPeer i s = addPeer r.pos i (deletePeer r.station s) := by
  unfold learnPeer
  rcases hr with ⟨rest, horder, hpeer⟩ | ⟨horder, hrole, hmem, hgrinder, hlive, hall⟩
  · left
    simp only [hfull, horder, List.head?_cons, Option.bind_some, hpeer]
  · right
    have holdest : oldestGrinder s.now s.peers.records = some r :=
      oldestGrinder_eq hmem ⟨hgrinder, hlive⟩ fun x hx hne hg => hall x hx hne hg.1 hg.2
    simp only [hfull, horder, List.head?_nil, Option.bind_none, hrole, if_true, holdest]

theorem learnPeer_not (hfull : lowestFree (s.peers.records.map PeerRecord.pos) peerCapacity = none)
    (horder : s.peers.silentOrder = [])
    (hnone : i.role = .grinder ∨ ∀ r ∈ s.peers.records, r.role = .store ∨ r.silent = true) :
    learnPeer i s = s.count fun c => { c with unlearned := satInc c.unlearned } := by
  have hnot : (if i.role = .store then oldestGrinder s.now s.peers.records else none) = none := by
    rcases hnone with hrole | hall
    · rw [hrole]; rfl
    · rw [oldestGrinder_none fun x hx => (not_liveGrinder_iff x).2 (hall x hx).symm, ite_self]
  simp only [learnPeer, hfull, horder, List.head?_nil, Option.bind_none, hnot]

theorem senderRecorded_known {r : PeerRecord} (h : s.peer i.sender = some r) : senderRecorded i s = refreshPeer r i s := by
  simp only [senderRecorded, h]

theorem senderRecorded_unknown (h : s.peer i.sender = none) : senderRecorded i s = learnPeer i s := by
  simp only [senderRecorded, h]

/-- What the station keeps as the peer table changes its records (R52, R53): all but the peer table, the UNLEARNED counter
and what a store submits behind a liveness notice. -/
structure KeptByRecord (s t : State) : Prop extends KeptByWatch s t where
  cell : cellFrame s t
  lineFault : t.lineFault = s.lineFault
  pool : t.pool = s.pool
  image : t.image = s.image
  heads : t.heads = s.heads
  swaps : t.swaps = s.swaps
  fe : t.fe = { s.fe with txQueue := t.fe.txQueue, held := t.fe.held, admissionsDue := t.fe.admissionsDue }

theorem KeptByRecord.refl (s : State) : KeptByRecord s s :=
  ⟨.refl s, cellFrame_refl s, rfl, rfl, rfl, rfl, rfl, rfl⟩

theorem KeptByRecord.mapPeers (h : KeptByRecord s t) (f : PeerTable → PeerTable) : KeptByRecord s (t.mapPeers f) :=
  ⟨⟨h.life, h.store, h.jobFrame, h.queued⟩, h.cell, h.lineFault, h.pool, h.image, h.heads, h.swaps, h.fe⟩

theorem KeptByRecord.count (h : KeptByRecord s t) (f : Counters → Counters) : KeptByRecord s (t.count f) :=
  ⟨⟨h.life, h.store, h.jobFrame, h.queued⟩, h.cell, h.lineFault, h.pool, h.image, h.heads, h.swaps, h.fe⟩

theorem livenessNotice_kept (h : KeptByRecord s t) : KeptByRecord s (livenessNotice t) := by
  obtain ⟨⟨⟨-, hline, -, -, hpool, -, hfe⟩, hheads, hswaps, -, -, -, himage, -⟩, -⟩ := livenessNotice_depot t
  refine ⟨h.toKeptByWatch.trans (livenessNotice_watched t), (cellFrame_stable s).unit.store.livenessNotice t h.cell,
    hline.trans h.lineFault, hpool.trans h.pool, himage.trans h.image, hheads.trans h.heads, hswaps.trans h.swaps, ?_⟩
  rw [hfe, h.fe]

theorem senderRecorded_kept (i : RxItem) (s : State) : KeptByRecord s (senderRecorded i s) := by
  unfold senderRecorded refreshPeer learnPeer
  dsimp only
  have hchanged (f : PeerTable → PeerTable) : KeptByRecord s (s.mapPeers f) := (KeptByRecord.refl s).mapPeers f
  split
  · split
    · exact livenessNotice_kept ((hchanged _).mapPeers _)
    · exact hchanged _
  · split
    · exact hchanged _
    · split
      · exact livenessNotice_kept ((hchanged _).mapPeers _)
      · split
        · exact (hchanged _).mapPeers _
        · exact (KeptByRecord.refl s).count _

/-- A station that is not SYNCED submits nothing behind a change of the records. -/
theorem senderRecorded_fe (h : s.synced = false) : (senderRecorded i s).fe = s.fe := by
  have hquiet (f g : PeerTable → PeerTable) : livenessNotice ((s.mapPeers f).mapPeers g) = (s.mapPeers f).mapPeers g :=
    livenessNotice_quiet (.inr h)
  unfold senderRecorded refreshPeer learnPeer changePeer addPeer deletePeer
  dsimp only
  split
  · split
    · rw [hquiet]; rfl
    · rfl
  · split
    · rfl
    · split
      · rw [hquiet]; rfl
      · split <;> rfl

/-- The records, their silent order and the disagreement record are all that a record's change touches. -/
theorem senderRecorded_peers (i : RxItem) (s : State) : (senderRecorded i s).peers = { s.peers with
    records := (senderRecorded i s).peers.records
    silentOrder := (senderRecorded i s).peers.silentOrder
    disagreement := (senderRecorded i s).peers.disagreement } := by
  unfold senderRecorded refreshPeer learnPeer
  dsimp only
  split
  · split
    · rw [livenessNotice_peers]; rfl
    · rfl
  · split
    · rfl
    · split
      · rw [livenessNotice_peers]; rfl
      · split <;> rfl

theorem senderRecorded_mayAsk (i : RxItem) (s : State) : (senderRecorded i s).mayAsk = s.mayAsk := by
  have hkept := senderRecorded_kept i s
  unfold State.mayAsk State.synced
  rw [senderRecorded_peers, hkept.pool, hkept.image]

/-- The record of a known sender (R53). -/
theorem senderRecorded_refreshes {r : PeerRecord} (h : s.peer i.sender = some r) :
    (senderRecorded i s).peers = { s.peers with
      records := s.peers.records.map fun x => if x.station = i.sender then
        { x with lastHeard := i.stamp, role := i.role, silent := false } else x
      silentOrder := if r.silent then s.peers.silentOrder.filter (fun x => x != i.sender) else s.peers.silentOrder }
    ∧ (senderRecorded i s).counters = s.counters := by
  rw [senderRecorded_known h]
  unfold refreshPeer
  dsimp only
  split
  · rw [livenessNotice_peers, livenessNotice_counters]
    exact ⟨rfl, rfl⟩
  · exact ⟨rfl, rfl⟩

/-- A sender learned in the place of another station (R52). -/
theorem senderRecorded_replaces {r : PeerRecord} (hu : s.peer i.sender = none)
    (hfull : ∀ k < 16, ∃ x ∈ s.peers.records, x.pos = k) (hr : s.replacedBy i r) :
    (senderRecorded i s).peers = (addPeer r.pos i (deletePeer r.station s)).peers
      ∧ (senderRecorded i s).counters = s.counters := by
  have hnone : lowestFree (s.peers.records.map PeerRecord.pos) peerCapacity = none :=
    lowestFree_eq_none fun k hk => by simpa using hfull k hk
  rw [senderRecorded_unknown hu]
  rcases learnPeer_replaces hnone hr with h | h <;> rw [h]
  · rw [livenessNotice_peers, livenessNotice_counters]
    exact ⟨rfl, rfl⟩
  · exact ⟨rfl, rfl⟩

theorem senderRecorded_counts (hu : s.peer i.sender = none) (hfull : ∀ k < 16, ∃ x ∈ s.peers.records, x.pos = k)
    (horder : s.peers.silentOrder = [])
    (hnone : i.role = .grinder ∨ ∀ r ∈ s.peers.records, r.role = .store ∨ r.silent = true) :
    senderRecorded i s = s.count fun c => { c with unlearned := satInc c.unlearned } := by
  rw [senderRecorded_unknown hu]
  exact learnPeer_not (lowestFree_eq_none fun k hk => by simpa using hfull k hk) horder hnone

theorem senderRecorded_learns {pos : Nat} (hu : s.peer i.sender = none) (hfree : ∀ r ∈ s.peers.records, r.pos ≠ pos)
    (hpos : pos < 16) (hbelow : ∀ k < pos, ∃ r ∈ s.peers.records, r.pos = k) :
    senderRecorded i s = addPeer pos i s := by
  rw [senderRecorded_unknown hu]
  exact learnPeer_free (lowestFree_eq_some (by simpa using hfree) hpos fun k hk => by simpa using hbelow k hk)

theorem mem_addPeer {pos : Nat} {x : PeerRecord} : x ∈ (addPeer pos i s).peers.records
    ↔ x = ⟨pos, i.sender, i.role, i.stamp, false, none⟩ ∨ x ∈ s.peers.records :=
  mem_insertBy PeerRecord.pos _ x s.peers.records

theorem mem_deletePeer {st : Station} {x : PeerRecord} :
    x ∈ (deletePeer st s).peers.records ↔ x ∈ s.peers.records ∧ x.station ≠ st := by
  simp [deletePeer]

/-! ## The peer table takes the item at the head (R34, R51 to R53) -/

/-- The station with the item at the head of its receive queue marked as taken by the peer table. -/
def headOffered (i : RxItem) (rest : List RxItem) (s : State) : State :=
  setRxQueue ({ i with forPeers := false } :: rest) s

theorem exec_peerItem (hl : s.isLive = true) (hq : s.fe.rxQueue = i :: rest) (hk : i.kind ≠ .roll)
    (hp : i.forPeers = true) : exec .peerItem s = .next (depart (peerTake i (headOffered i rest s))) := by
  show execPeerItem s = _
  rw [execPeerItem, if_pos hl, peersTakeNext_head _ hq hp (by simpa using hk)]
  rfl

theorem exec_roll (hl : s.isLive = true) (hq : s.fe.rxQueue = i :: rest) (hk : i.kind = .roll)
    (hp : i.forPeers = true) : exec .roll s = .next (depart (peerTake i (headOffered i rest s))) := by
  show execRoll s = _
  rw [execRoll, if_pos hl, peersTakeNext_head _ hq hp (by simp [hk])]
  rfl

/-- The taking leaves what no command of the cell changes. -/
theorem peerTake_cell (hq : s.fe.rxQueue = i :: rest) : cellFrame s (depart (peerTake i (headOffered i rest s))) :=
  (cellFrame_stable s).depart _ ((cellFrame_stable s).peerTake i _ ((cellFrame_stable s).setRxQueue _ s
    (by rw [hq]; exact Nat.le_refl _) (cellFrame_refl s)))

theorem peerTake_own (ho : i.own.isSome = true) : peerTake i s = s := if_pos ho

theorem peerTake_other (ho : i.own = none) (hk : i.kind ≠ .roll) : peerTake i s = senderRecorded i s := by
  unfold peerTake; dsimp only
  rw [ho, if_neg nofun, if_neg hk]
  rfl

theorem headOffered_taken (hp : i.forPool = false) (hm : i.forImage = false) :
    ({ i with forPeers := false } : RxItem).taken = true := by
  simp [RxItem.taken, hp, hm]

end

/-- An own item that leaves last ends DEAF (R37, R94). -/
theorem ownItem_deafEnds {s : State} {i : RxItem} (hd : s.fe.deaf = true) (hp : i.forPool = false)
    (hm : i.forImage = false) : deafEnds s (depart (headOffered i [] s)) :=
  depart_deafEnds hd rfl (headOffered_taken hp hm) rfl rfl rfl fun _ => rfl

/-- Another station's item that leaves last ends DEAF (R37, R94). -/
theorem otherItem_deafEnds {s : State} {i : RxItem} (hd : s.fe.deaf = true) (hp : i.forPool = false)
    (hm : i.forImage = false) : deafEnds s (depart (senderRecorded i (headOffered i [] s))) := by
  have hkept := senderRecorded_kept i (headOffered i [] s)
  refine depart_deafEnds (i := { i with forPeers := false }) (by rw [hkept.fe]; exact hd) (by rw [hkept.fe]; rfl)
    (headOffered_taken hp hm) (senderRecorded_mayAsk i _) hkept.pool hkept.lineFault fun hmay => ?_
  have hsynced : s.synced = false := by
    cases hs : s.synced with
    | false => rfl
    | true => simp [State.mayAsk, hs] at hmay
  rw [senderRecorded_fe (s := headOffered i [] s) hsynced]
  rfl

/-- Settles O22: the sender's record by the rows of R52 and R53, and the end of DEAF. -/
theorem peerItemLearnsSender : Obligations.PeerItemLearnsSender := by
  intro i rest s hl hq hk hp
  have hexec := exec_peerItem hl hq hk hp
  have hcell := peerTake_cell hq
  obtain ⟨hpeers, hcounters, htable⟩ := depart_kept (peerTake i (headOffered i rest s))
  have hkept := senderRecorded_kept i (headOffered i rest s)
  refine ⟨fun pos ho hu hfree hpos hbelow => ⟨_, hexec, hcell, ?_⟩, fun r ho hr => ⟨_, hexec, hcell, ?_⟩,
    fun ho hu hfull horder hnone => ⟨_, hexec, hcell, ?_⟩, fun r ho hu hfull hr => ⟨_, hexec, hcell, ?_⟩,
    fun ho => ⟨_, hexec, ?_⟩, fun hd hrest hpool himage => ⟨_, hexec, hcell, ?_⟩⟩
  -- The sender at the lowest free position.
  · rw [peerTake_other ho hk] at hpeers htable ⊢
    rw [hpeers, htable, hkept.pool, senderRecorded_learns (s := headOffered i rest s) hu hfree hpos hbelow]
    exact ⟨mem_addPeer.2 (.inl rfl), fun r hr => mem_addPeer.2 (.inr hr), insertBy_length _ _ _, rfl, rfl⟩
  -- A known sender.
  · rw [peerTake_other ho hk] at hpeers htable ⊢
    rw [hpeers, htable, hkept.pool, (senderRecorded_refreshes (by exact hr)).1]
    exact ⟨rfl, rfl⟩
  -- A sender that is not learned.
  · rw [peerTake_other ho hk] at hpeers hcounters ⊢
    rw [hpeers, hcounters, senderRecorded_counts (s := headOffered i rest s) hu hfull horder hnone]
    exact ⟨rfl, rfl⟩
  -- The sender in the place of another.
  · obtain ⟨hrecords, hcount⟩ := senderRecorded_replaces (s := headOffered i rest s) hu hfull hr
    rw [peerTake_other ho hk] at hpeers hcounters htable ⊢
    rw [hpeers, hcounters, htable, hkept.pool, hrecords, hcount]
    exact ⟨rfl, fun x => mem_addPeer.trans (or_congr_right mem_deletePeer), rfl, rfl, rfl⟩
  -- An own item, and the last one of a DEAF station.
  · rw [peerTake_own ho] at hpeers htable hcell ⊢
    exact ⟨hpeers, htable, hcell⟩
  · subst hrest
    cases ho : i.own with
    | some o => rw [peerTake_own (by rw [ho]; rfl)]; exact ownItem_deafEnds hd hpool himage
    | none => rw [peerTake_other ho hk]; exact otherItem_deafEnds hd hpool himage

end Sys2Proof.Machine

namespace Sys2Proof.Machine
open State Sys2Proof.Config

/-! ## A pool resync behind a change of the peer records (R105, R106) -/

section
variable {s t u : State} {asked : Bool}

/-- The store unit's part forgets what the claim watch has submitted. -/
theorem KeptByWatch.storeResynced (h : KeptByWatch s u) (x : storeResynced u t) : storeResynced s t := by
  obtain ⟨hlife, hstore, hframe, -⟩ := h
  generalize u.store.jobFrame = frame at hstore hframe
  unfold Machine.storeResynced at *
  rw [hlife, hstore] at x
  dsimp only at x
  obtain ⟨hqueue, hsend, hclaims, htrack, hlatch, hstrobe, hpending, hjob⟩ := x
  refine ⟨hqueue, hsend, hclaims, htrack, hlatch, hstrobe, hpending, ?_⟩
  cases hj : s.store.job with
  | none => rw [hj] at hjob; exact hjob
  | some j =>
    rw [hj] at hjob
    obtain ⟨⟨kind, serial, source, dest, key⟩, phase⟩ := j
    cases phase with
    | closing =>
      obtain ⟨hgoes, hdone, hrack, hheld⟩ := hjob
      refine ⟨hgoes, hdone, hrack, hheld.trans ?_⟩
      generalize s.store.jobFrame = frame' at hframe
      cases s.store.heldCompletion with
      | some c => rfl
      | none =>
        match frame, frame', hframe with
        | none, none, _ => rfl
        | some ⟨f, _⟩, some ⟨g, _⟩, hframe =>
          obtain rfl : f = g := Option.some.inj hframe
          cases f <;> rfl
    | starting | moving => exact hjob
    | armed => cases kind <;> exact hjob

/-- A station with its peer records changed resyncs as the station before it. -/
theorem KeptByRecord.resynced (h : KeptByRecord s u) (x : resynced asked u t) : resynced asked s t := by
  obtain ⟨-, htime, hphase, hstraps, -, hconstants, -⟩ := h.cell
  have hheadsLive : u.headsLive = s.headsLive := by unfold State.headsLive; rw [hphase, hstraps]
  have hstoreLive : u.storeLive = s.storeLive := by unfold State.storeLive; rw [hphase, hstraps]
  have hhead (k : Head) : s.head k = u.head k := by unfold State.head; rw [h.heads]
  have hswap (k : Head) : s.swap k = u.swap k := by unfold State.swap; rw [h.swaps]
  have hfamily (k : Head) : s.claimFamily k = u.claimFamily k := by
    unfold State.claimFamily; rw [hhead, hconstants]
  obtain ⟨htable, hgeneration, hdigest, hsync, hheadRefusal, hstoreRefusal, hdoubtful, hdisagreement, hpurged, hqueued,
    hheld, hcollection, hwatch, hresponder, hbuffer, hrepeat, hpart0, htimer, hcount, hpart, hdeferred, hheads, hstore⟩ := x
  refine ⟨htable, hgeneration, hdigest, hsync, hheadRefusal.trans (by rw [h.pool]), hstoreRefusal.trans (by rw [h.pool]),
    hdoubtful, hdisagreement, hpurged, fun e he => hqueued e (h.queued he), hheld, hcollection, hwatch, hresponder, hbuffer,
    hrepeat, hpart0, htimer, hcount, hpart, hdeferred, fun hl k => ?_, fun hl => ?_⟩
  · obtain ⟨hs, hh⟩ := hheads (hheadsLive.trans hl) k
    exact ⟨hs.congr (hswap k) (hfamily k) htime.symm hconstants.symm rfl, hh.congr (hhead k) rfl⟩
  · exact h.toKeptByWatch.storeResynced (hstore (hstoreLive.trans hl))

/-- Behind a pool resync the image unit holds no request (R33, R105). -/
theorem holdsRequest_of_resynced (x : resynced false s t) : t.holdsRequest .imageUnit = false := by
  obtain ⟨-, -, -, -, -, -, -, -, -, -, hheld, -⟩ := x
  refine List.any_eq_false.2 fun r hr ho => ?_
  exact absurd ((hheld r hr).2 (by simpa using ho)).1 nofun

/-- The ask behind a pool resync is the one frame of the image unit in the queues (R94, R106). -/
theorem ask_resynced (x : resynced false s t) : resynced true s (ask t) := by
  have hholds := holdsRequest_of_resynced x
  obtain ⟨htable, hgeneration, hdigest, hsync, hheadRefusal, hstoreRefusal, hdoubtful, hdisagreement, hpurged, hqueued,
    hheld, hcollection, hwatch, hresponder, hbuffer, hrepeat, hpart0, htimer, hcount, hpart, hdeferred, hheads, hstore⟩ := x
  have hpurged' (e : TxEntry) (he : e ∈ t.fe.txQueue) (hp : e.payload.isPool = true ∨ e.origin = .imageUnit) :=
    (hpurged e he hp).resolve_right fun hc => absurd hc.1 nofun
  have hheld' (r : Origin × Payload) (hr : r ∈ t.fe.held) : r.2.isPool = false ∧ r.1 ≠ .imageUnit :=
    ⟨(hheld r hr).1, fun ho => absurd ((hheld r hr).2 ho).1 nofun⟩
  have hquiet (r : Origin × Payload) (hr : r ∈ t.fe.held) :
      r.2.isPool = false ∧ (r.1 = .imageUnit → true = true ∧ r.2 = .imageAsk) :=
    (hheld' r hr).imp_right fun hne ho => absurd ho hne
  cases hm : t.mayAsk with
  | false =>
    rw [ask_barred hm]
    exact ⟨htable, hgeneration, hdigest, hsync, hheadRefusal, hstoreRefusal, hdoubtful, hdisagreement,
      fun e he hp => .inl (hpurged' e he hp), hqueued, hquiet, hcollection, hwatch, hresponder, hbuffer, hrepeat, hpart0,
      htimer, hcount, hpart, hdeferred, hheads, hstore⟩
  | true =>
    cases hl : t.lineFault with
    | true =>
      rw [ask_refused hm hholds hl]
      exact ⟨htable, hgeneration, hdigest, hsync, hheadRefusal, hstoreRefusal, hdoubtful, hdisagreement,
        fun e he hp => .inl (hpurged' e he hp), hqueued, hquiet, rfl, hwatch, hresponder, hbuffer, hrepeat, hpart0, rfl,
        hcount, rfl, hdeferred, hheads, hstore⟩
    | false =>
      obtain ⟨hkept, htx, hrequests⟩ := submit_queues .imageUnit .imageAsk t
      rw [ask_submits hm hholds hl]
      refine ⟨htable, hgeneration, hdigest, nofun, hheadRefusal, hstoreRefusal, ?_, hdisagreement, fun e he hp => ?_,
        fun e he hp ho => hkept (hqueued e he hp ho), fun r hr => ?_, rfl, hwatch, hresponder, hbuffer, hrepeat, hpart0, rfl,
        hcount, rfl, hdeferred, hheads, hstore⟩
      · rw [submit_rest]
        exact hdoubtful
      · exact (htx e he).symm.imp (fun he => hpurged' e he hp) fun he => ⟨rfl, he⟩
      · rcases hrequests r hr with rfl | hr
        · exact ⟨rfl, fun _ => ⟨rfl, rfl⟩⟩
        · exact hquiet r hr

/-- The receive queue is no matter of a pool resync. -/
theorem resynced.withQueue (x : resynced asked s t) (q : List RxItem) : resynced asked s (setRxQueue q t) := x

theorem divergentResynced.withQueue (x : divergentResynced s t) (q : List RxItem) :
    divergentResynced s (setRxQueue q t) := x

/-- A divergent station resyncs and asks (R57, R106). -/
theorem divergent_resynced (s : State) : divergentResynced s (divergent s) := by
  have hresynced := poolResync_resynced s
  refine ⟨ask_resynced hresynced, fun hmismatch hclash hstopped hl => ?_⟩
  have hrest := poolResync_rest s
  have hpeers : (poolResync s).peers = { s.peers with disagreement := none } := by rw [hrest]
  have hline : (poolResync s).lineFault = false := (by rw [hrest] : (poolResync s).lineFault = s.lineFault).trans hl
  have himage := (congrArg State.image hrest).trans (sharedResync_image s)
  have hpool : (poolResync s).pool.sync = .unsynced := by rw [hrest]
  have hmay : (poolResync s).mayAsk = true := by
    unfold State.mayAsk State.synced
    rw [hpeers, himage, hpool]
    show (!s.peers.familyMismatch && !s.peers.roleClash && !false && !s.image.askingStopped) = true
    rw [hmismatch, hclash, hstopped]
    rfl
  rw [divergent, ask_submits hmay (holdsRequest_of_resynced hresynced) hline]
  exact ⟨rfl, submit_submitted ((refusedAtOnce_unpooled rfl).trans hline)⟩

/-! ## What the checks of a ROLL leave (R56 to R59) -/

/-- What a comparison leaves: it changes of the peer table the disagreement record alone, and counts nothing. -/
structure KeptByComparison (s t : State) : Prop where
  peers : t.peers = { s.peers with disagreement := t.peers.disagreement }
  counters : t.counters = s.counters
  deaf : t.fe.deaf = s.fe.deaf

theorem poolResync_compared (s : State) : KeptByComparison s (poolResync s) := by
  constructor <;> rw [poolResync_rest]

theorem divergent_compared (s : State) : KeptByComparison s (divergent s) := by
  obtain ⟨hpeers, hcounters, hdeaf⟩ := poolResync_compared s
  constructor <;> rw [divergent, ask_rest]
  exacts [hpeers, hcounters, hdeaf]

/-- The claim conditions tested as the doubtful flag goes touch the swap units alone. -/
theorem swapStable_doubtfulCleared (h : Head) (s : State) : SwapStable h fun t =>
    t.peers = s.peers ∧ t.counters = s.counters ∧ t.pool = s.pool ∧ t.fe.deaf = s.fe.deaf ∧ t.fe.doubtful = false where
  mapPending := fun _ _ _ x => x
  mapFe := fun g t hg ⟨hpeers, hcounters, hpool, hdeaf, hdoubtful⟩ => by
    refine ⟨hpeers, hcounters, hpool, ?_, ?_⟩
    · rw [mapFe_fe, hg.rest]; exact hdeaf
    · rw [mapFe_fe, hg.rest]; exact hdoubtful
  mapSwap := fun _ _ x => x

theorem clearDoubtful_kept (s : State) : (clearDoubtful s).peers = s.peers ∧ (clearDoubtful s).counters = s.counters
    ∧ (clearDoubtful s).pool = s.pool ∧ (clearDoubtful s).fe.deaf = s.fe.deaf
    ∧ (clearDoubtful s).fe.doubtful = false := by
  unfold clearDoubtful bothSwaps
  split
  · split
    · exact (swapStable_doubtfulCleared .h1 s).claimTest _
        ((swapStable_doubtfulCleared .h0 s).claimTest _ ⟨rfl, rfl, rfl, rfl, rfl⟩)
    · exact ⟨rfl, rfl, rfl, rfl, rfl⟩
  next hd => exact ⟨rfl, rfl, rfl, rfl, by simpa using hd⟩

variable {i : RxItem} {v : RollValues}

theorem rollMatch_compared (i : RxItem) (s : State) : KeptByComparison s (rollMatch i s) := by
  obtain ⟨hpeers, hcounters, -, hdeaf, -⟩ := clearDoubtful_kept (s.mapPeers fun p =>
    { p with disagreement := p.disagreement.filter fun d => d.station != i.sender })
  refine ⟨?_, hcounters, hdeaf⟩
  rw [rollMatch, hpeers]
  rfl

theorem disagreement_compared (i : RxItem) (s : State) : KeptByComparison s (disagreement i s) := by
  unfold disagreement
  dsimp only
  split
  · exact divergent_compared s
  · split
    · split
      · exact ⟨rfl, rfl, rfl⟩
      · split
        exacts [⟨rfl, rfl, rfl⟩, divergent_compared s]
    · exact ⟨rfl, rfl, rfl⟩

theorem compareRoll_compared (i : RxItem) (v : RollValues) (s : State) : KeptByComparison s (compareRoll i v s) := by
  unfold compareRoll
  split
  · split
    exacts [rollMatch_compared i s, disagreement_compared i s]
  · exact ⟨rfl, rfl, rfl⟩

/-- What the checks of a ROLL leave: the records, the UNLEARNED counter and DEAF. -/
structure KeptByChecks (s t : State) : Prop where
  peers : t.peers = { s.peers with
    disagreement := t.peers.disagreement, familyMismatch := t.peers.familyMismatch, roleClash := t.peers.roleClash }
  unlearned : t.counters.unlearned = s.counters.unlearned
  deaf : t.fe.deaf = s.fe.deaf

theorem KeptByChecks.refl (s : State) : KeptByChecks s s := ⟨rfl, rfl, rfl⟩

theorem KeptByChecks.trans (h : KeptByChecks s t) (k : KeptByChecks t u) : KeptByChecks s u where
  peers := by
    have hpeers := k.peers
    rw [h.peers] at hpeers
    exact hpeers
  unlearned := k.unlearned.trans h.unlearned
  deaf := k.deaf.trans h.deaf

theorem KeptByComparison.checks (h : KeptByComparison s t) : KeptByChecks s t where
  peers := by rw [h.peers]
  unlearned := by rw [h.counters]
  deaf := h.deaf

/-- A pool resync of a station with a flag of its peer table set. -/
theorem poolResync_flagged {f : PeerTable → PeerTable} (hf : f s.peers = { s.peers with
    familyMismatch := (f s.peers).familyMismatch, roleClash := (f s.peers).roleClash }) :
    KeptByChecks s (poolResync (s.mapPeers f)) := by
  have hflagged : KeptByChecks s (s.mapPeers f) := ⟨by rw [mapPeers_peers, hf], rfl, rfl⟩
  exact hflagged.trans (poolResync_compared (s.mapPeers f)).checks

theorem checkFamily_kept (i : RxItem) (v : RollValues) (s : State) : KeptByChecks s (checkFamily i v s) := by
  unfold checkFamily
  split
  · exact .refl s
  · split
    · exact ⟨rfl, rfl, rfl⟩
    · split
      · exact .refl s
      · exact poolResync_flagged rfl

theorem checkRole_kept (i : RxItem) (s : State) : KeptByChecks s (checkRole i s) := by
  unfold checkRole
  split
  · exact poolResync_flagged rfl
  · exact .refl s

/-- The checks of a ROLL in their order (R53). -/
def rollChecked (i : RxItem) (v : RollValues) (s : State) : State := checkRole i (compareRoll i v (checkFamily i v s))

theorem rollChecked_kept (i : RxItem) (v : RollValues) (s : State) : KeptByChecks s (rollChecked i v s) :=
  ((checkFamily_kept i v s).trans (compareRoll_compared i v _).checks).trans (checkRole_kept i _)

/-! ## The checks, case by case (R56 to R59) -/

/-- The ROLL is compared (R56). -/
def State.compares (s : State) (i : RxItem) : Prop :=
  s.synced = true ∧ i.synced = true ∧ i.doubtful = false ∧ (s.isStore = false ∨ i.role ≠ .store)

theorem compareRoll_matches (hc : s.compares i) (hg : v.generation = s.pool.generation) (hd : v.digest = s.pool.digest) :
    compareRoll i v s = rollMatch i s := by
  obtain ⟨hs, his, hid, hr⟩ := hc
  unfold compareRoll
  rw [if_pos ⟨hs, his, by rw [hid]; rfl, by simpa using hr⟩, if_pos ⟨hg, hd⟩]

theorem compareRoll_differs (hc : s.compares i) (hn : ¬(v.generation = s.pool.generation ∧ v.digest = s.pool.digest)) :
    compareRoll i v s = disagreement i s := by
  obtain ⟨hs, his, hid, hr⟩ := hc
  unfold compareRoll
  rw [if_pos ⟨hs, his, by rw [hid]; rfl, by simpa using hr⟩, if_neg hn]

theorem compareRoll_passes (hn : s.synced = false ∨ (s.isStore = true ∧ i.role = .store)) : compareRoll i v s = s := by
  unfold compareRoll
  refine if_neg fun ⟨hs, _, _, hr⟩ => ?_
  rcases hn with hn | hn
  · rw [hs] at hn; exact absurd hn nofun
  · simp [hn] at hr

theorem checkRole_passes (hn : i.role = .grinder ∨ s.isStore = false) : checkRole i s = s := by
  unfold checkRole
  refine if_neg fun ⟨hs, hr, _⟩ => ?_
  rcases hn with hn | hn
  · rw [hr] at hn; exact absurd hn nofun
  · rw [hs] at hn; exact absurd hn nofun

/-- A grinder's ROLL, with its family digest counted where it differs (R58). -/
def familyCounted (v : RollValues) (s : State) : State := s.count fun c =>
  { c with familyDiff := if v.familyDigest = s.familyDigest then c.familyDiff else satInc c.familyDiff }

theorem checkFamily_grinder (hr : i.role = .grinder) : checkFamily i v s = familyCounted v s := by
  unfold checkFamily familyCounted
  split
  next => rfl
  next => rw [hr]

/-- A grinder's ROLL at either station: counted and compared (R56, R58). -/
theorem rollChecked_grinder (hr : i.role = .grinder) : rollChecked i v s = compareRoll i v (familyCounted v s) := by
  rw [rollChecked, checkRole_passes (.inl hr), checkFamily_grinder hr]

/-- A store's ROLL at a grinder of its family table is compared (R56). -/
theorem rollChecked_store_at_grinder (hs : s.isStore = false) (hf : v.familyDigest = s.familyDigest) :
    rollChecked i v s = compareRoll i v s := by
  have hstore : (compareRoll i v s).isStore = false := by
    obtain ⟨-, -, -, hstraps, -⟩ := (cellFrame_stable s).compareRoll i v s (cellFrame_refl s)
    unfold State.isStore
    rw [hstraps]
    exact hs
  rw [rollChecked, checkFamily, if_pos hf, checkRole_passes (.inr hstore)]

/-- A store's ROLL with another family digest, at a grinder (R58). -/
theorem rollChecked_mismatch (hr : i.role = .store) (hs : s.isStore = false) (hn : s.peers.familyMismatch = false)
    (hf : v.familyDigest ≠ s.familyDigest) :
    rollChecked i v s = poolResync (s.mapPeers fun p => { p with familyMismatch := true }) := by
  have hfamily : checkFamily i v s = poolResync (s.mapPeers fun p => { p with familyMismatch := true }) := by
    unfold checkFamily
    rw [if_neg hf, hr]
    exact if_neg (by simp [hs, hn])
  have hrest := poolResync_rest (s.mapPeers fun p => { p with familyMismatch := true })
  rw [rollChecked, hfamily, compareRoll_passes (.inl (by rw [hrest]; rfl)),
    checkRole_passes (.inr (by rw [hrest]; exact hs))]

/-- A store's ROLL at a store is held against the station number alone (R59). -/
theorem rollChecked_store_at_store (hr : i.role = .store) (hs : s.isStore = true) (hn : s.peers.roleClash = false) :
    rollChecked i v s = if i.sender.toNat < s.station.toNat
      then poolResync (s.mapPeers fun p => { p with roleClash := true }) else s := by
  have hfamily : checkFamily i v s = s := by
    unfold checkFamily
    split
    next => rfl
    next => rw [hr]; exact if_pos (.inl hs)
  rw [rollChecked, hfamily, compareRoll_passes (.inr ⟨hs, hr⟩)]
  unfold checkRole
  simp only [hs, hr, hn, Bool.not_false, true_and]

/-- A disagreement with a grinder (R57). -/
theorem disagreement_grinder (hr : i.role = .grinder) (hlive : (s.peer i.sender).any (fun r => !r.silent) = true) :
    disagreement i s = if ∀ d, s.peers.disagreement = some d → d.station = i.sender
      then s.mapPeers fun p => { p with disagreement := some ⟨i.sender, i.stamp⟩ } else divergent s := by
  unfold disagreement
  dsimp only
  rw [if_neg (by rw [hr]; exact fun hc => absurd hc.2 nofun), if_pos hlive]
  cases s.peers.disagreement with
  | none => exact (if_pos nofun).symm
  | some d => exact if_congr (by simp) rfl rfl

theorem disagreement_store (hs : s.isStore = false) (hr : i.role = .store) : disagreement i s = divergent s := by
  unfold disagreement
  rw [if_pos ⟨by rw [hs]; rfl, hr⟩]

/-! ## The record of a ROLL's sender (R51 to R53) -/

/-- The sender's record made or refreshed, with the values of its ROLL (R53). -/
def rollRecorded (i : RxItem) (v : RollValues) (s : State) : State :=
  changePeer i.sender (fun r => { r with roll := some v }) (senderRecorded i s)

theorem peerTake_roll (ho : i.own = none) (hk : i.kind = .roll) (hv : rollValues i = some v) :
    peerTake i s = rollChecked i v (rollRecorded i v s) := by
  unfold peerTake; dsimp only
  rw [ho, if_neg nofun, if_pos hk]
  unfold takeRoll
  rw [hv]
  rfl

theorem rollRecorded_kept (i : RxItem) (v : RollValues) (s : State) : KeptByRecord s (rollRecorded i v s) := by
  unfold rollRecorded changePeer
  exact (senderRecorded_kept i s).mapPeers _

/-- The flags and the roll timer of the peer table are no matter of the records. -/
theorem rollRecorded_peers (i : RxItem) (v : RollValues) (s : State) : (rollRecorded i v s).peers = { s.peers with
    records := (rollRecorded i v s).peers.records
    silentOrder := (rollRecorded i v s).peers.silentOrder
    disagreement := (rollRecorded i v s).peers.disagreement } := by
  unfold rollRecorded changePeer
  rw [mapPeers_peers, senderRecorded_peers]

/-- The record of a known sender, with the values of the ROLL. -/
theorem rollRecorded_known {r : PeerRecord} (h : s.peer i.sender = some r) :
    (rollRecorded i v s).peers.records = s.peers.records.map fun x => if x.station = i.sender then
      { x with lastHeard := i.stamp, role := i.role, silent := false, roll := some v } else x := by
  unfold rollRecorded changePeer
  rw [mapPeers_peers, (senderRecorded_refreshes h).1, List.map_map]
  refine List.map_congr_left fun x _ => ?_
  by_cases hx : x.station = i.sender
  · simp [hx]
  · simp [hx]

/-- The one record of a new sender takes the values of its ROLL. -/
theorem rollRecorded_new {pos : Nat} {others : PeerRecord → Prop} (hothers : ∀ x, others x → x.station ≠ i.sender)
    (hrecords : ∀ x, x ∈ (senderRecorded i s).peers.records
      ↔ x = ⟨pos, i.sender, i.role, i.stamp, false, none⟩ ∨ others x) (x : PeerRecord) :
    x ∈ (rollRecorded i v s).peers.records ↔ x = ⟨pos, i.sender, i.role, i.stamp, false, some v⟩ ∨ others x := by
  unfold rollRecorded changePeer
  rw [mapPeers_peers]
  simp only [List.mem_map, hrecords]
  constructor
  · rintro ⟨y, rfl | hy, rfl⟩
    · exact .inl (if_pos rfl)
    · rw [if_neg (hothers y hy)]
      exact .inr hy
  · rintro (rfl | hx)
    · exact ⟨_, .inl rfl, if_pos rfl⟩
    · exact ⟨x, .inr hx, if_neg (hothers x hx)⟩

/-- A sender that is not learned leaves the records. -/
theorem changePeer_unknown {st : Station} (f : PeerRecord → PeerRecord) (h : s.peer st = none) :
    changePeer st f s = s := by
  have hsame : (s.peers.records.map fun r => if r.station = st then f r else r) = s.peers.records :=
    (List.map_congr_left fun r hr => if_neg (peer_eq_none_iff.1 h r hr)).trans (List.map_id' _)
  have hchange : changePeer st f s = s.mapPeers fun p =>
      { p with records := s.peers.records.map fun r => if r.station = st then f r else r } := rfl
  rw [hchange, hsame]
  rfl

/-- The sender has a record, or is learned at a free position. -/
def State.willRecord (s : State) (st : Station) : Prop :=
  (s.peer st).isSome = true ∨ ∃ k < 16, ∀ r ∈ s.peers.records, r.pos ≠ k

/-- The station's records are LIVE, and there is one. -/
def State.heardLive (s : State) (st : Station) : Prop :=
  (∃ x ∈ s.peers.records, x.station = st) ∧ ∀ x ∈ s.peers.records, x.station = st → x.silent = false

theorem State.heardLive.peer {st : Station} (h : s.heardLive st) : (s.peer st).any (fun r => !r.silent) = true := by
  obtain ⟨⟨x, hx, hst⟩, hlive⟩ := h
  cases hp : s.peer st with
  | none => exact absurd hst (peer_eq_none_iff.1 hp x hx)
  | some r =>
    obtain ⟨hr, hrst⟩ := peer_mem hp
    rw [Option.any_some, hlive r hr hrst]
    rfl

/-- A change that makes the records of a station LIVE, or leaves them so. -/
theorem changePeer_heardLive {st : Station} {f : PeerRecord → PeerRecord} (hst : ∀ x, (f x).station = x.station)
    (hex : ∃ x ∈ s.peers.records, x.station = st)
    (hlive : ∀ x ∈ s.peers.records, x.station = st → (f x).silent = false) : (changePeer st f s).heardLive st := by
  unfold changePeer State.heardLive
  simp only [mapPeers_peers, List.mem_map]
  obtain ⟨x, hx, hxst⟩ := hex
  refine ⟨⟨f x, ⟨x, hx, if_pos hxst⟩, (hst x).trans hxst⟩, ?_⟩
  rintro y ⟨z, hz, rfl⟩ hy
  by_cases hzst : z.station = st
  · rw [if_pos hzst]
    exact hlive z hz hzst
  · rw [if_neg hzst] at hy
    exact absurd hy hzst

theorem senderRecorded_willRecord (h : s.willRecord i.sender) : (senderRecorded i s).heardLive i.sender
    ∧ (senderRecorded i s).peers.disagreement = s.peers.disagreement ∧ (senderRecorded i s).counters = s.counters := by
  cases hp : s.peer i.sender with
  | some r =>
    obtain ⟨hpeers, hcounters⟩ := senderRecorded_refreshes hp
    refine ⟨?_, by rw [hpeers], hcounters⟩
    have hlive := changePeer_heardLive (s := s)
      (f := fun x => { x with lastHeard := i.stamp, role := i.role, silent := false }) (fun _ => rfl)
      ⟨r, peer_mem hp⟩ fun _ _ _ => rfl
    unfold State.heardLive
    rw [hpeers]
    exact hlive
  | none =>
    obtain ⟨k, hk, hfree⟩ := h.resolve_left (by rw [hp]; nofun)
    obtain ⟨pos, hpos⟩ := lowestFree_isSome (l := s.peers.records.map PeerRecord.pos) (by simpa using hfree) hk
    rw [senderRecorded_unknown hp, learnPeer_free hpos]
    refine ⟨⟨⟨_, mem_addPeer.2 (.inl rfl), rfl⟩, fun x hx hst => ?_⟩, rfl, rfl⟩
    rcases mem_addPeer.1 hx with rfl | hx
    · rfl
    · exact absurd hst (peer_eq_none_iff.1 hp x hx)

theorem rollRecorded_willRecord (h : s.willRecord i.sender) :
    ((rollRecorded i v s).peer i.sender).any (fun r => !r.silent) = true
      ∧ (rollRecorded i v s).peers.disagreement = s.peers.disagreement ∧ (rollRecorded i v s).counters = s.counters := by
  obtain ⟨⟨hex, hlive⟩, hdisagreement, hcounters⟩ := senderRecorded_willRecord h
  have hheard := changePeer_heardLive (f := fun r => { r with roll := some v }) (fun _ => rfl) hex hlive
  exact ⟨hheard.peer, hdisagreement, hcounters⟩

end

end Sys2Proof.Machine

namespace Sys2Proof.Machine
open State Sys2Proof.Config

/-! ## The command ROLL (R51 to R53, R56 to R59) -/

section
variable {s : State} {i : RxItem} {v : RollValues} {rest : List RxItem}

/-- The station as the records have taken the ROLL at the head of its receive queue, before the checks. -/
def rollHeard (i : RxItem) (v : RollValues) (rest : List RxItem) (s : State) : State :=
  rollRecorded i v (headOffered i rest s)

/-- What decides on the checks of a ROLL is as the station had it before. -/
structure ChecksAlike (s u : State) : Prop where
  isStore : u.isStore = s.isStore
  station : u.station = s.station
  synced : u.synced = s.synced
  familyDigest : u.familyDigest = s.familyDigest
  familyMismatch : u.peers.familyMismatch = s.peers.familyMismatch
  roleClash : u.peers.roleClash = s.peers.roleClash
  pool : u.pool = s.pool
  image : u.image = s.image
  lineFault : u.lineFault = s.lineFault
  deaf : u.fe.deaf = s.fe.deaf

theorem rollHeard_alike (i : RxItem) (v : RollValues) (rest : List RxItem) (s : State) :
    ChecksAlike s (rollHeard i v rest s) := by
  have hkept := rollRecorded_kept i v (headOffered i rest s)
  have hpeers := rollRecorded_peers i v (headOffered i rest s)
  obtain ⟨-, -, -, hstraps, -, -, -, hdigest, -⟩ := hkept.cell
  unfold rollHeard
  refine ⟨?_, ?_, ?_, hdigest, by rw [hpeers]; rfl, by rw [hpeers]; rfl, hkept.pool, hkept.image, hkept.lineFault,
    by rw [hkept.fe]; rfl⟩
  · unfold State.isStore; rw [hstraps]; rfl
  · unfold State.station; rw [hstraps]; rfl
  · unfold State.synced; rw [hkept.pool]; rfl

theorem rollHeard_resynced {asked : Bool} {u t : State} (h : KeptByRecord (rollHeard i v rest s) u)
    (x : resynced asked u t) : resynced asked s t :=
  (rollRecorded_kept i v (headOffered i rest s)).resynced (h.resynced x)

/-- A ROLL of another station stands at the head of the receive queue of a live station, for the peer table to take. -/
structure ForeignRoll (s : State) (i : RxItem) (v : RollValues) (rest : List RxItem) : Prop where
  live : s.isLive = true
  queue : s.fe.rxQueue = i :: rest
  kind : i.kind = .roll
  forPeers : i.forPeers = true
  values : rollValues i = some v
  foreign : i.own = none

/-- ROLL of another station: its sender's record, the checks, and the departure of the item. -/
theorem ForeignRoll.outcome (hroll : ForeignRoll s i v rest) :
    exec .roll s = .next (depart (rollChecked i v (rollHeard i v rest s))) := by
  rw [exec_roll hroll.live hroll.queue hroll.kind hroll.forPeers, peerTake_roll hroll.foreign hroll.kind hroll.values]
  rfl

theorem ForeignRoll.cell (hroll : ForeignRoll s i v rest) :
    cellFrame s (depart (rollChecked i v (rollHeard i v rest s))) := by
  have hcell := peerTake_cell hroll.queue
  rw [peerTake_roll hroll.foreign hroll.kind hroll.values] at hcell
  exact hcell

/-- Of the records, the silent order, the roll timer and UNLEARNED, the checks and the departure leave all. -/
theorem foreignRoll_records : (depart (rollChecked i v (rollHeard i v rest s))).peers.records
      = (rollHeard i v rest s).peers.records
    ∧ (depart (rollChecked i v (rollHeard i v rest s))).peers.silentOrder = (rollHeard i v rest s).peers.silentOrder
    ∧ (depart (rollChecked i v (rollHeard i v rest s))).peers.rollTimer = s.peers.rollTimer
    ∧ (depart (rollChecked i v (rollHeard i v rest s))).counters.unlearned
      = (rollHeard i v rest s).counters.unlearned := by
  obtain ⟨hpeers, hunlearned, -⟩ := rollChecked_kept i v (rollHeard i v rest s)
  obtain ⟨hpeers', hcounters, -⟩ := depart_kept (rollChecked i v (rollHeard i v rest s))
  have htimer : (rollHeard i v rest s).peers.rollTimer = s.peers.rollTimer := by
    unfold rollHeard
    rw [rollRecorded_peers]
    rfl
  rw [hpeers', hcounters, hpeers]
  exact ⟨rfl, rfl, htimer, hunlearned⟩

/-- A station that is not DEAF is left by the item without an ask. -/
theorem ForeignRoll.outcome_hearing (hroll : ForeignRoll s i v rest) (hd : s.fe.deaf = false) :
    ∃ q, exec .roll s = .next (setRxQueue q (rollChecked i v (rollHeard i v rest s)))
      ∧ cellFrame s (setRxQueue q (rollChecked i v (rollHeard i v rest s))) := by
  have hdeaf : (rollChecked i v (rollHeard i v rest s)).fe.deaf = false :=
    ((rollChecked_kept i v _).deaf.trans (rollHeard_alike i v rest s).deaf).trans hd
  have hcell := hroll.cell
  have hexec := hroll.outcome
  rw [depart_hearing hdeaf] at hcell hexec
  exact ⟨_, hexec, hcell⟩

/-- A divergence found at a ROLL (R57, R106). -/
theorem rollHeard_divergent {u : State} (h : KeptByRecord (rollHeard i v rest s) u)
    (hpeers : u.peers = (rollHeard i v rest s).peers) : divergentResynced s (divergent u) := by
  have halike := rollHeard_alike i v rest s
  obtain ⟨hresynced, hasks⟩ := divergent_resynced u
  refine ⟨rollHeard_resynced h hresynced, fun hm hc hstopped hl => hasks ?_ ?_ ?_ ?_⟩
  · rw [hpeers, halike.familyMismatch, hm]
  · rw [hpeers, halike.roleClash, hc]
  · rw [h.image, halike.image, hstopped]
  · rw [h.lineFault, halike.lineFault, hl]

theorem rollHeard_willRecord (h : s.willRecord i.sender) :
    ((rollHeard i v rest s).peer i.sender).any (fun r => !r.silent) = true
      ∧ (rollHeard i v rest s).peers.disagreement = s.peers.disagreement
      ∧ (rollHeard i v rest s).counters = s.counters :=
  rollRecorded_willRecord (s := headOffered i rest s) h

/-! ### The sender's record (R51 to R53) -/

/-- The record of a known sender (R53). -/
theorem ForeignRoll.refreshes {r : PeerRecord} (hroll : ForeignRoll s i v rest) (hr : s.peer i.sender = some r) :
    ∃ t, exec .roll s = .next t ∧ cellFrame s t
      ∧ t.peers.records = s.peers.records.map (fun x => if x.station = i.sender then
          { x with lastHeard := i.stamp, role := i.role, silent := false, roll := some v } else x)
      ∧ (r.silent = true → t.peers.silentOrder = s.peers.silentOrder.filter fun x => x != i.sender)
      ∧ (r.silent = false → t.peers.silentOrder = s.peers.silentOrder)
      ∧ t.peers.rollTimer = s.peers.rollTimer := by
  obtain ⟨hrecords, horder, htimer, -⟩ := foreignRoll_records (i := i) (v := v) (rest := rest) (s := s)
  have hsilent : (rollHeard i v rest s).peers.silentOrder
      = if r.silent then s.peers.silentOrder.filter (fun x => x != i.sender) else s.peers.silentOrder :=
    congrArg PeerTable.silentOrder (senderRecorded_refreshes (s := headOffered i rest s) hr).1
  refine ⟨_, hroll.outcome, hroll.cell,
    hrecords.trans (rollRecorded_known (s := headOffered i rest s) hr), fun h => ?_, fun h => ?_, htimer⟩
  · rw [horder, hsilent, if_pos h]
  · rw [horder, hsilent, h]
    rfl

/-- A sender learned at the lowest free position (R52, first row). -/
theorem ForeignRoll.learns {pos : Nat} (hroll : ForeignRoll s i v rest) (hu : s.peer i.sender = none)
    (hfree : ∀ r ∈ s.peers.records, r.pos ≠ pos) (hpos : pos < 16)
    (hbelow : ∀ k < pos, ∃ r ∈ s.peers.records, r.pos = k) :
    ∃ t, exec .roll s = .next t ∧ cellFrame s t ∧ t.counters.unlearned = s.counters.unlearned
      ∧ t.peers.silentOrder = s.peers.silentOrder
      ∧ ∀ x, x ∈ t.peers.records ↔ x = ⟨pos, i.sender, i.role, i.stamp, false, some v⟩ ∨ x ∈ s.peers.records := by
  obtain ⟨hrecords, horder, -, hunlearned⟩ := foreignRoll_records (i := i) (v := v) (rest := rest) (s := s)
  have hlearned := senderRecorded_learns (s := headOffered i rest s) hu hfree hpos hbelow
  refine ⟨_, hroll.outcome, hroll.cell, hunlearned.trans ?_, horder.trans ?_, fun x => ?_⟩
  · exact (congrArg (fun t : State => t.counters.unlearned) hlearned :)
  · exact (congrArg (fun t : State => t.peers.silentOrder) hlearned :)
  · rw [hrecords]
    refine rollRecorded_new (s := headOffered i rest s) (others := (· ∈ s.peers.records)) (peer_eq_none_iff.1 hu)
      (fun y => ?_) x
    rw [hlearned]
    exact mem_addPeer

/-- A sender learned in the place of another station (R52, second and third row). -/
theorem ForeignRoll.replaces {r : PeerRecord} (hroll : ForeignRoll s i v rest) (hu : s.peer i.sender = none)
    (hfull : ∀ k < 16, ∃ x ∈ s.peers.records, x.pos = k) (hr : s.replacedBy i r) :
    ∃ t, exec .roll s = .next t ∧ cellFrame s t ∧ t.counters.unlearned = s.counters.unlearned
      ∧ t.peers.silentOrder = s.peers.silentOrder.filter (fun x => x != r.station)
      ∧ ∀ x, x ∈ t.peers.records ↔ x = ⟨r.pos, i.sender, i.role, i.stamp, false, some v⟩
          ∨ (x ∈ s.peers.records ∧ x.station ≠ r.station) := by
  obtain ⟨hrecords, horder, -, hunlearned⟩ := foreignRoll_records (i := i) (v := v) (rest := rest) (s := s)
  obtain ⟨hpeers, hcounters⟩ := senderRecorded_replaces (s := headOffered i rest s) hu hfull hr
  refine ⟨_, hroll.outcome, hroll.cell, hunlearned.trans ?_, horder.trans ?_, fun x => ?_⟩
  · exact congrArg Counters.unlearned hcounters
  · exact congrArg PeerTable.silentOrder hpeers
  · rw [hrecords]
    refine rollRecorded_new (s := headOffered i rest s)
      (others := fun y => y ∈ s.peers.records ∧ y.station ≠ r.station)
      (fun y hy => peer_eq_none_iff.1 hu y hy.1) (fun y => ?_) x
    rw [hpeers]
    exact mem_addPeer.trans (or_congr_right mem_deletePeer)

/-- A sender that is not learned is counted (R52, last row). -/
theorem ForeignRoll.counts (hroll : ForeignRoll s i v rest) (hu : s.peer i.sender = none)
    (hfull : ∀ k < 16, ∃ x ∈ s.peers.records, x.pos = k) (hempty : s.peers.silentOrder = [])
    (hnone : i.role = .grinder ∨ ∀ r ∈ s.peers.records, r.role = .store ∨ r.silent = true) :
    ∃ t, exec .roll s = .next t ∧ cellFrame s t ∧ t.counters.unlearned = satInc s.counters.unlearned
      ∧ t.peers.records = s.peers.records ∧ t.peers.silentOrder = s.peers.silentOrder := by
  obtain ⟨hrecords, horder, -, hunlearned⟩ := foreignRoll_records (i := i) (v := v) (rest := rest) (s := s)
  have hcounted := senderRecorded_counts (s := headOffered i rest s) hu hfull hempty hnone
  have hheard : rollHeard i v rest s
      = (headOffered i rest s).count fun c => { c with unlearned := satInc c.unlearned } := by
    unfold rollHeard rollRecorded
    rw [hcounted]
    exact changePeer_unknown _ hu
  refine ⟨_, hroll.outcome, hroll.cell, hunlearned.trans ?_, hrecords.trans ?_, horder.trans ?_⟩ <;> rw [hheard] <;> rfl

/-! ### The comparison and the checks of the family and the role (R56 to R59) -/

/-- The checks of a store's ROLL at a grinder with the same family table (R56, R57). -/
theorem rollChecked_heard_store (hs : s.isStore = false) (hf : v.familyDigest = s.familyDigest) :
    rollChecked i v (rollHeard i v rest s) = compareRoll i v (rollHeard i v rest s) := by
  have halike := rollHeard_alike i v rest s
  exact rollChecked_store_at_grinder (halike.isStore.trans hs) (hf.trans halike.familyDigest.symm)

theorem rollHeard_compares (hsy : s.synced = true) (his : i.synced = true) (hid : i.doubtful = false)
    (hr : s.isStore = false ∨ i.role ≠ .store) : (rollHeard i v rest s).compares i := by
  have halike := rollHeard_alike i v rest s
  exact ⟨halike.synced.trans hsy, his, hid, hr.imp_left halike.isStore.trans⟩

/-- A grinder's ROLL that disagrees (R57). -/
theorem rollChecked_heard_differs (hk : s.willRecord i.sender) (hr : i.role = .grinder) (hsy : s.synced = true)
    (his : i.synced = true) (hid : i.doubtful = false)
    (hn : ¬(v.generation = s.pool.generation ∧ v.digest = s.pool.digest)) :
    rollChecked i v (rollHeard i v rest s) = if ∀ d, s.peers.disagreement = some d → d.station = i.sender
      then (familyCounted v (rollHeard i v rest s)).mapPeers fun p => { p with disagreement := some ⟨i.sender, i.stamp⟩ }
      else divergent (familyCounted v (rollHeard i v rest s)) := by
  obtain ⟨hlive, hdisagreement, -⟩ := rollHeard_willRecord (v := v) (rest := rest) hk
  have hcompares : (familyCounted v (rollHeard i v rest s)).compares i :=
    rollHeard_compares (v := v) (rest := rest) hsy his hid (.inr (by rw [hr]; nofun))
  have hpool : (familyCounted v (rollHeard i v rest s)).pool = s.pool := (rollHeard_alike i v rest s).pool
  rw [rollChecked_grinder hr, compareRoll_differs hcompares (by rw [hpool]; exact hn),
    disagreement_grinder (s := familyCounted v (rollHeard i v rest s)) hr hlive, ← hdisagreement]
  rfl

/-- A store's ROLL at a grinder that agrees, or does not (R56, R57). -/
theorem ForeignRoll.compared (hroll : ForeignRoll s i v rest) (hk : s.willRecord i.sender) (hsy : s.synced = true)
    (his : i.synced = true) (hid : i.doubtful = false) (hr : i.role = .store) (hs : s.isStore = false)
    (hf : v.familyDigest = s.familyDigest) (hd : s.fe.deaf = false) :
    (v.generation = s.pool.generation → v.digest = s.pool.digest →
      ∃ t, exec .roll s = .next t ∧ t.pool = s.pool ∧ t.fe.doubtful = false
        ∧ t.peers.disagreement = s.peers.disagreement.filter fun d => d.station != i.sender)
    ∧ (¬(v.generation = s.pool.generation ∧ v.digest = s.pool.digest) →
      ∃ t, exec .roll s = .next t ∧ cellFrame s t ∧ divergentResynced s t) := by
  obtain ⟨q, hexec, hcell⟩ := hroll.outcome_hearing hd
  have halike := rollHeard_alike i v rest s
  have hcompares : (rollHeard i v rest s).compares i := rollHeard_compares hsy his hid (.inl hs)
  rw [rollChecked_heard_store hs hf] at hexec hcell
  refine ⟨fun hg hdg => ⟨_, hexec, ?_⟩, fun hn => ⟨_, hexec, hcell, ?_⟩⟩
  · obtain ⟨-, hdisagreement, -⟩ := rollHeard_willRecord (v := v) (rest := rest) hk
    obtain ⟨hpeers, -, hpool, -, hdoubtful⟩ := clearDoubtful_kept ((rollHeard i v rest s).mapPeers fun p =>
      { p with disagreement := p.disagreement.filter fun d => d.station != i.sender })
    rw [compareRoll_matches hcompares (by rw [halike.pool]; exact hg) (by rw [halike.pool]; exact hdg), ← hdisagreement]
    exact ⟨hpool.trans halike.pool, hdoubtful, congrArg PeerTable.disagreement hpeers⟩
  · rw [compareRoll_differs hcompares (by rw [halike.pool]; exact hn), disagreement_store (halike.isStore.trans hs) hr]
    exact (rollHeard_divergent (.refl _) rfl).withQueue q

/-- A grinder's ROLL that disagrees (R57). -/
theorem ForeignRoll.disagrees (hroll : ForeignRoll s i v rest) (hk : s.willRecord i.sender) (hd : s.fe.deaf = false)
    (hr : i.role = .grinder) (hsy : s.synced = true) (his : i.synced = true) (hid : i.doubtful = false)
    (hn : ¬(v.generation = s.pool.generation ∧ v.digest = s.pool.digest)) :
    (s.peers.disagreement = none ∨ (∃ d, s.peers.disagreement = some d ∧ d.station = i.sender) →
      ∃ t, exec .roll s = .next t ∧ cellFrame s t ∧ t.pool = s.pool
        ∧ t.peers.disagreement = some ⟨i.sender, i.stamp⟩)
    ∧ (∀ d, s.peers.disagreement = some d → d.station ≠ i.sender →
      ∃ t, exec .roll s = .next t ∧ cellFrame s t ∧ t.peers.familyMismatch = s.peers.familyMismatch
        ∧ t.peers.roleClash = s.peers.roleClash ∧ divergentResynced s t) := by
  obtain ⟨q, hexec, hcell⟩ := hroll.outcome_hearing hd
  have halike := rollHeard_alike i v rest s
  rw [rollChecked_heard_differs hk hr hsy his hid hn] at hexec hcell
  refine ⟨fun hfirst => ⟨_, hexec, hcell, ?_⟩, fun d hsome hother => ⟨_, hexec, hcell, ?_⟩⟩
  · have hsame : ∀ d, s.peers.disagreement = some d → d.station = i.sender := by
      rintro d hsome
      rcases hfirst with hnone | ⟨d', hsome', hst⟩
      · rw [hnone] at hsome; exact absurd hsome nofun
      · obtain rfl := Option.some.inj (hsome.symm.trans hsome')
        exact hst
    rw [if_pos hsame]
    exact ⟨halike.pool, rfl⟩
  · rw [if_neg fun hsame => hother (hsame d hsome)]
    have hpeers := (divergent_compared (familyCounted v (rollHeard i v rest s))).peers
    refine ⟨?_, ?_, (rollHeard_divergent ((KeptByRecord.refl _).count _) rfl).withQueue q⟩
    · exact (congrArg PeerTable.familyMismatch hpeers).trans halike.familyMismatch
    · exact (congrArg PeerTable.roleClash hpeers).trans halike.roleClash

/-- A ROLL with another family digest (R58). -/
theorem ForeignRoll.otherFamily (hroll : ForeignRoll s i v rest) (hk : s.willRecord i.sender) (hd : s.fe.deaf = false)
    (hf : v.familyDigest ≠ s.familyDigest) :
    (i.role = .grinder → ∃ t, exec .roll s = .next t ∧ cellFrame s t
      ∧ t.counters.familyDiff = satInc s.counters.familyDiff ∧ t.peers.familyMismatch = s.peers.familyMismatch)
    ∧ (i.role = .store → s.isStore = false → s.peers.familyMismatch = false →
      ∃ t, exec .roll s = .next t ∧ cellFrame s t ∧ t.peers.familyMismatch = true ∧ t.pool.sync = .unsynced
        ∧ resynced false s t) := by
  obtain ⟨q, hexec, hcell⟩ := hroll.outcome_hearing hd
  have halike := rollHeard_alike i v rest s
  have hf' : v.familyDigest ≠ (rollHeard i v rest s).familyDigest := by rw [halike.familyDigest]; exact hf
  refine ⟨fun hr => ⟨_, hexec, hcell, ?_⟩, fun hr hs hm => ⟨_, hexec, hcell, ?_⟩⟩
  · obtain ⟨-, -, hcounters⟩ := rollHeard_willRecord (v := v) (rest := rest) hk
    obtain ⟨hpeers, hcounters', -⟩ := compareRoll_compared i v (familyCounted v (rollHeard i v rest s))
    rw [rollChecked_grinder hr]
    refine ⟨(congrArg Counters.familyDiff hcounters').trans ((if_neg hf').trans ?_),
      (congrArg PeerTable.familyMismatch hpeers).trans halike.familyMismatch⟩
    rw [hcounters]
  · rw [rollChecked_mismatch hr (halike.isStore.trans hs) (halike.familyMismatch.trans hm) hf']
    have hrest := poolResync_rest ((rollHeard i v rest s).mapPeers fun p => { p with familyMismatch := true })
    refine ⟨?_, ?_, (rollHeard_resynced ((KeptByRecord.refl _).mapPeers _) (poolResync_resynced _)).withQueue q⟩
    · exact congrArg (fun t : State => t.peers.familyMismatch) hrest
    · exact congrArg (fun t : State => t.pool.sync) hrest

/-- A store's ROLL at a store (R59). -/
theorem ForeignRoll.betweenStores (hroll : ForeignRoll s i v rest) (hd : s.fe.deaf = false) (hr : i.role = .store)
    (hs : s.isStore = true) (hc : s.peers.roleClash = false) :
    (i.sender.toNat < s.station.toNat → ∃ t, exec .roll s = .next t ∧ cellFrame s t ∧ t.peers.roleClash = true
      ∧ t.pool.sync = .unsynced ∧ resynced false s t)
    ∧ (s.station.toNat ≤ i.sender.toNat → ∃ t, exec .roll s = .next t ∧ cellFrame s t ∧ t.peers.roleClash = false
      ∧ t.pool = s.pool) := by
  obtain ⟨q, hexec, hcell⟩ := hroll.outcome_hearing hd
  have halike := rollHeard_alike i v rest s
  rw [rollChecked_store_at_store hr (halike.isStore.trans hs) (halike.roleClash.trans hc), halike.station] at hexec hcell
  refine ⟨fun hlow => ⟨_, hexec, hcell, ?_⟩, fun hhigh => ⟨_, hexec, hcell, ?_⟩⟩
  · rw [if_pos hlow]
    have hrest := poolResync_rest ((rollHeard i v rest s).mapPeers fun p => { p with roleClash := true })
    refine ⟨?_, ?_, (rollHeard_resynced ((KeptByRecord.refl _).mapPeers _) (poolResync_resynced _)).withQueue q⟩
    · exact congrArg (fun t : State => t.peers.roleClash) hrest
    · exact congrArg (fun t : State => t.pool.sync) hrest
  · rw [if_neg (Nat.not_lt.2 hhigh)]
    exact ⟨halike.roleClash.trans hc, halike.pool⟩

end

/-- Settles O21: the sender's record by the rows of R52 and R53, and behind it the checks of R56 to R59. -/
theorem rollIsTakenAndCompared : Obligations.RollIsTakenAndCompared := by
  refine ⟨fun i v r rest s hl hq hkind hp hv => ⟨fun ho hr => ?_, fun ho hd => ?_, fun ho hd hrest hpool himage => ?_,
      fun pos ho hu hfree hpos hbelow => ?_, fun ho hu hfull => ⟨fun r hr => ?_, fun hempty hnone => ?_⟩⟩,
    fun i v s hl hq hkind hp hv ho hk hsy his hid hr hs hf hd => ?_,
    fun i v s hl hq hkind hp hv ho hk hd => ⟨fun hr hsy his hid hn => ?_, fun hf => ?_, fun hr hs hc => ?_⟩⟩
  -- The record of the sender, and an own ROLL.
  · exact ForeignRoll.refreshes ⟨hl, hq, hkind, hp, hv, ho⟩ hr
  · have hexec := exec_roll hl hq hkind hp
    rw [peerTake_own ho, depart_hearing (s := headOffered i rest s) hd] at hexec
    exact ⟨_, hexec, rfl, rfl, rfl⟩
  · subst hrest
    have hexec := exec_roll hl hq hkind hp
    have hcell := peerTake_cell hq
    rw [peerTake_own ho] at hexec hcell
    exact ⟨_, hexec, hcell, (depart_kept _).1, ownItem_deafEnds hd hpool himage⟩
  · exact ForeignRoll.learns ⟨hl, hq, hkind, hp, hv, ho⟩ hu hfree hpos hbelow
  · exact ForeignRoll.replaces ⟨hl, hq, hkind, hp, hv, ho⟩ hu hfull hr
  · exact ForeignRoll.counts ⟨hl, hq, hkind, hp, hv, ho⟩ hu hfull hempty hnone
  -- The checks.
  · exact ForeignRoll.compared ⟨hl, hq, hkind, hp, hv, ho⟩ hk hsy his hid hr hs hf hd
  · exact ForeignRoll.disagrees ⟨hl, hq, hkind, hp, hv, ho⟩ hk hd hr hsy his hid hn
  · exact ForeignRoll.otherFamily ⟨hl, hq, hkind, hp, hv, ho⟩ hk hd hf
  · exact ForeignRoll.betweenStores ⟨hl, hq, hkind, hp, hv, ho⟩ hd hr hs hc

end Sys2Proof.Machine

namespace Sys2Proof.Machine
open State Sys2Proof.Config

/-! ## The laws of the pool table (R62, R63, R64) -/

section
variable {t : Table} {serial : Serial} {a b e : Entry} {f : Entry → Entry}

theorem findSerial_eq_none_iff : findSerial t serial = none ↔ ∀ e ∈ t, e.serial ≠ serial := by simp [findSerial]

theorem findSerial_mem (h : findSerial t serial = some e) : e ∈ t ∧ e.serial = serial :=
  ⟨List.mem_of_find?_eq_some h, by simpa using List.find?_some h⟩

theorem Entry.apart.symm (h : a.apart b) : b.apart a := by
  obtain ⟨hserial, hslot, hmounted, hway⟩ := h
  exact ⟨hserial.symm, fun hs he => hslot (he ▸ hs) he.symm, fun hb ha st k hh => hmounted ha hb st k hh.symm,
    fun hb ha st k hh => hway ha hb st k hh.symm⟩

theorem tableLaws.apart (h : tableLaws t) (ha : a ∈ t) (hb : b ∈ t) (hne : a.serial ≠ b.serial) : a.apart b := by
  have : Std.Symm Entry.apart := ⟨fun _ _ => Entry.apart.symm⟩
  exact h.2.1.forall ha hb fun hab => hne (congrArg Entry.serial hab)

theorem tableLaws.eq_of_serial (h : tableLaws t) (ha : a ∈ t) (hb : b ∈ t) (hs : a.serial = b.serial) : a = b := by
  have : Std.Symm Entry.apart := ⟨fun _ _ => Entry.apart.symm⟩
  by_contra hne
  exact (h.2.1.forall ha hb hne).1 hs

theorem findSerial_eq_some (h : tableLaws t) (he : e ∈ t) (hs : e.serial = serial) : findSerial t serial = some e := by
  cases hf : findSerial t serial with
  | none => exact absurd hs (findSerial_eq_none_iff.1 hf e he)
  | some x =>
    obtain ⟨hx, hxs⟩ := findSerial_mem hf
    rw [h.eq_of_serial hx he (hxs.trans hs.symm)]

theorem slotNamed_iff {n : BitVec 6} : slotNamed t n = true ↔ ∃ e ∈ t, e.slot = some n := by simp [slotNamed]

theorem slotNamed_eq_false_iff {n : BitVec 6} : slotNamed t n = false ↔ ∀ e ∈ t, e.slot ≠ some n := by
  simp [slotNamed]

theorem onTheWay_iff : e.onTheWay = true ↔ e.state ∈ [PoolState.claimed, .transit, .delivered] := by
  simp [Entry.onTheWay, or_assoc]

theorem heldAt_iff {st : Station} {h : Head} : e.heldAt st h = true ↔ ∃ flag, e.holder = some ⟨st, h, flag⟩ := by
  cases hh : e.holder with
  | none => simp [Entry.heldAt, hh]
  | some x =>
    obtain ⟨xs, xh, xf⟩ := x
    simp [Entry.heldAt, hh]

/-! ### What a change may claim -/

/-- An entry that claims nothing of R62 and R64 that the other does not claim. -/
structure Entry.Within (e' e : Entry) : Prop where
  serial : e'.serial = e.serial
  slot : e'.slot = none ∨ e'.slot = e.slot
  mounted : e'.state = .mounted → e.state = .mounted
  onTheWay : e'.onTheWay = true → e.onTheWay = true
  held : ∀ st h, e'.heldAt st h = true → e.heldAt st h = true

theorem Entry.Within.refl (e : Entry) : e.Within e := ⟨rfl, .inr rfl, id, id, fun _ _ => id⟩

theorem Entry.apart.within {a' b' : Entry} (h : a.apart b) (ha : a'.Within a) (hb : b'.Within b) : a'.apart b' := by
  obtain ⟨hserial, hslot, hmounted, hway⟩ := h
  refine ⟨by rw [ha.serial, hb.serial]; exact hserial, fun hs he => ?_, fun hma hmb st k hh =>
    hmounted (ha.mounted hma) (hb.mounted hmb) st k ⟨ha.held st k hh.1, hb.held st k hh.2⟩, fun hwa hwb st k hh =>
    hway (ha.onTheWay hwa) (hb.onTheWay hwb) st k ⟨ha.held st k hh.1, hb.held st k hh.2⟩⟩
  rcases ha.slot with hsa | hsa
  · rw [hsa] at hs; exact Bool.false_ne_true hs
  · rcases hb.slot with hsb | hsb
    · rw [he, hsb] at hs; exact Bool.false_ne_true hs
    · rw [hsa] at hs he; rw [hsb] at he; exact hslot hs he

/-! ### What keeps the laws -/

/-- Every entry changed in its position, so that what was apart stays apart. -/
theorem tableLaws.map (h : tableLaws t) (hpos : ∀ e ∈ t, (f e).pos = e.pos) (hsound : ∀ e ∈ t, (f e).sound)
    (hapart : ∀ a ∈ t, ∀ b ∈ t, a.apart b → (f a).apart (f b)) : tableLaws (t.map f) := by
  obtain ⟨hp, ha, -⟩ := h
  refine ⟨List.pairwise_map.2 (hp.imp_of_mem fun hx hy hlt => ?_), List.pairwise_map.2 (ha.imp_of_mem fun hx hy =>
    hapart _ hx _ hy), List.forall_mem_map.2 hsound⟩
  rw [hpos _ hx, hpos _ hy]
  exact hlt

theorem tableLaws.map_within (h : tableLaws t) (hpos : ∀ e ∈ t, (f e).pos = e.pos) (hsound : ∀ e ∈ t, (f e).sound)
    (hwithin : ∀ e ∈ t, (f e).Within e) : tableLaws (t.map f) :=
  h.map hpos hsound fun a ha b hb hab => hab.within (hwithin a ha) (hwithin b hb)

/-- The entry of one serial changed. -/
theorem tableLaws.changeEntry (h : tableLaws t) (he : e ∈ t) (hs : e.serial = serial) (hpos : (f e).pos = e.pos)
    (hsound : (f e).sound) (hapart : ∀ b ∈ t, b.serial ≠ serial → (f e).apart b) :
    tableLaws (changeEntry t serial f) := by
  have honly : ∀ x ∈ t, x.serial = serial → x = e := fun x hx hxs => h.eq_of_serial hx he (hxs.trans hs.symm)
  refine h.map (fun x hx => ?_) (fun x hx => ?_) fun a ha b hb hab => ?_
  · split
    next hxs => rw [honly x hx hxs, hpos]
    next => rfl
  · split
    next hxs => rw [honly x hx hxs]; exact hsound
    next => exact h.2.2 x hx
  · by_cases has : a.serial = serial
    · rw [if_pos has, if_neg fun hbs => hab.1 (has.trans hbs.symm), honly a ha has]
      exact hapart b hb fun hbs => hab.1 (has.trans hbs.symm)
    · rw [if_neg has]
      split
      next hbs => rw [honly b hb hbs]; exact (hapart a ha has).symm
      next => exact hab

theorem tableLaws.changeEntry_within (h : tableLaws t) (he : e ∈ t) (hs : e.serial = serial) (hpos : (f e).pos = e.pos)
    (hsound : (f e).sound) (hwithin : (f e).Within e) : tableLaws (Machine.changeEntry t serial f) :=
  h.changeEntry he hs hpos hsound fun b hb hbs =>
    (h.apart he hb fun hh => hbs (hh.symm.trans hs)).within hwithin (.refl b)

theorem tableLaws.filter (h : tableLaws t) (p : Entry → Bool) : tableLaws (t.filter p) :=
  ⟨h.1.filter p, h.2.1.filter p, fun e he => h.2.2 e (List.mem_of_mem_filter he)⟩

/-- An entry added at a position that no entry holds. -/
theorem tableLaws.addEntry (h : tableLaws t) (hsound : e.sound) (hpos : ∀ x ∈ t, x.pos ≠ e.pos)
    (hapart : ∀ x ∈ t, e.apart x) : tableLaws (addEntry t e) := by
  have hperm := insertBy_perm Entry.pos e t
  have hle := insertBy_pairwise (key := Entry.pos) e (h.1.imp Nat.le_of_lt)
  have hne : (insertBy Entry.pos e t).Pairwise fun x y => x.pos ≠ y.pos :=
    hperm.symm.pairwise (List.pairwise_cons.2 ⟨fun x hx => (hpos x hx).symm, h.1.imp Nat.ne_of_lt⟩) Ne.symm
  refine ⟨hle.imp₂ (fun _ _ => Nat.lt_of_le_of_ne) hne,
    hperm.symm.pairwise (List.pairwise_cons.2 ⟨hapart, h.2.1⟩) Entry.apart.symm, fun x hx => ?_⟩
  rcases (mem_insertBy _ _ _ _).1 hx with rfl | hx
  exacts [hsound, h.2.2 x hx]

/-! ### The lowest free position -/

theorem freePosition_spec (hlen : t.length < 64) :
    freePosition t < 64 ∧ (∀ x ∈ t, x.pos ≠ freePosition t) ∧ ∀ k < freePosition t, ∃ x ∈ t, x.pos = k := by
  obtain ⟨k, hk, hfree⟩ : ∃ k < 64, k ∉ t.map Entry.pos := by
    by_contra hall
    push Not at hall
    have hsub : List.range 64 ⊆ t.map Entry.pos := fun k hk => hall k (List.mem_range.1 hk)
    have := (List.nodup_range.subperm hsub).length_le
    simp only [List.length_range, List.length_map] at this
    omega
  obtain ⟨p, hp⟩ := lowestFree_isSome hfree hk
  have hposition : freePosition t = p := by rw [freePosition, poolCapacity, hp]; rfl
  obtain ⟨hpfree, hprange, hbelow⟩ := List.find?_range_eq_some.1 hp
  rw [hposition]
  exact ⟨List.mem_range.1 hprange, by simpa using hpfree, by simpa using hbelow⟩

end

end Sys2Proof.Machine

namespace Sys2Proof.Machine
open State Sys2Proof.Config

/-! ## Sound entries under the changes of the kinds (R62) -/

section
variable {e e' : Entry}

theorem Entry.sound.noSlot (h : e.sound) (hpos : e'.pos = e.pos) (hserial : e'.serial = e.serial) (hslot : e'.slot = none)
    (hagrees : e'.agrees = true) : e'.sound :=
  ⟨by rw [hpos]; exact h.1, by rw [hserial]; exact h.2.1, fun n hn => (nomatch hslot.symm.trans hn), hagrees⟩

/-- A wheel that is promised, on its way, mounted or waiting to be fetched back has a holder (R62). -/
theorem Entry.sound.holder (h : e.sound) (hfree : e.state ≠ .free) (hquarantined : e.state ≠ .quarantined) :
    ∃ x, e.holder = some x := by
  have hagrees := h.2.2.2
  cases hh : e.holder with
  | some x => exact ⟨x, rfl⟩
  | none => cases hs : e.state <;> simp_all [Entry.agrees]

/-- At-change-position is set in DELIVERED and RETURNING and clear in the other states with a holder (R62). -/
theorem Entry.sound.atChange (h : e.sound) {x : Holder} (hx : e.holder = some x) (hquarantined : e.state ≠ .quarantined) :
    x.atChange = true ↔ e.state = .delivered ∨ e.state = .returning := by
  have hagrees := h.2.2.2
  cases hs : e.state <;> simp_all [Entry.agrees]

/-- Only a FREE or CLAIMED entry names a slot (R62). -/
theorem Entry.sound.slot_isSome (h : e.sound) : e.slot.isSome = true ↔ e.state = .free ∨ e.state = .claimed := by
  have hagrees := h.2.2.2
  cases hs : e.state <;> simp_all [Entry.agrees]

/-- Only a RETURNING entry is spent (R62). -/
theorem Entry.sound.unspent (h : e.sound) (hs : e.state ≠ .returning) : e.spent = false := by
  have hagrees := h.2.2.2
  cases hst : e.state <;> simp_all [Entry.agrees]

theorem Entry.sound.slot_none (h : e.sound) (hfree : e.state ≠ .free) (hclaimed : e.state ≠ .claimed) :
    e.slot = none := by
  cases hs : e.slot with
  | none => rfl
  | some n => exact absurd (h.slot_isSome.1 (by rw [hs]; rfl)) (by simp [hfree, hclaimed])

theorem Entry.sound.toClaimed (h : e.sound) (hs : e.state = .free) (st : Station) (k : Head) : (e.toClaimed st k).sound := by
  have hslot := h.slot_isSome.2 (.inl hs)
  exact ⟨h.1, h.2.1, h.2.2.1, by simp [Entry.agrees, Entry.toClaimed, hslot]⟩

theorem Entry.sound.toFree (h : e.sound) {n : BitVec 6} (hn : n.toNat < 48) : (e.toFree (some n)).sound :=
  ⟨h.1, h.2.1, fun m hm => by cases hm; exact hn, rfl⟩

theorem Entry.sound.toTransit (h : e.sound) (hs : e.state = .claimed) : e.toTransit.sound := by
  obtain ⟨x, hx⟩ := h.holder (by simp [hs]) (by simp [hs])
  exact h.noSlot rfl rfl rfl (by simp [Entry.agrees, Entry.toTransit, Entry.setAtChange, hx])

theorem Entry.sound.toDelivered (h : e.sound) (hs : e.state = .transit) : e.toDelivered.sound := by
  obtain ⟨x, hx⟩ := h.holder (by simp [hs]) (by simp [hs])
  exact h.noSlot rfl rfl rfl (by simp [Entry.agrees, Entry.toDelivered, Entry.setAtChange, hx])

theorem Entry.sound.toReturning (h : e.sound) (hs : e.state = .mounted ∨ e.state = .delivered) (spent : Bool)
    (diameter : Diameter) : { e.toReturning spent with diameter := diameter }.sound := by
  obtain ⟨x, hx⟩ := h.holder (by rcases hs with hs | hs <;> simp [hs]) (by rcases hs with hs | hs <;> simp [hs])
  exact h.noSlot rfl rfl rfl (by simp [Entry.agrees, Entry.toReturning, Entry.setAtChange, hx])

theorem Entry.sound.toQuarantined (h : e.sound) (keep : Bool) : (e.toQuarantined keep).sound :=
  h.noSlot rfl rfl rfl rfl

theorem Entry.sound.setAtChange (h : e.sound) (hs : e.state = .quarantined) (flag : Bool) : (e.setAtChange flag).sound := by
  have hagrees := h.2.2.2
  exact h.noSlot rfl rfl (h.slot_none (by simp [hs]) (by simp [hs]))
    (by simpa [Entry.agrees, Entry.setAtChange, hs] using hagrees)

theorem Entry.sound.toMounted (h : e.sound) (st : Station) (k : Head) (family : BitVec 4) (diameter : Diameter) :
    { e.toMounted st k with family := family, diameter := diameter }.sound :=
  h.noSlot rfl rfl rfl rfl

/-! ### What they claim (R63) -/

theorem Entry.heldAt_setAtChange (flag : Bool) (st : Station) (k : Head) :
    (e.setAtChange flag).heldAt st k = e.heldAt st k := by
  cases hh : e.holder <;> simp [Entry.setAtChange, Entry.heldAt, hh]

theorem Entry.within_toTransit (hs : e.state = .claimed) : e.toTransit.Within e :=
  ⟨rfl, .inl rfl, nofun, fun _ => by simp [Entry.onTheWay, hs], fun st k hh => heldAt_setAtChange false st k ▸ hh⟩

theorem Entry.within_toDelivered (hs : e.state = .transit) : e.toDelivered.Within e :=
  ⟨rfl, .inl rfl, nofun, fun _ => by simp [Entry.onTheWay, hs], fun st k hh => heldAt_setAtChange true st k ▸ hh⟩

theorem Entry.within_toReturning (spent : Bool) (diameter : Diameter) :
    Entry.Within { e.toReturning spent with diameter := diameter } e :=
  ⟨rfl, .inl rfl, nofun, nofun, fun st k hh => heldAt_setAtChange true st k ▸ hh⟩

theorem Entry.within_setAtChange (flag : Bool) : (e.setAtChange flag).Within e :=
  ⟨rfl, .inr rfl, id, id, fun st k hh => heldAt_setAtChange flag st k ▸ hh⟩

theorem Entry.within_toQuarantined (keep : Bool) : (e.toQuarantined keep).Within e := by
  refine ⟨rfl, .inl rfl, nofun, nofun, fun st k hh => ?_⟩
  cases keep
  exacts [absurd hh Bool.false_ne_true, hh]

theorem Entry.within_toFree : (e.toFree e.slot).Within e :=
  ⟨rfl, .inr rfl, nofun, nofun, fun _ _ hh => absurd hh Bool.false_ne_true⟩

/-- A wheel MOUNTED at a head is apart from every other wheel, but for one MOUNTED there too. -/
theorem Entry.apart_of_mounted {b : Entry} {st : Station} {k : Head} (hstate : e.state = .mounted) (hslot : e.slot = none)
    (hholder : e.holder = some ⟨st, k, false⟩) (hserial : e.serial ≠ b.serial)
    (hb : ¬(b.state = .mounted ∧ b.heldAt st k = true)) : e.apart b := by
  refine ⟨hserial, fun hs => ?_, fun _ hm st' k' hh => ?_, fun hw => ?_⟩
  · rw [hslot] at hs
    cases hs
  · obtain ⟨flag, hflag⟩ := heldAt_iff.1 hh.1
    rw [hholder] at hflag
    cases hflag
    exact hb ⟨hm, hh.2⟩
  · simp [Entry.onTheWay, hstate] at hw

end

/-! ## Each kind keeps the laws (R72 to R85) -/

section
variable {fams : List Family} {t t' : Table} {st : Station} {role : Role} {h : Head} {serial : Serial} {sel : Option Entry}

theorem applyEnter_laws {family slot : Byte} {diameter : Diameter} (ht : tableLaws t)
    (hbad : badField (.enter serial family diameter slot) = false)
    (happlied : applyEnter t serial family diameter slot = .applied t' sel) : tableLaws t' := by
  simp only [badField, Bool.or_eq_false_iff, decide_eq_false_iff_not, beq_eq_false_iff_ne] at hbad
  obtain ⟨⟨⟨hserial, -⟩, -⟩, hslot⟩ := hbad
  unfold applyEnter at happlied
  split at happlied
  · cases happlied
  next hnew =>
    split at happlied
    · cases happlied
    next hunnamed =>
      split at happlied
      · cases happlied
      next hroom =>
        cases happlied
        simp only [Bool.not_eq_true, Option.isSome_eq_false_iff, Option.isNone_iff_eq_none] at hnew
        rw [Bool.not_eq_true] at hunnamed
        obtain ⟨hpos, hfree, -⟩ := freePosition_spec (t := t) (Nat.lt_of_not_le hroom)
        refine ht.addEntry ⟨hpos, hserial, fun n hn => ?_, rfl⟩ hfree fun x hx => ⟨?_, fun _ hs => ?_, nofun, nofun⟩
        · cases hn
          rw [BitVec.toNat_setWidth, slotCount]
          omega
        · exact fun hs => findSerial_eq_none_iff.1 hnew x hx hs.symm
        · exact slotNamed_eq_false_iff.1 hunnamed x hx hs.symm

theorem selectEntry_mem {l : List Entry} {e : Entry} (hl : selectEntry l = some e) : e ∈ l := by
  induction l generalizing e with
  | nil => cases hl
  | cons x xs ih =>
    unfold selectEntry at hl
    split at hl
    · cases hl; exact List.mem_cons_self
    next b hb =>
      split at hl
      · cases hl; exact List.mem_cons_of_mem _ (ih hb)
      · cases hl; exact List.mem_cons_self

theorem applyClaim_laws {family : BitVec 4} (ht : tableLaws t)
    (happlied : applyClaim fams t st h family = .applied t' sel) : tableLaws t' := by
  unfold applyClaim at happlied
  split at happlied
  · cases happlied
  next hbusy =>
    split at happlied
    · cases happlied
    next e he =>
      cases happlied
      obtain ⟨hmem, heligible⟩ := List.mem_filter.1 (selectEntry_mem he)
      have hstate : e.state = .free := by
        simp only [eligible, Bool.and_eq_true, beq_iff_eq] at heligible
        exact heligible.1.1
      refine ht.changeEntry hmem rfl rfl ((ht.2.2 e hmem).toClaimed hstate st h) fun b hb hbs => ?_
      have hapart := ht.apart hmem hb hbs.symm
      refine ⟨hapart.1, hapart.2.1, nofun, fun _ hway st' k hh => ?_⟩
      obtain ⟨flag, hflag⟩ := heldAt_iff.1 hh.1
      cases hflag
      exact hbusy (List.any_eq_true.2 ⟨b, hb, by rw [hway, hh.2]; rfl⟩)

theorem applyDispatch_laws (ht : tableLaws t) (happlied : applyDispatch t serial = .applied t' sel) : tableLaws t' := by
  unfold applyDispatch at happlied
  split at happlied
  · cases happlied
  next e he =>
    obtain ⟨hmem, hs⟩ := findSerial_mem he
    split at happlied
    · cases happlied
    next hstate =>
      rw [ne_eq, not_not] at hstate
      cases happlied
      exact ht.changeEntry_within hmem hs rfl ((ht.2.2 e hmem).toTransit hstate) (Entry.within_toTransit hstate)

theorem applyDeliver_laws (ht : tableLaws t) (happlied : applyDeliver t serial = .applied t' sel) : tableLaws t' := by
  unfold applyDeliver at happlied
  split at happlied
  · cases happlied
  next e he =>
    obtain ⟨hmem, hs⟩ := findSerial_mem he
    split at happlied
    · cases happlied
    next hstate =>
      rw [ne_eq, not_not] at hstate
      cases happlied
      exact ht.changeEntry_within hmem hs rfl ((ht.2.2 e hmem).toDelivered hstate) (Entry.within_toDelivered hstate)

/-- What a MOUNT makes of its old wheel (R79 step 1). -/
def Entry.oldMounted (st : Station) (h : Head) (diameter : Diameter) (spent : Bool) (e : Entry) : Entry :=
  if e.state = .mounted ∧ e.heldAt st h then { e.toReturning spent with diameter := diameter }
  else if e.state = .quarantined ∧ e.heldAt st h then e.setAtChange true
  else e

theorem mountOld_eq (t : Table) (st : Station) (h : Head) (old : Serial) (diameter : Diameter) (spent : Bool) :
    mountOld t st h old diameter spent
      = if old = 0 then t else changeEntry t old (Entry.oldMounted st h diameter spent) := rfl

theorem Entry.oldMounted_keeps {e : Entry} (he : e.sound) (diameter : Diameter) (spent : Bool) :
    (e.oldMounted st h diameter spent).pos = e.pos ∧ (e.oldMounted st h diameter spent).sound
      ∧ (e.oldMounted st h diameter spent).Within e := by
  unfold Entry.oldMounted
  split
  next hm => exact ⟨rfl, he.toReturning (.inl hm.1) _ _, within_toReturning _ _⟩
  · split
    next hq => exact ⟨rfl, he.setAtChange hq.1 _, within_setAtChange _⟩
    next => exact ⟨rfl, he, .refl e⟩

theorem mountOld_laws (ht : tableLaws t) (old : Serial) (diameter : Diameter) (spent : Bool) :
    tableLaws (mountOld t st h old diameter spent) := by
  rw [mountOld_eq]
  split
  · exact ht
  · refine ht.map_within (fun e he => ?_) (fun e he => ?_) fun e he => ?_
    all_goals
      obtain ⟨hpos, hsound, hwithin⟩ := Entry.oldMounted_keeps (st := st) (h := h) (ht.2.2 e he) diameter spent
      split
    exacts [hpos, rfl, hsound, ht.2.2 e he, hwithin, .refl e]

theorem mem_mountOld {old : Serial} {diameter : Diameter} {spent : Bool} {e : Entry} (he : e ∈ t) (hs : e.serial ≠ old) :
    e ∈ mountOld t st h old diameter spent := by
  rw [mountOld_eq]
  split
  · exact he
  · exact List.mem_map.2 ⟨e, he, if_neg hs⟩

theorem quarantineStale_laws (ht : tableLaws t) (except : Serial) : tableLaws (quarantineStale t st h except) := by
  refine ht.map_within (fun e he => ?_) (fun e he => ?_) fun e he => ?_
  all_goals split
  exacts [rfl, rfl, (ht.2.2 e he).toQuarantined _, ht.2.2 e he, Entry.within_toQuarantined _, .refl e]

theorem mem_quarantineStale {except : Serial} {e : Entry} (he : e ∈ t) (hs : e.serial = except) :
    e ∈ quarantineStale t st h except :=
  List.mem_map.2 ⟨e, he, if_neg fun hc => hc.1 hs⟩

/-- Behind the quarantine of the stale mounts no other wheel is MOUNTED at the head. -/
theorem quarantineStale_unmounted {except : Serial} {b : Entry} (hb : b ∈ quarantineStale t st h except)
    (hs : b.serial ≠ except) : ¬(b.state = .mounted ∧ b.heldAt st h = true) := by
  obtain ⟨x, -, rfl⟩ := List.mem_map.1 hb
  split at hs
  next hstale => rw [if_pos hstale]; exact fun hm => nomatch hm.1
  next hstale => rw [if_neg hstale]; exact fun hm => hstale ⟨hs, hm⟩

theorem applyMount_laws {new old : Serial} {diameter : Diameter} {spent : Bool} (ht : tableLaws t) (hne : old ≠ new)
    (happlied : applyMount t st h new old diameter spent = .applied t' sel) : tableLaws t' := by
  unfold applyMount at happlied
  split at happlied
  · cases happlied
  next e he =>
    obtain ⟨hmem, hs⟩ := findSerial_mem he
    split at happlied
    · cases happlied
    · split at happlied
      · cases happlied
      · cases happlied
        have hstale := quarantineStale_laws (st := st) (h := h) (mountOld_laws (st := st) (h := h) ht old diameter spent) new
        refine hstale.changeEntry (mem_quarantineStale (mem_mountOld hmem fun ho => hne (ho.symm.trans hs)) hs) hs rfl
          ((ht.2.2 e hmem).toMounted st h e.family e.diameter) fun b hb hbs => ?_
        exact Entry.apart_of_mounted rfl rfl rfl (fun hh => hbs (hh.symm.trans hs)) (quarantineStale_unmounted hb hbs)

theorem applyDeclare_laws {family : BitVec 4} {diameter : Diameter} (ht : tableLaws t) (hserial : serial ≠ 0)
    (happlied : applyDeclare t st h serial family diameter = .applied t' sel) : tableLaws t' := by
  have hstale := quarantineStale_laws (st := st) (h := h) ht serial
  unfold applyDeclare at happlied
  split at happlied
  next e he =>
    obtain ⟨hmem, hs⟩ := findSerial_mem he
    split at happlied
    · cases happlied
    · split at happlied
      · cases happlied
      · cases happlied
        refine hstale.changeEntry (mem_quarantineStale hmem hs) hs rfl ((ht.2.2 e hmem).toMounted st h family diameter)
          fun b hb hbs => ?_
        exact Entry.apart_of_mounted rfl rfl rfl (fun hh => hbs (hh.symm.trans hs)) (quarantineStale_unmounted hb hbs)
  next hnew =>
    split at happlied
    · cases happlied
    next hroom =>
      cases happlied
      obtain ⟨hpos, hfree, -⟩ := freePosition_spec (t := t) (Nat.lt_of_not_le hroom)
      have hfields : ∀ x ∈ quarantineStale t st h serial, ∃ y ∈ t, x.pos = y.pos ∧ x.serial = y.serial := fun x hx => by
        obtain ⟨y, hy, rfl⟩ := List.mem_map.1 hx
        exact ⟨y, hy, by split <;> rfl, by split <;> rfl⟩
      have hother : ∀ x ∈ quarantineStale t st h serial, x.serial ≠ serial := fun x hx hxs => by
        obtain ⟨y, hy, -, hys⟩ := hfields x hx
        exact findSerial_eq_none_iff.1 hnew y hy (hys.symm.trans hxs)
      refine hstale.addEntry ⟨hpos, hserial, nofun, rfl⟩ (fun x hx => ?_) fun x hx =>
        Entry.apart_of_mounted rfl rfl rfl (hother x hx).symm (quarantineStale_unmounted hx (hother x hx))
      obtain ⟨y, hy, hxy, -⟩ := hfields x hx
      rw [hxy]
      exact hfree y hy

theorem applyRelease_laws {reason : Byte} (ht : tableLaws t)
    (happlied : applyRelease t st role serial reason = .applied t' sel) : tableLaws t' := by
  unfold applyRelease at happlied
  split at happlied
  · cases happlied
  next e he =>
    obtain ⟨hmem, hs⟩ := findSerial_mem he
    have hsound := ht.2.2 e hmem
    split at happlied
    next hclaimed =>
      split at happlied
      · cases happlied
      · cases happlied
        have hslot := hsound.slot_isSome.2 (.inr hclaimed)
        refine ht.changeEntry_within hmem hs rfl ⟨hsound.1, hsound.2.1, hsound.2.2.1, ?_⟩ Entry.within_toFree
        simp [Entry.agrees, Entry.toFree, hslot]
    · split at happlied
      next hdelivered =>
        split at happlied
        · cases happlied
        · split at happlied
          · cases happlied
          · cases happlied
            exact ht.changeEntry_within hmem hs rfl (hsound.toReturning (.inr hdelivered) false e.diameter)
              (Entry.within_toReturning false e.diameter)
      · cases happlied

theorem applyQuarantine_laws {keep : Bool} (ht : tableLaws t)
    (happlied : applyQuarantine t st role serial keep = .applied t' sel) : tableLaws t' := by
  unfold applyQuarantine at happlied
  split at happlied
  · cases happlied
  next e he =>
    obtain ⟨hmem, hs⟩ := findSerial_mem he
    split at happlied
    · cases happlied
    · cases happlied
      exact ht.changeEntry_within hmem hs rfl ((ht.2.2 e hmem).toQuarantined keep) (Entry.within_toQuarantined keep)

theorem applyRack_laws {slot : Byte} (ht : tableLaws t) (hrange : slot.toNat ≤ 47)
    (happlied : applyRack t serial slot = .applied t' sel) : tableLaws t' := by
  unfold applyRack at happlied
  split at happlied
  · cases happlied
  next e he =>
    obtain ⟨hmem, hs⟩ := findSerial_mem he
    split at happlied
    · cases happlied
    · split at happlied
      · cases happlied
      next hunnamed =>
        cases happlied
        rw [Bool.not_eq_true] at hunnamed
        have hlt : (slot.setWidth 6).toNat < 48 := by rw [BitVec.toNat_setWidth]; omega
        refine ht.changeEntry hmem hs rfl ((ht.2.2 e hmem).toFree hlt) fun b hb hbs =>
          ⟨fun hh => hbs (hh.symm.trans hs), fun _ hsb => ?_, nofun, nofun⟩
        exact slotNamed_eq_false_iff.1 hunnamed b hb hsb.symm

theorem applyRemove_laws (ht : tableLaws t) (happlied : applyRemove t serial = .applied t' sel) : tableLaws t' := by
  unfold applyRemove at happlied
  split at happlied
  · cases happlied
  · split at happlied
    · cases happlied
    · cases happlied
      exact ht.filter _

/-- A frame is applied only behind its role check and its field check (R68). -/
theorem applyFrame_applied {f : PoolFrame} (happlied : applyFrame fams t st role f = .applied t' sel) :
    roleAllowed f.kind role = true ∧ badField f = false ∧ applyKind fams t st role f = .applied t' sel := by
  unfold applyFrame at happlied
  split at happlied
  · cases happlied
  next hrole =>
    split at happlied
    · cases happlied
    next hfield => exact ⟨by simpa using hrole, by simpa using hfield, happlied⟩

end

/-- Settles O33: the field check keeps the fields of an entry in range, and the checks of the kind keep it apart. -/
theorem everyFrameKeepsTableLaws : Obligations.EveryFrameKeepsTableLaws := by
  intro fams t st role f t' sel ht happlied
  obtain ⟨-, hbad, happlied⟩ := applyFrame_applied happlied
  cases f with
  | enter serial family diameter slot => exact applyEnter_laws ht hbad happlied
  | claim head family => exact applyClaim_laws ht happlied
  | dispatch serial => exact applyDispatch_laws ht happlied
  | deliver serial => exact applyDeliver_laws ht happlied
  | mount head new old diameter spent =>
    simp only [badField, Bool.or_eq_false_iff, beq_eq_false_iff_ne] at hbad
    exact applyMount_laws ht hbad.1.2 happlied
  | declare head serial family diameter =>
    simp only [badField, Bool.or_eq_false_iff, beq_eq_false_iff_ne] at hbad
    exact applyDeclare_laws ht hbad.1.2 happlied
  | release serial reason => exact applyRelease_laws ht happlied
  | quarantine serial reason keep => exact applyQuarantine_laws ht happlied
  | rack serial slot =>
    simp only [badField, Bool.or_eq_false_iff, decide_eq_false_iff_not] at hbad
    exact applyRack_laws ht (Nat.le_of_not_lt hbad.2) happlied
  | remove serial reason => exact applyRemove_laws ht happlied

end Sys2Proof.Machine

namespace Sys2Proof.Machine
open State Sys2Proof.Config

/-! ## The role check and the field check (R69, R70) -/

section
variable {fams : List Family} {t t' : Table} {st : Station} {role : Role} {h : Head} {serial : Serial}
  {reason : PoolRefusal}

theorem roleAllowed_eq_false_iff (k : Kind) (r : Role) : roleAllowed k r = false ↔
    (k ∈ [Kind.enter, .dispatch, .deliver, .rack, .remove] ∧ r ≠ .store)
      ∨ (k ∈ [Kind.claim, .mount, .declare] ∧ r ≠ .grinder) := by
  cases k <;> cases r <;> decide

/-- The reasons that a kind's own checks give: not those of the role check and the field check (5.3.1). -/
theorem applyKind_refused {f : PoolFrame} (hr : applyKind fams t st role f = .refused reason) :
    reason ≠ .role ∧ reason ≠ .badField := by
  cases f
  all_goals
    simp only [applyKind, applyEnter, applyClaim, applyDispatch, applyDeliver, applyMount, applyDeclare, applyRelease,
      applyQuarantine, applyRack, applyRemove] at hr
    repeat' split at hr
    all_goals cases hr <;> exact ⟨nofun, nofun⟩

theorem applyFrame_role_iff (f : PoolFrame) :
    applyFrame fams t st role f = .refused .role ↔ roleAllowed f.kind role = false := by
  unfold applyFrame
  cases roleAllowed f.kind role with
  | false => simp
  | true =>
    cases badField f with
    | true => simp
    | false => simpa using fun hr => (applyKind_refused hr).1 rfl

theorem applyFrame_badField_iff {f : PoolFrame} (hrole : roleAllowed f.kind role = true) :
    applyFrame fams t st role f = .refused .badField ↔ badField f = true := by
  unfold applyFrame
  rw [hrole]
  cases badField f with
  | true => simp
  | false => simpa using fun hr => (applyKind_refused hr).2 rfl

/-- Behind both checks the kind decides (R68). -/
theorem applyFrame_eq {f : PoolFrame} (hrole : roleAllowed f.kind role = true) (hbad : badField f = false) :
    applyFrame fams t st role f = applyKind fams t st role f := by
  simp [applyFrame, hrole, hbad]

theorem not_mem_reasons5 {r : Byte} : r ∉ ([1, 2, 3, 4, 5] : List Byte) ↔ r = 0 ∨ 5 < r.toNat := by
  simp [BitVec.toNat_eq]
  omega

theorem not_mem_reasons3 {r : Byte} : r ∉ ([1, 2, 3] : List Byte) ↔ r = 0 ∨ 3 < r.toNat := by
  simp [BitVec.toNat_eq]
  omega

theorem not_flag_iff {b : Byte} : ¬(b = 0 ∨ b = 1) ↔ 1 < b.toNat := by
  simp [BitVec.toNat_eq]
  omega

end

/-- Settles O24: the first two checks are `roleAllowed` and `badField`, and no kind gives their reasons. -/
theorem roleAndFieldChecks : Obligations.RoleAndFieldChecks := by
  refine ⟨fun fams t st role f => (applyFrame_role_iff f).trans (roleAllowed_eq_false_iff _ _),
    fun fams t st role f hrole => (applyFrame_badField_iff hrole).trans ?_⟩
  cases f <;> simp only [badField, not_mem_reasons5, not_mem_reasons3, not_flag_iff, Bool.or_eq_true, decide_eq_true_eq,
    beq_iff_eq, or_assoc]

/-- Settles O4: every field of the reset state is written out, and what follows from it evaluates. -/
theorem resetStateIsSound : Obligations.ResetStateIsSound :=
  ⟨⟨by decide, by decide⟩, show (0xFFFF : Word16) = tableDigest [] by decide, ⟨rfl, rfl⟩,
    ⟨.nil, .nil, nofun⟩, rfl, rfl, rfl, rfl, rfl, rfl, rfl, fun h => ⟨rfl, rfl⟩, rfl, rfl, rfl, rfl, rfl, rfl, rfl,
    fun h => by cases h <;> rfl, fun _ => rfl, fun n => by rfl⟩

end Sys2Proof.Machine

namespace Sys2Proof.Machine
open State Sys2Proof.Config

/-! ## The kinds by their checks (R72 to R85) -/

section
variable {fams : List Family} {t : Table} {st : Station} {role : Role} {h : Head} {serial : Serial} {e : Entry}

/-- The change of the one entry of a serial, by any function that agrees on it. -/
theorem changeEntry_eq (ht : tableLaws t) (he : e ∈ t) (hs : e.serial = serial) {f g : Entry → Entry} (hfg : f e = g e) :
    changeEntry t serial f = t.map fun x => if x.serial = serial then g x else x := by
  refine List.map_congr_left fun x hx => ?_
  split
  next hxs => rw [ht.eq_of_serial hx he (hxs.trans hs.symm), hfg]
  next => rfl

theorem mem_addEntry (x : Entry) : x ∈ addEntry t e ↔ x ∈ t ∨ x = e := (mem_insertBy _ _ _ _).trans or_comm

/-- A kind that changes one known entry is refused UNKNOWN_WHEEL for any other serial (5.3.1). -/
theorem unknownWheel (hnone : ∀ e ∈ t, e.serial ≠ serial) (known : Entry → PoolOutcome) :
    (match findSerial t serial with
      | none => PoolOutcome.refused .unknownWheel
      | some e => known e) = .refused .unknownWheel := by
  rw [findSerial_eq_none_iff.2 hnone]

/-! ### ENTER (R72) -/

/-- Settles O25: the checks of ENTER in their order, and the entry at the lowest free position. -/
theorem enterAddsFreeEntry : Obligations.EnterAddsFreeEntry := by
  intro fams t st serial family diameter slot hbad ht
  have hkind : applyFrame fams t st .store (.enter serial family diameter slot) = applyEnter t serial family diameter slot :=
    applyFrame_eq rfl hbad
  rw [hkind]
  unfold applyEnter
  refine ⟨fun e he hs => ?_, fun hnew hnamed => ?_, fun hnew hnamed hfull => ?_, fun hnew hnamed hroom => ?_⟩
  · rw [findSerial_eq_some ht he hs]; rfl
  · rw [findSerial_eq_none_iff.2 hnew, slotNamed_iff.2 hnamed]; rfl
  · rw [findSerial_eq_none_iff.2 hnew, slotNamed_eq_false_iff.2 hnamed]
    exact if_pos (Nat.le_of_eq hfull.symm)
  · rw [findSerial_eq_none_iff.2 hnew, slotNamed_eq_false_iff.2 hnamed]
    obtain ⟨-, hfree, hbelow⟩ := freePosition_spec hroom
    exact ⟨_, _, if_neg (Nat.not_le_of_lt hroom), mem_addEntry, rfl, hfree, hbelow⟩

/-! ### CLAIM (R73 to R75) -/

theorem eligible_iff {family : BitVec 4} : eligible fams family e = true ↔ e.state = .free ∧ e.family = family
    ∧ (familyAt fams family).minDiameter.toNat
      + ((familyAt fams family).reserve + 1) * (familyAt fams family).depth < e.diameter.toNat := by
  simp only [eligible, Bool.and_eq_true, beq_iff_eq, decide_eq_true_eq, and_assoc]
  rfl

/-- The smaller diameter, and of equal diameters the serial that is not higher (R74). -/
def Entry.first (a b : Entry) : Prop :=
  a.diameter.toNat < b.diameter.toNat ∨ (a.diameter = b.diameter ∧ a.serial.toNat ≤ b.serial.toNat)

theorem first_of_claimBefore {a b : Entry} (hab : claimBefore a b = true) : a.first b := by
  simp only [claimBefore, Bool.or_eq_true, Bool.and_eq_true, decide_eq_true_eq, beq_iff_eq] at hab
  exact hab.imp_right fun hs => ⟨hs.1, Nat.le_of_lt hs.2⟩

theorem first_of_not_claimBefore {a b : Entry} (hab : ¬claimBefore a b = true) : b.first a := by
  simp only [claimBefore, Bool.or_eq_true, Bool.and_eq_true, decide_eq_true_eq, beq_iff_eq, not_or, not_and,
    Nat.not_lt] at hab
  rcases Nat.lt_or_eq_of_le hab.1 with hlt | heq
  · exact .inl hlt
  · have hdiameter : b.diameter = a.diameter := BitVec.eq_of_toNat_eq heq
    exact .inr ⟨hdiameter, hab.2 hdiameter.symm⟩

theorem Entry.first.trans {a b c : Entry} (hab : a.first b) (hbc : b.first c) : a.first c := by
  rcases hab with hab | ⟨hab, hs⟩
  · rcases hbc with hbc | ⟨hbc, -⟩
    · exact .inl (Nat.lt_trans hab hbc)
    · exact .inl (hbc ▸ hab)
  · rcases hbc with hbc | ⟨hbc, hs'⟩
    · exact .inl (hab ▸ hbc)
    · exact .inr ⟨hab.trans hbc, Nat.le_trans hs hs'⟩

theorem selectEntry_first {l : List Entry} {e : Entry} (hl : selectEntry l = some e) : ∀ x ∈ l, e.first x := by
  induction l generalizing e with
  | nil => cases hl
  | cons y ys ih =>
    have hself : ∀ x : Entry, x.first x := fun x => .inr ⟨rfl, Nat.le_refl _⟩
    unfold selectEntry at hl
    split at hl
    next hnone =>
      cases hl
      cases ys with
      | nil => exact List.forall_mem_singleton.2 (hself _)
      | cons z zs => unfold selectEntry at hnone; repeat' split at hnone
                     all_goals cases hnone
    next b hb =>
      have hbest := ih hb
      split at hl
      next hbefore =>
        cases hl
        exact List.forall_mem_cons.2 ⟨first_of_claimBefore hbefore, hbest⟩
      next hbefore =>
        cases hl
        exact List.forall_mem_cons.2 ⟨hself _, fun x hx => (first_of_not_claimBefore hbefore).trans (hbest x hx)⟩

theorem selectEntry_isSome {l : List Entry} (hl : l ≠ []) : ∃ e, selectEntry l = some e := by
  cases l with
  | nil => exact absurd rfl hl
  | cons x xs =>
    unfold selectEntry
    repeat' split
    all_goals exact ⟨_, rfl⟩

theorem headBusy_iff : (t.any fun e => e.onTheWay && e.heldAt st h) = true
    ↔ ∃ e ∈ t, e.state ∈ [PoolState.claimed, .transit, .delivered] ∧ e.heldAt st h = true := by
  simp only [List.any_eq_true, Bool.and_eq_true, onTheWay_iff]

/-- Settles O26: CLAIM's two checks, and the selection among the eligible wheels. -/
theorem claimSelectsSmallest : Obligations.ClaimSelectsSmallest := by
  intro fams t st head family hbad ht
  rw [applyFrame_eq rfl hbad]
  have hidle : (∀ e ∈ t, e.state ∈ [PoolState.claimed, .transit, .delivered] →
      e.heldAt st (Head.ofBit (head == 1)) = false) →
      ¬(t.any fun e => e.onTheWay && e.heldAt st (Head.ofBit (head == 1))) = true := fun hidle hbusy => by
    obtain ⟨e, he, hstate, hheld⟩ := headBusy_iff.1 hbusy
    exact Bool.false_ne_true ((hidle e he hstate).symm.trans hheld)
  refine ⟨fun hbusy => if_pos (headBusy_iff.2 hbusy), fun hfree hnone => ?_, fun hfree hsome => ?_⟩
  · refine (if_neg (hidle hfree)).trans ?_
    rw [List.filter_eq_nil_iff.2 fun e he => mt eligible_iff.1 (hnone e he)]
    rfl
  · obtain ⟨x, hx, hxe⟩ := hsome
    obtain ⟨e, hselect⟩ := selectEntry_isSome (l := t.filter (eligible fams (family.setWidth 4)))
      (List.ne_nil_of_mem (List.mem_filter.2 ⟨hx, eligible_iff.2 hxe⟩))
    obtain ⟨he, heligible⟩ := List.mem_filter.1 (selectEntry_mem hselect)
    have hunspent : e.spent = false := (ht.2.2 e he).unspent (by rw [(eligible_iff.1 heligible).1]; nofun)
    have hclaimed : e.toClaimed st (Head.ofBit (head == 1))
        = { e with state := .claimed, holder := some ⟨st, Head.ofBit (head == 1), false⟩ } := by
      rw [Entry.toClaimed, ← hunspent]
    refine ⟨e, he, eligible_iff.1 heligible, fun y hy hye => selectEntry_first hselect y
      (List.mem_filter.2 ⟨hy, eligible_iff.2 hye⟩), (if_neg (hidle hfree)).trans ?_⟩
    rw [hselect]
    dsimp only
    rw [changeEntry_eq
      (g := fun x => { x with state := .claimed, holder := some ⟨st, Head.ofBit (head == 1), false⟩ }) ht he rfl hclaimed,
      hclaimed]

/-! ### DISPATCH and DELIVER (R76, R77) -/

/-- Settles O27: the entry of the serial decides. -/
theorem dispatchAndDeliver : Obligations.DispatchAndDeliver := by
  refine ⟨fun fams t st serial hserial ht => ?_, fun fams t st serial hserial ht => ?_⟩
  · have hkind : applyFrame fams t st .store (.dispatch serial) = applyDispatch t serial :=
      applyFrame_eq rfl (by simpa [badField] using hserial)
    rw [hkind]
    refine ⟨fun hnone => unknownWheel hnone _, fun e he hs hstate => ?_, fun e he hs hstate => ?_⟩
    all_goals unfold applyDispatch; rw [findSerial_eq_some ht he hs]; dsimp only
    · rw [if_pos hstate]
    · rw [if_neg (not_not.2 hstate), changeEntry_eq ht he hs]
      rw [Entry.toTransit, Entry.setAtChange, ← (ht.2.2 e he).unspent (by rw [hstate]; nofun)]
  · have hkind : applyFrame fams t st .store (.deliver serial) = applyDeliver t serial :=
      applyFrame_eq rfl (by simpa [badField] using hserial)
    rw [hkind]
    refine ⟨fun hnone => unknownWheel hnone _, fun e he hs hstate => ?_, fun e he hs hstate => ?_⟩
    all_goals unfold applyDeliver; rw [findSerial_eq_some ht he hs]; dsimp only
    · rw [if_pos hstate]
    · have hsound := ht.2.2 e he
      rw [if_neg (not_not.2 hstate), changeEntry_eq ht he hs]
      rw [Entry.toDelivered, Entry.setAtChange, ← hsound.unspent (by rw [hstate]; nofun),
        ← hsound.slot_none (by rw [hstate]; nofun) (by rw [hstate]; nofun)]

/-! ### MOUNT (R78, R79) -/

/-- No entry has the serial 0, so that the step of the old wheel is one change of the table (R79 step 1). -/
theorem mountOld_map (ht : tableLaws t) (old : Serial) (diameter : Diameter) (spent : Bool) :
    mountOld t st h old diameter spent
      = t.map fun e => if e.serial = old then e.oldMounted st h diameter spent else e := by
  rw [mountOld_eq]
  split
  next hold =>
    refine ((List.map_congr_left fun e he => ?_).trans (List.map_id t)).symm
    rw [if_neg fun hs => (ht.2.2 e he).2.1 (hs.trans hold)]
    rfl
  next => rfl


/-- What a MOUNT or a DECLARE of another wheel makes of an entry (R79 step 2, R81 step 1). -/
def Entry.staled (st : Station) (h : Head) (except : Serial) (e : Entry) : Entry :=
  if e.serial ≠ except ∧ e.state = .mounted ∧ e.heldAt st h then e.toQuarantined false else e

theorem quarantineStale_eq (t : Table) (except : Serial) :
    quarantineStale t st h except = t.map (Entry.staled st h except) := rfl

theorem Entry.staled_self {except : Serial} (hs : e.serial = except ∨ ¬(e.state = .mounted ∧ e.heldAt st h = true)) :
    e.staled st h except = e :=
  if_neg fun hc => hs.elim hc.1 fun hm => hm hc.2

/-- A stale mount loses its holder: nothing else of it changes (R62). -/
theorem Entry.staled_mounted (he : e.sound) {except : Serial} (hs : e.serial ≠ except) (hm : e.state = .mounted)
    (hheld : e.heldAt st h = true) : e.staled st h except = { e with state := .quarantined, holder := none } := by
  refine (if_pos ⟨hs, hm, hheld⟩).trans ?_
  show ({ e with state := .quarantined, spent := false, slot := none, holder := none } : Entry) = _
  rw [← he.unspent (by rw [hm]; nofun)]
  congr 1
  exact (he.slot_none (by rw [hm]; nofun) (by rw [hm]; nofun)).symm

/-- A wheel MOUNTED at the head that the MOUNT names as old goes to the change position (R79). -/
theorem Entry.oldMounted_mounted (he : e.sound) (hm : e.state = .mounted) (hheld : e.heldAt st h = true)
    (diameter : Diameter) (spent : Bool) : e.oldMounted st h diameter spent
      = { e with state := .returning, diameter := diameter, spent := spent, holder := some ⟨st, h, true⟩ } := by
  obtain ⟨flag, hholder⟩ := heldAt_iff.1 hheld
  refine (if_pos ⟨hm, hheld⟩).trans ?_
  rw [Entry.toReturning, Entry.setAtChange, hholder, ← he.slot_none (by rw [hm]; nofun) (by rw [hm]; nofun)]
  rfl

/-- A wheel that broke on the spindle moves to the change position (R79). -/
theorem Entry.oldMounted_quarantined (hq : e.state = .quarantined) (hheld : e.heldAt st h = true) (diameter : Diameter)
    (spent : Bool) : e.oldMounted st h diameter spent = { e with holder := some ⟨st, h, true⟩ } := by
  obtain ⟨flag, hholder⟩ := heldAt_iff.1 hheld
  refine (if_neg fun hc => by rw [hq] at hc; exact nomatch hc.1).trans ((if_pos ⟨hq, hheld⟩).trans ?_)
  rw [Entry.setAtChange, hholder]
  rfl

theorem Entry.oldMounted_other (hm : ¬(e.state = .mounted ∧ e.heldAt st h = true))
    (hq : ¬(e.state = .quarantined ∧ e.heldAt st h = true)) (diameter : Diameter) (spent : Bool) :
    e.oldMounted st h diameter spent = e :=
  (if_neg hm).trans (if_neg hq)

/-- A wheel that is on its way, mounted (R79 step 3). -/
theorem Entry.toMounted_eq (he : e.sound) (hs : e.state ≠ .returning) :
    e.toMounted st h = { e with state := .mounted, slot := none, holder := some ⟨st, h, false⟩ } := by
  rw [Entry.toMounted, ← he.unspent hs]

/-- The three steps of R79 are one change of the table. -/
theorem mountSteps_eq (ht : tableLaws t) (he : e ∈ t) {new old : Serial} (hs : e.serial = new)
    (hway : e.onTheWay = true) (hne : old ≠ new) (diameter : Diameter) (spent : Bool) :
    changeEntry (quarantineStale (mountOld t st h old diameter spent) st h new) new (Entry.toMounted st h)
      = t.map fun x =>
        if x.serial = new then { x with state := .mounted, slot := none, holder := some ⟨st, h, false⟩ }
        else if x.state = .mounted ∧ x.heldAt st h = true then
          (if x.serial = old then
            { x with state := .returning, diameter := diameter, spent := spent, holder := some ⟨st, h, true⟩ }
          else { x with state := .quarantined, holder := none })
        else if x.serial = old ∧ x.state = .quarantined ∧ x.heldAt st h = true then
          { x with holder := some ⟨st, h, true⟩ }
        else x := by
  rw [mountOld_map ht, quarantineStale_eq, changeEntry, List.map_map, List.map_map]
  refine List.map_congr_left fun x hx => ?_
  have hsound := ht.2.2 x hx
  simp only [Function.comp_apply]
  by_cases hnew : x.serial = new
  · have hstate : x.state ≠ .returning := fun hr => by
      rw [← ht.eq_of_serial hx he (hnew.trans hs.symm), Entry.onTheWay, hr] at hway
      exact Bool.false_ne_true hway
    have hold : x.serial ≠ old := fun hold => hne (hold.symm.trans hnew)
    rw [if_neg hold, Entry.staled_self (.inl hnew), if_pos hnew, if_pos hnew,
      Entry.toMounted_eq hsound hstate]
  · rw [if_neg hnew]
    by_cases hmounted : x.state = .mounted ∧ x.heldAt st h = true
    · rw [if_pos hmounted]
      by_cases hold : x.serial = old
      · rw [if_pos hold, if_pos hold, Entry.oldMounted_mounted hsound hmounted.1 hmounted.2,
          Entry.staled_self (.inr (by simp))]
        exact if_neg hnew
      · rw [if_neg hold, if_neg hold, Entry.staled_mounted hsound hnew hmounted.1 hmounted.2]
        exact if_neg hnew
    · rw [if_neg hmounted]
      by_cases hbroken : x.serial = old ∧ x.state = .quarantined ∧ x.heldAt st h = true
      · rw [if_pos hbroken, if_pos hbroken.1, Entry.oldMounted_quarantined hbroken.2.1 hbroken.2.2,
          Entry.staled_self (.inr (by simp [hbroken.2.1]))]
        exact if_neg hnew
      · have hsame : (if x.serial = old then x.oldMounted st h diameter spent else x) = x := by
          split
          next hold => exact Entry.oldMounted_other hmounted (fun hq => hbroken ⟨hold, hq⟩) _ _
          next => rfl
        rw [hsame, if_neg hbroken, Entry.staled_self (.inr hmounted), if_neg hnew]

/-- Settles O28: the new wheel's three checks, and the three steps of R79. -/
theorem mountChangesWheels : Obligations.MountChangesWheels := by
  intro fams t st head new old diameter spent hbad ht
  have hkind : applyFrame fams t st .grinder (.mount head new old diameter spent)
      = applyMount t st (Head.ofBit (head == 1)) new old diameter (spent == 1) := applyFrame_eq rfl hbad
  simp only [badField, Bool.or_eq_false_iff, beq_eq_false_iff_ne] at hbad
  rw [hkind]
  refine ⟨fun hnone => unknownWheel hnone _, fun e he hs => ?_⟩
  unfold applyMount
  rw [findSerial_eq_some ht he hs]
  dsimp only
  simp only [← onTheWay_iff, Bool.not_eq_true']
  refine ⟨fun hstate => if_pos (by simpa using hstate), fun hstate hheld => ?_, fun hstate hheld => ?_⟩
  · rw [if_neg (by simp [hstate]), if_pos hheld]
  · rw [if_neg (by simp [hstate]), if_neg (Bool.not_eq_false _ ▸ hheld), mountSteps_eq ht he hs hstate hbad.1.2]

/-! ### DECLARE (R80, R81) -/

/-- What a DECLARE makes of the declared wheel (R81 step 2). -/
theorem declared_eq (family : BitVec 4) (diameter : Diameter) (hs : e.serial = serial) :
    ({ e.toMounted st h with family := family, diameter := diameter } : Entry)
      = ⟨e.pos, serial, family, .mounted, false, diameter, some ⟨st, h, false⟩, none⟩ := by
  rw [← hs]; rfl

/-- The stale mounts of a head (R81 step 1). -/
theorem staled_eq (he : e.sound) (hs : e.serial ≠ serial) : e.staled st h serial
    = if e.state = .mounted ∧ e.heldAt st h = true then { e with state := .quarantined, holder := none } else e := by
  split
  next hm => exact Entry.staled_mounted he hs hm.1 hm.2
  next hm => exact Entry.staled_self (.inr hm)

/-- Settles O29: the checks of R80, and the two steps of R81 in the table with the wheel and in one without it. -/
theorem declareStatesMountedWheel : Obligations.DeclareStatesMountedWheel := by
  intro fams t st head serial family diameter hbad ht
  have hkind : applyFrame fams t st .grinder (.declare head serial family diameter)
      = applyDeclare t st (Head.ofBit (head == 1)) serial (family.setWidth 4) diameter := applyFrame_eq rfl hbad
  rw [hkind]
  unfold applyDeclare
  refine ⟨fun e he hs hstate => ?_, fun e he hs hhere hstate => ?_, fun hnew hfull => ?_, fun hnew hroom => ?_⟩
  · rw [findSerial_eq_some ht he hs]
    dsimp only
    split
    next => rfl
    next hother => exact if_pos (hstate.resolve_left fun hm => hother (by simpa using hm))
  · rw [findSerial_eq_some ht he hs]
    refine (if_neg (by simpa using hhere)).trans ((if_neg hstate).trans ?_)
    rw [quarantineStale_eq, changeEntry, List.map_map]
    refine congrArg (PoolOutcome.applied · none) (List.map_congr_left fun x hx => ?_)
    simp only [Function.comp_apply]
    by_cases hxs : x.serial = serial
    · rw [Entry.staled_self (.inl hxs), if_pos hxs, if_pos hxs, declared_eq _ _ hxs]
    · rw [staled_eq (ht.2.2 x hx) hxs, if_neg hxs]
      refine if_neg fun hc => hxs ?_
      split at hc
      exacts [hc, hc]
  · rw [findSerial_eq_none_iff.2 hnew]
    exact if_pos (Nat.le_of_eq hfull.symm)
  · rw [findSerial_eq_none_iff.2 hnew]
    obtain ⟨-, hfree, hbelow⟩ := freePosition_spec hroom
    refine ⟨_, _, if_neg (Nat.not_le_of_lt hroom), fun x => ?_, hfree, hbelow⟩
    rw [mem_addEntry, quarantineStale_eq, List.map_congr_left fun y hy => staled_eq (ht.2.2 y hy) (hnew y hy)]

/-! ### RELEASE (R82) -/

/-- Settles O30: the checks of RELEASE, by the state of its entry. -/
theorem releaseByItsChecks : Obligations.ReleaseByItsChecks := by
  intro fams t st role serial reason hbad ht
  have hkind : applyFrame fams t st role (.release serial reason) = applyRelease t st role serial reason :=
    applyFrame_eq (by cases role <;> rfl) hbad
  rw [hkind]
  refine ⟨fun hnone => unknownWheel hnone _, fun e he hs => ?_⟩
  have hsound := ht.2.2 e he
  unfold applyRelease
  rw [findSerial_eq_some ht he hs]
  dsimp only
  by_cases hclaimed : e.state = .claimed
  · have hunspent := hsound.unspent (by rw [hclaimed]; nofun)
    have hfree : e.toFree e.slot = { e with state := .free, holder := none } := by rw [Entry.toFree, ← hunspent]
    rw [if_pos hclaimed]
    rw [changeEntry_eq (f := fun x => x.toFree x.slot) (g := fun x => { x with state := .free, holder := none }) ht he hs
      hfree]
    simp [hclaimed]
  · by_cases hdelivered : e.state = .delivered
    · have hreturning : e.toReturning false = { e with
          state := .returning, spent := false, holder := e.holder.map fun k => { k with atChange := true } } := by
        rw [Entry.toReturning, Entry.setAtChange, ← hsound.slot_none (by rw [hdelivered]; nofun) hclaimed]
      rw [if_neg hclaimed, if_pos hdelivered]
      rw [changeEntry_eq (g := fun x => { x with
        state := .returning, spent := false, holder := x.holder.map fun k => { k with atChange := true } }) ht he hs
        hreturning]
      simp [hdelivered]
    · simp [hclaimed, hdelivered]

/-! ### QUARANTINE, RACK and REMOVE (R83 to R85) -/

/-- Settles O31: one entry changed, or deleted. -/
theorem quarantineRackRemove : Obligations.QuarantineRackRemove := by
  refine ⟨fun fams t st role serial reason keep hbad ht => ?_, fun fams t st serial slot hbad ht => ?_,
    fun fams t st serial reason hbad ht => ?_⟩
  · have hkind : applyFrame fams t st role (.quarantine serial reason keep)
        = applyQuarantine t st role serial (keep == 1) := applyFrame_eq (by cases role <;> rfl) hbad
    rw [hkind]
    refine ⟨fun hnone => unknownWheel hnone _, fun e he hs hrole hheld => ?_, fun e he hs hmay => ?_⟩
    all_goals unfold applyQuarantine; rw [findSerial_eq_some ht he hs]
    · exact if_pos ⟨hrole, by simp [hheld]⟩
    · refine (if_neg fun hc => ?_).trans ?_
      · rcases hmay with hmay | hmay
        · rw [hmay] at hc; exact nomatch hc.1
        · simp [hmay] at hc
      · refine congrArg (PoolOutcome.applied · none) (changeEntry_eq ht he hs ?_)
        simp only [Entry.toQuarantined, beq_iff_eq]
  · have hkind : applyFrame fams t st .store (.rack serial slot) = applyRack t serial slot := applyFrame_eq rfl hbad
    rw [hkind]
    refine ⟨fun hnone => unknownWheel hnone _, fun e he hs => ?_⟩
    unfold applyRack
    rw [findSerial_eq_some ht he hs]
    refine ⟨fun hstate => if_pos hstate, fun hstate hspent hnamed => ?_, fun hstate hspent hnamed => ?_⟩
    all_goals refine (if_neg (by simp [hstate, hspent])).trans ?_
    · exact if_pos (slotNamed_iff.2 hnamed)
    · rw [slotNamed_eq_false_iff.2 hnamed]
      exact congrArg (PoolOutcome.applied · none) (changeEntry_eq ht he hs rfl)
  · have hkind : applyFrame fams t st .store (.remove serial reason) = applyRemove t serial := applyFrame_eq rfl hbad
    rw [hkind]
    refine ⟨fun hnone => unknownWheel hnone _, fun e he hs hstate => ?_, fun e he hs hstate => ?_⟩
    all_goals unfold applyRemove; rw [findSerial_eq_some ht he hs]
    · refine if_pos ?_
      simp only [List.mem_cons, List.not_mem_nil, or_false] at hstate
      rcases hstate with hstate | hstate | hstate | hstate <;> rw [Entry.onTheWay, hstate] <;> rfl
    · refine if_neg ?_
      simp only [List.mem_cons, List.not_mem_nil, or_false] at hstate
      rcases hstate with hstate | hstate | hstate <;> rw [Entry.onTheWay, hstate] <;> nofun

end

end Sys2Proof.Machine

namespace Sys2Proof.Machine
open State Sys2Proof.Config

/-! ## What the notices to one head's units change (R86 to R89) -/

/-- `P` survives what the notices to head `h` change: its head unit and its swap unit, its checkpoint, and the frames of
its swap unit, which sends CLAIMs for this head alone and withdraws none. Unlike `QuietStable` it lets nothing be said of
other senders' frames, and nothing of the line. -/
structure NoticeStable (h : Head) (P : State → Prop) : Prop where
  mapHead : ∀ f s, P s → P (s.mapHead h f)
  mapSwap : ∀ f s, P s → P (s.mapSwap h f)
  checkpoint : ∀ s, P s → P (requestCheckpoint (headId h) s)
  submit : ∀ (f : PoolFrame) s, (∀ head family, f = .claim head family → head = headByte h) → P s →
    P (submit (.swapUnit h) (.pool f) s).1
  withdraw : ∀ (q : Payload → Bool) s, (∀ head family, q (.pool (.claim head family)) = false) → P s →
    P (withdrawFrames (fun o p => o == .swapUnit h && q p) s)

theorem namesHeld_not_claim {x : Serial} {f : PoolFrame} (hf : namesHeld x f = true) : f.kind ≠ .claim := by
  cases f with
  | claim => exact absurd hf nofun
  | _ => exact nofun

/-- A frame called for through its want is no CLAIM: those go by `submitClaim`. -/
theorem wantedFrame_not_claim {s : State} {h : Head} {w : Want} {f : PoolFrame}
    (hw : (s.swap h).wantedFrame w = some f) (hc : s.stillCalls h w = true) : f.kind ≠ .claim := by
  have hrelease {reason : Byte} (hx : (s.swap h).held.map (PoolFrame.release · reason) = some f) : f.kind ≠ .claim := by
    obtain ⟨x, -, rfl⟩ := Option.map_eq_some_iff.1 hx
    exact nofun
  have hnames {u : Option Serial} (hx : (u.any fun x => namesHeld x f) = true) : f.kind ≠ .claim := by
    obtain ⟨x, -, hx⟩ := (Option.any_eq_true _ _).1 hx
    exact namesHeld_not_claim hx
  cases w with
  | claim | claimAgain => exact absurd hw nofun
  | releaseExpired | releaseWindow | releaseNotNeeded => exact hrelease hw
  | mismatch x => obtain rfl := Option.some.inj hw; exact nofun
  | mount g =>
    obtain rfl := Option.some.inj hw
    exact hnames ((Bool.and_eq_true _ _).mp hc).2
  | again g sentIn =>
    obtain rfl := Option.some.inj hw
    rcases (Bool.or_eq_true _ _).mp hc with hq | hu
    · rw [beq_iff_eq.1 hq]; exact nofun
    · exact hnames ((Bool.and_eq_true _ _).mp hu).2

namespace NoticeStable
variable {h : Head} {P : State → Prop} (hP : NoticeStable h P) {s : State} (hs : P s)
include hP hs

/-! ### The swap unit (chapter 9) -/

theorem enterBackoff (family : BitVec 4) : P (enterBackoff h family s) := hP.mapSwap _ _ hs

theorem submitClaim : P (submitClaim h s) := by
  have hsubmit := hP.submit (.claim (headByte h) (familyByte (s.claimFamily h))) s
    (fun head family hf => (PoolFrame.claim.inj hf).1.symm) hs
  unfold Machine.submitClaim; dsimp only
  split
  exacts [hP.enterBackoff hsubmit _, hP.mapSwap _ _ hsubmit, hP.mapSwap _ _ hsubmit]

theorem claimTest : P (claimTest h s) := by
  unfold Machine.claimTest
  split
  exacts [hP.submitClaim hs, hs]

theorem submitRetryable {f : PoolFrame} (hf : f.kind ≠ .claim) : P (submitRetryable h f s) := by
  have hsubmit := hP.submit f s (fun head family hfc => absurd (by rw [hfc]; rfl) hf) hs
  unfold Machine.submitRetryable; dsimp only
  split <;> exact hP.mapSwap _ _ hsubmit

theorem takeWant (w : Want) : P (takeWant h w s) := by
  have hframe : P (match (s.swap h).wantedFrame w with
      | some f => if s.stillCalls h w then Machine.submitRetryable h f s else s
      | none => s) := by
    split
    next f hw =>
      split
      next hc => exact hP.submitRetryable hs (wantedFrame_not_claim hw hc)
      next => exact hs
    next => exact hs
  have hclaim : P (if s.stillCalls h w then
      if needsSister (s.condition h) ∨ w = .claimAgain then Machine.submitClaim h s
      else s.mapSwap h fun x => { x with state := .idle } else s) := by
    split
    · split
      exacts [hP.submitClaim hs, hP.mapSwap _ _ hs]
    · exact hs
  cases w with
  | claim | claimAgain => exact hclaim
  | _ => exact hframe

omit hs in
theorem swapPumpFrom (ws : List Want) : ∀ {s : State}, P s → P (swapPumpFrom h ws s) := by
  induction ws with
  | nil => exact id
  | cons w ws ih =>
    intro s hs
    unfold Machine.swapPumpFrom
    split
    exacts [hs, ih (hP.takeWant (hP.mapSwap _ _ hs) w)]

theorem swapPump : P (swapPump h s) := hP.swapPumpFrom _ hs

theorem swapWant (w : Want) : P (swapWant h w s) := hP.swapPump (hP.mapSwap _ _ hs)

theorem swapFrameEnded : P (swapFrameEnded h s) := hP.claimTest (hP.swapPump hs)

theorem endBackoff : P (endBackoff h s) := by
  unfold Machine.endBackoff; dsimp only
  split
  · exact hs
  · split
    exacts [hP.mapSwap _ _ hs, hP.claimTest (hP.mapSwap _ _ hs)]

theorem familyNotice (family : BitVec 4) : P (familyNotice family h s) := by
  unfold Machine.familyNotice
  split
  exacts [hP.endBackoff hs, hs]

theorem dropHeld : P (dropHeld h s) := by
  unfold Machine.dropHeld
  split
  exacts [hs, hP.mapSwap _ _ (hP.withdraw _ _ (fun _ _ => rfl) hs)]

theorem setSwapState (st : SwapState) : P (setSwapState h st s) := hP.mapSwap _ _ hs

theorem dropCounted (counted : Bool) : P (dropCounted h counted s) := by
  unfold Machine.dropCounted; dsimp only
  split
  exacts [hP.mapSwap _ _ (hP.dropHeld hs), hP.dropHeld hs]

theorem claimAnew (w : Want) : P (claimAnew h w s) := by
  unfold Machine.claimAnew
  split
  exacts [hP.setSwapState hs _, hP.swapWant (hP.setSwapState hs _) _]

theorem loseWheel (counted : Bool) : P (loseWheel h counted s) := by
  unfold Machine.loseWheel; dsimp only
  split
  exacts [hP.claimAnew (hP.dropCounted hs _) _, hP.setSwapState (hP.dropCounted hs _) _]

theorem giveUpWheel (counted : Bool) : P (giveUpWheel h counted s) := hP.claimAnew (hP.dropCounted hs _) _

theorem failMount : P (failMount h s) := hP.setSwapState (hP.dropHeld hs) _

theorem dropToIdle : P (dropToIdle h s) := hP.claimTest (hP.setSwapState (hP.dropHeld hs) _)

theorem exchangeTest : P (exchangeTest h s) := by
  unfold Machine.exchangeTest
  split
  exacts [hP.mapSwap _ _ hs, hs]

theorem markNotNeeded : P (markNotNeeded h s) := by
  have hmark : P (s.mapSwap h fun u => { u with notNeeded := true }) := hP.mapSwap _ _ hs
  unfold Machine.markNotNeeded; dsimp only
  split
  · split
    exacts [hP.swapWant hmark _, hmark]
  · exact hP.swapWant (hP.mapSwap _ _ hmark) _
  · exact hP.swapWant (hP.mapSwap _ _ hmark) _
  all_goals exact hmark

theorem suitTest : P (suitTest h s) := by
  unfold Machine.suitTest; dsimp only
  split
  · exact hs
  · split
    · split
      exacts [hs, hP.markNotNeeded hs]
    · split
      exacts [hP.exchangeTest (hP.mapSwap _ _ hs), hs]

theorem swapNews : P (swapNews h s) := by
  unfold Machine.swapNews
  split
  exacts [hP.claimTest (hP.suitTest (hP.exchangeTest hs)), hs]

theorem enterDelivered : P (enterDelivered h s) := by
  unfold Machine.enterDelivered; dsimp only
  split
  exacts [hP.markNotNeeded (hP.exchangeTest (hP.mapSwap _ _ hs)), hP.exchangeTest (hP.mapSwap _ _ hs)]

theorem declareEnded : P (declareEnded h s) := by
  unfold Machine.declareEnded; dsimp only
  split
  exacts [hP.endBackoff (hP.mapSwap _ _ hs), hP.claimTest (hP.mapSwap _ _ hs)]

/-! ### The head unit (chapters 7 and 8) -/

theorem conditionChanged : P (conditionChanged h s) := hP.swapNews (hP.checkpoint _ hs)

theorem setCondition (c : Condition) : P (setCondition h c s) := by
  unfold Machine.setCondition
  split
  exacts [hs, hP.conditionChanged (hP.mapHead _ _ hs)]

theorem settleReport : P (settleReport h s) := hP.swapPump (hP.mapHead _ _ hs)

theorem replaceRecord (e : Entry) : P (replaceRecord h e s) := hP.conditionChanged (hP.mapHead _ _ hs)

theorem conflictHold : P (conflictHold h s) := by
  unfold Machine.conflictHold
  split
  · exact hs
  · exact hs
  · exact hP.checkpoint _ (hP.mapHead _ _ hs)
  all_goals exact hP.setCondition hs _

theorem headOutcome (f : PoolFrame) (refused : Bool) : P (headOutcome h f refused s) := by
  unfold Machine.headOutcome; dsimp only
  split
  · split
    exacts [hP.settleReport hs, hs]
  · split
    · refine hP.swapFrameEnded ?_
      split
      exacts [hP.conflictHold (hP.mapHead _ _ hs), hP.mapHead _ _ hs]
    · exact hs
  · exact hs

/-! ### Outcomes and holding notices -/

theorem claimApplied (e : Entry) (stamp : Time) : P (claimApplied h e stamp s) := hP.suitTest (hP.mapSwap _ _ hs)

theorem claimRefused (family : Byte) : P (claimRefused h family s) := by
  unfold Machine.claimRefused
  split
  exacts [hP.enterBackoff hs _, hs]

theorem mountApplied (e : Entry) : P (mountApplied h e s) :=
  hP.replaceRecord (hP.mapSwap _ _ (hP.setSwapState (hP.dropHeld hs) _)) e

theorem declareApplied (e : Entry) : P (declareApplied h e s) := hP.replaceRecord (hP.mapSwap _ _ hs) e

theorem releaseApplied (reason : Byte) : P (releaseApplied h reason s) := by
  unfold Machine.releaseApplied
  split
  · exact hP.failMount hs
  · split
    · exact hP.giveUpWheel hs _
    · split
      exacts [hP.giveUpWheel hs _, hP.dropToIdle hs]

theorem ownOutcome (f : PoolFrame) (stamp : Time) (out : PoolOutcome) : P (ownOutcome h f stamp out s) := by
  unfold Machine.ownOutcome
  split
  · exact hP.claimApplied hs _ _
  · exact hP.claimRefused hs _
  · split
    · split
      exacts [hP.mountApplied hs _, hs]
    · exact hs
  · split
    exacts [hP.failMount hs, hs]
  · split
    exacts [hP.declareApplied hs _, hs]
  · exact hP.declareEnded hs
  · split
    exacts [hP.releaseApplied hs _, hs]
  · exact hs

theorem swapOutcome (f : PoolFrame) (stamp : Time) (out : PoolOutcome) : P (swapOutcome h f stamp out s) := by
  unfold Machine.swapOutcome
  split
  exacts [hP.swapFrameEnded (hP.ownOutcome (hP.mapSwap _ _ hs) _ _ _), hs]

theorem withdrawExpired (x : Serial) : P (withdrawExpired h x s) := by
  unfold Machine.withdrawExpired; dsimp only
  exact hP.mapSwap _ _ (hP.withdraw (· == .pool (.release x releaseExpired)) _ (fun _ _ => beq_eq_false_iff_ne.2 nofun) hs)

theorem heldDispatched (x : Serial) : P (heldDispatched h x s) :=
  hP.swapPump (hP.withdrawExpired (hP.mapSwap _ _ hs) x)

theorem heldDelivered : P (heldDelivered h s) := by
  unfold Machine.heldDelivered
  split
  exacts [hP.enterDelivered hs, hP.mapSwap _ _ hs]

theorem heldTaken (counted : Bool) : P (heldTaken h counted s) := by
  unfold Machine.heldTaken
  split
  exacts [hP.failMount hs, hP.loseWheel hs _]

theorem holdingNotice (f : PoolFrame) (sender : Station) (role : Role) : P (holdingNotice h f sender role s) := by
  unfold Machine.holdingNotice
  split
  · split
    exacts [hP.heldDispatched hs _, hs]
  · split
    exacts [hP.heldDelivered hs, hs]
  · split
    exacts [hP.heldTaken hs _, hs]
  · split
    exacts [hP.heldTaken hs _, hs]
  · split
    · split
      exacts [hP.dropToIdle hs, hP.heldTaken hs _]
    · exact hs
  · exact hs

theorem headNotices (i : RxItem) (f : PoolFrame) (out : PoolOutcome) : P (headNotices i f out h s) := by
  have hswap {s : State} (hs : P s) : P (swapNotices h f i.sender i.role i.own i.stamp out s) := by
    unfold Machine.swapNotices
    split
    · exact hP.swapOutcome hs _ _ _
    · split
      exacts [hP.holdingNotice hs _ _ _, hs]
  unfold Machine.headNotices; dsimp only
  refine hswap ?_
  split
  exacts [hP.headOutcome hs _ _, hs]

end NoticeStable
end Sys2Proof.Machine

namespace Sys2Proof.Machine
open State Sys2Proof.Config

/-! ## What the queues hold behind a withdrawal, a submission and a checkpoint (R32, R33, R179) -/

section
variable {s t u : State} {o : Origin} {q : Payload}

/-- The queues differ in frames of one block alone. -/
structure FramesOf (o : Origin) (s t : State) : Prop where
  queued : ∀ e : TxEntry, e.origin ≠ o → (e ∈ t.fe.txQueue ↔ e ∈ s.fe.txQueue)
  held : ∀ r : Origin × Payload, r.1 ≠ o → (r ∈ t.fe.held ↔ r ∈ s.fe.held)

theorem FramesOf.refl (o : Origin) (s : State) : FramesOf o s s := ⟨fun _ _ => .rfl, fun _ _ => .rfl⟩

theorem FramesOf.submitted {o' : Origin} (ht : FramesOf o s t) (ho : o' ≠ o) (h : s.submitted o' q) : t.submitted o' q :=
  h.imp (ht.queued _ ho).2 (ht.held _ ho).2

theorem FramesOf.submit (ht : FramesOf o s t) (q : Payload) : FramesOf o s (submit o q t).1 := by
  cases hr : t.refusedAtOnce q with
  | true => rw [submit_refused hr]; exact ht
  | false =>
    cases hroom : t.txRoom with
    | true =>
      rw [submit_admitted hr hroom]
      refine ⟨fun e he => Iff.trans ?_ (ht.queued e he), ht.held⟩
      exact (mem_insertBy _ _ _ _).trans (or_iff_right fun hq => he (by rw [hq]))
    | false =>
      rw [submit_held hr hroom]
      refine ⟨ht.queued, fun r hr => Iff.trans ?_ (ht.held r hr)⟩
      simp only [mapFe_fe, List.mem_append, List.mem_singleton]
      exact or_iff_left fun hq => hr (by rw [hq])

theorem FramesOf.withdrawFrames {p : Origin → Payload → Bool} (ht : FramesOf o s t)
    (hp : ∀ o' q, o' ≠ o → p o' q = false) : FramesOf o s (withdrawFrames p t) := by
  refine ⟨fun e he => Iff.trans ?_ (ht.queued e he), fun r hr => Iff.trans ?_ (ht.held r hr)⟩
  · constructor
    · intro hm
      obtain ⟨d, hd, hde⟩ := List.mem_map.1 hm
      have hdo : d.origin ≠ o := by rw [← hde] at he; split at he <;> exact he
      rw [if_neg (by rw [hp _ _ hdo]; nofun)] at hde
      rw [← hde]
      exact (List.mem_filter.1 hd).1
    · intro hm
      exact List.mem_map.2 ⟨e, List.mem_filter.2 ⟨hm, by simp [hp _ _ he]⟩, if_neg (by simp [hp _ _ he])⟩
  · simp only [Machine.withdrawFrames, mapFe_fe, FrameEngine.removed, List.mem_filter, hp _ _ hr, Bool.not_false, and_true]

theorem withdrawFrames_claimQueued {p : Origin → Payload → Bool} {head : Byte}
    (hp : ∀ o family, p o (.pool (.claim head family)) = false) (s : State) :
    (withdrawFrames p s).claimQueued head = s.claimQueued head := by
  rw [Bool.eq_iff_iff, claimQueued_iff, claimQueued_iff]
  constructor
  · rintro ⟨e, he, g, hg⟩
    obtain ⟨d, hd, rfl⟩ := List.mem_map.1 he
    refine ⟨d, (List.mem_filter.1 hd).1, g, ?_⟩
    rw [← hg]
    split <;> rfl
  · rintro ⟨e, he, g, hg⟩
    refine ⟨e, List.mem_map.2 ⟨e, List.mem_filter.2 ⟨he, ?_⟩, ?_⟩, g, hg⟩
    · simp [hg, hp]
    · simp [hg, hp]

/-- A submission queues a CLAIM of no head but the one it names. -/
theorem submit_claimQueued {head : Byte} (hq : ∀ family, q ≠ .pool (.claim head family)) (o : Origin) (s : State) :
    (submit o q s).1.claimQueued head = s.claimQueued head := by
  cases hr : s.refusedAtOnce q with
  | true => rw [submit_refused hr]
  | false =>
    cases hroom : s.txRoom with
    | false => rw [submit_held hr hroom]; rfl
    | true =>
      rw [submit_admitted hr hroom, Bool.eq_iff_iff, claimQueued_iff, claimQueued_iff]
      obtain ⟨l, r, hl, hl', -⟩ := queueFrame_place o q s
      rw [hl, hl']
      constructor
      · rintro ⟨e, he, g, hg⟩
        rcases List.mem_append.1 he with he | he
        · exact ⟨e, List.mem_append_left _ he, g, hg⟩
        · rcases List.mem_cons.1 he with rfl | he
          exacts [absurd hg (hq g), ⟨e, List.mem_append_right _ he, g, hg⟩]
      · rintro ⟨e, he, g, hg⟩
        exact ⟨e, by simp only [List.mem_append, List.mem_cons] at he ⊢; tauto, g, hg⟩

end

theorem mem_insertAsc (n k : Nat) (l : List Nat) : n ∈ insertAsc k l ↔ n = k ∨ n ∈ l := by
  induction l with
  | nil => simp [insertAsc]
  | cons x xs ih =>
    unfold insertAsc
    split
    · simp
    · split
      · simp_all
      · simp only [List.mem_cons, ih]; tauto

theorem requestCheckpoint_rest (id : Nat) (s : State) : requestCheckpoint id s
    = { s with life := { s.life with pending := (requestCheckpoint id s).life.pending } } := by
  unfold requestCheckpoint State.mapLife
  dsimp only
  split <;> rfl

theorem requestCheckpoint_keeps {id k : Nat} {s : State} (h : k ∈ s.life.pending) :
    k ∈ (requestCheckpoint id s).life.pending := by
  show k ∈ (if s.life.fault then s.life else _ : LifeStore).pending
  split
  exacts [h, (mem_insertAsc _ _ _).2 (.inr h)]

/-- A life store that works takes the request. -/
theorem requestCheckpoint_mem {id : Nat} {s : State} (hf : s.life.fault = false) :
    id ∈ (requestCheckpoint id s).life.pending := by
  show id ∈ (if s.life.fault then s.life else _ : LifeStore).pending
  rw [if_neg (by simp [hf])]
  exact (mem_insertAsc _ _ _).2 (.inl rfl)

/-! ## The frame of one head's notices -/

/-- State `t` is `s` but for what the notices to head `h` change. -/
structure HeadNoticed (h : Head) (s t : State) : Prop where
  rest : t = { s with
    heads := t.heads, swaps := t.swaps, life := { s.life with pending := t.life.pending }
    fe := { s.fe with txQueue := t.fe.txQueue, held := t.fe.held, admissionsDue := t.fe.admissionsDue } }
  head : ∀ k, k ≠ h → t.head k = s.head k
  swap : ∀ k, k ≠ h → t.swap k = s.swap k
  pending : ∀ id ∈ s.life.pending, id ∈ t.life.pending
  frames : FramesOf (.swapUnit h) s t
  claims : ∀ k, k ≠ h → t.claimQueued (headByte k) = s.claimQueued (headByte k)

theorem HeadNoticed.refl (h : Head) (s : State) : HeadNoticed h s s :=
  ⟨rfl, fun _ _ => rfl, fun _ _ => rfl, fun _ => id, .refl _ s, fun _ _ => rfl⟩

theorem headByte_ne {h k : Head} (hk : k ≠ h) : headByte k ≠ headByte h := by
  intro he
  refine hk ?_
  cases h <;> cases k <;> simp [headByte] at he ⊢

theorem headNoticed_stable (h : Head) (s : State) : NoticeStable h (HeadNoticed h s) where
  mapHead f t ht :=
    { ht with
      rest := by unfold State.mapHead; rw [ht.rest]
      head := fun k hk => (mapHead_head_other t f hk).trans (ht.head k hk)
      frames := ⟨ht.frames.queued, ht.frames.held⟩ }
  mapSwap f t ht :=
    { ht with
      rest := by unfold State.mapSwap; rw [ht.rest]
      swap := fun k hk => (mapSwap_swap_other t f hk).trans (ht.swap k hk)
      frames := ⟨ht.frames.queued, ht.frames.held⟩ }
  checkpoint t ht := by
    have hrest : requestCheckpoint (headId h) t = { s with
        heads := t.heads, swaps := t.swaps
        life := { s.life with pending := (requestCheckpoint (headId h) t).life.pending }
        fe := { s.fe with txQueue := t.fe.txQueue, held := t.fe.held, admissionsDue := t.fe.admissionsDue } } := by
      rw [requestCheckpoint_rest, ht.rest]
    exact { ht with
      rest := hrest
      pending := fun id hid => requestCheckpoint_keeps (ht.pending id hid)
      frames := ⟨ht.frames.queued, ht.frames.held⟩ }
  submit f t hf ht := by
    have hrest := submit_rest (.swapUnit h) (.pool f) t
    generalize hu : (submit (.swapUnit h) (.pool f) t).1 = u at hrest
    refine ⟨by rw [hrest, ht.rest], fun k hk => ?_, fun k hk => ?_, ?_, ?_, fun k hk => ?_⟩
    · rw [hrest]; exact ht.head k hk
    · rw [hrest]; exact ht.swap k hk
    · rw [hrest]; exact ht.pending
    · rw [← hu]; exact ht.frames.submit _
    · rw [← hu, submit_claimQueued, ht.claims k hk]
      exact fun family hp => headByte_ne hk (hf _ family (Payload.pool.inj hp))
  withdraw q t hq ht := by
    refine { ht with rest := ?_, frames := ht.frames.withdrawFrames fun o' p ho => ?_, claims := fun k hk => ?_ }
    · unfold withdrawFrames State.mapFe; rw [ht.rest]; rfl
    · simp [ho]
    · rw [withdrawFrames_claimQueued (fun o family => by simp [hq]), ht.claims k hk]

theorem headNotices_noticed (i : RxItem) (f : PoolFrame) (out : PoolOutcome) (h : Head) (s : State) :
    HeadNoticed h s (headNotices i f out h s) :=
  (headNoticed_stable h s).headNotices (.refl h s) i f out

theorem familyNotice_noticed (family : BitVec 4) (h : Head) (s : State) : HeadNoticed h s (familyNotice family h s) :=
  (headNoticed_stable h s).familyNotice (.refl h s) family

end Sys2Proof.Machine

namespace Sys2Proof.Machine
open State Sys2Proof.Config

/-! ## The generation notice (R91, R99) -/

/-- State `t` is `s` but for what the image unit changes: itself and its frames, which are parts of the image. -/
structure ImageMoved (s t : State) : Prop where
  rest : t = { s with
    image := t.image
    fe := { s.fe with txQueue := t.fe.txQueue, held := t.fe.held, admissionsDue := t.fe.admissionsDue } }
  frames : FramesOf .imageUnit s t
  claims : ∀ head, t.claimQueued head = s.claimQueued head

namespace ImageMoved
variable {s t : State}

theorem refl (s : State) : ImageMoved s s := ⟨rfl, .refl _ s, fun _ => rfl⟩

theorem mapImage (ht : ImageMoved s t) (f : ImageUnit → ImageUnit) : ImageMoved s (t.mapImage f) where
  rest := by unfold State.mapImage; rw [ht.rest]
  frames := ⟨ht.frames.queued, ht.frames.held⟩
  claims := ht.claims

theorem withdrawParts (ht : ImageMoved s t) : ImageMoved s (withdrawImage isPart t) := by
  refine ImageMoved.mapImage ⟨?_, ht.frames.withdrawFrames fun o' q ho => by simp [ho], fun head => ?_⟩ _
  · unfold withdrawFrames State.mapFe; rw [ht.rest]; rfl
  · rw [withdrawFrames_claimQueued fun _ _ => Bool.and_false _, ht.claims]

theorem endTransfer (ht : ImageMoved s t) : ImageMoved s (endTransfer t) := (ht.mapImage _).withdrawParts

theorem submitPart (ht : ImageMoved s t) (k : Nat) : ImageMoved s (submitImage (.imagePart k) t).1 := by
  unfold submitImage
  split
  · dsimp only; exact ht.mapImage _
  · refine ⟨by dsimp only; rw [submit_rest, ht.rest], ht.frames.submit _, fun head => ?_⟩
    exact (submit_claimQueued (q := .imagePart k) (fun _ => nofun) _ _).trans (ht.claims head)

theorem startTransfer (ht : ImageMoved s t) (restarts : Nat) : ImageMoved s (startTransfer restarts t) := by
  unfold Machine.startTransfer; dsimp only
  split
  exacts [((ht.mapImage _).submitPart _).endTransfer, (ht.mapImage _).submitPart _]

end ImageMoved

theorem generationNotice_moved (s : State) : ImageMoved s (generationNotice s) := by
  have hdropped := ((ImageMoved.refl s).mapImage fun u => { u with buffer := none }).withdrawParts
  unfold generationNotice; dsimp only
  split
  · split
    exacts [hdropped.startTransfer _, hdropped.endTransfer]
  · exact .refl s
  · exact .refl s

theorem generationNotice_eq {s : State} (hr : s.image.responder = .running) : generationNotice s
    = if s.image.restarts < 3 then startTransfer (s.image.restarts + 1)
        (withdrawImage isPart (s.mapImage fun u => { u with buffer := none }))
      else endTransfer (withdrawImage isPart (s.mapImage fun u => { u with buffer := none })) := by
  unfold generationNotice
  rw [hr]
  rfl

/-- The responder of a running transfer starts it anew, at most 3 times (R99). -/
theorem generationNotice_running {s : State} (hr : s.image.responder = .running) (hl : s.lineFault = false) :
    (s.image.restarts < 3 → (generationNotice s).image.responder = .queued ∧ (generationNotice s).image.buffer = none
      ∧ (generationNotice s).image.restarts = s.image.restarts + 1)
    ∧ (3 ≤ s.image.restarts →
      (generationNotice s).image.responder = .idle ∧ (generationNotice s).image.buffer = none) := by
  have hstart {t : State} (ht : t.lineFault = false) (n : Nat) :
      (startTransfer n t).image.responder = .queued ∧ (startTransfer n t).image.buffer = none
        ∧ (startTransfer n t).image.restarts = n := by
    generalize hu : t.mapImage (fun u =>
      { u with responder := .queued, buffer := none, restarts := n, part0Sent := false }) = u
    have hui : u.image.responder = .queued ∧ u.image.buffer = none ∧ u.image.restarts = n := by
      rw [← hu]; exact ⟨rfl, rfl, rfl⟩
    have hfree : u.refusedAtOnce (.imagePart 0) = false := by
      rw [refusedAtOnce_unpooled rfl, ← hu]; exact ht
    unfold startTransfer submitImage
    rw [hu]
    cases hh : u.holdsRequest .imageUnit with
    | true => exact hui
    | false =>
      have htaken := submit_taken hfree .imageUnit
      dsimp only
      rw [if_neg Bool.false_ne_true, if_neg (by simp [htaken]), submit_rest]
      exact hui
  rw [generationNotice_eq hr]
  have hline : (withdrawImage isPart (s.mapImage fun u => { u with buffer := none })).lineFault = false := hl
  constructor
  · intro hn
    rw [if_pos hn]
    exact hstart hline _
  · intro hn
    rw [if_neg (Nat.not_lt.2 hn)]
    exact ⟨rfl, rfl⟩

/-! ## What the notices of a pool frame leave (R86 to R91) -/

/-- What no notice of a pool frame changes: the pool engine, the counters, the peer table, the line and DEAF. -/
structure StationKept (s t : State) : Prop where
  pool : t.pool = s.pool
  counters : t.counters = s.counters
  peers : t.peers = s.peers
  line : t.line = s.line
  lineFault : t.lineFault = s.lineFault
  deaf : t.fe.deaf = s.fe.deaf

theorem StationKept.refl (s : State) : StationKept s s := ⟨rfl, rfl, rfl, rfl, rfl, rfl⟩

theorem StationKept.trans {s t u : State} (h : StationKept s t) (h' : StationKept t u) : StationKept s u where
  pool := h'.pool.trans h.pool
  counters := h'.counters.trans h.counters
  peers := h'.peers.trans h.peers
  line := h'.line.trans h.line
  lineFault := h'.lineFault.trans h.lineFault
  deaf := h'.deaf.trans h.deaf

theorem HeadNoticed.kept {h : Head} {s t : State} (ht : HeadNoticed h s t) : StationKept s t := by
  rw [ht.rest]; exact ⟨rfl, rfl, rfl, rfl, rfl, rfl⟩

theorem ImageMoved.kept {s t : State} (ht : ImageMoved s t) : StationKept s t := by
  rw [ht.rest]; exact ⟨rfl, rfl, rfl, rfl, rfl, rfl⟩

theorem depotFrame_kept {s t : State} (ht : depotFrame s t) : StationKept s t := by
  obtain ⟨⟨⟨-, hfault, -, hpeers, hpool, -, hfe⟩, -, -, -, -, hline, -⟩, hcounters, -⟩ := ht
  exact ⟨hpool, hcounters, hpeers, hline, hfault, by rw [hfe]⟩

theorem bothSwaps_kept {f : Head → State → State} (hf : ∀ h s, StationKept s (f h s)) (s : State) :
    StationKept s (bothSwaps f s) := by
  unfold bothSwaps
  split
  exacts [(hf _ _).trans (hf _ _), .refl s]

theorem familyNotices_kept (f : PoolFrame) (t : Table) (s : State) : StationKept s (familyNotices f t s) := by
  have hboth (family : BitVec 4) : StationKept s (bothSwaps (familyNotice family) s) :=
    bothSwaps_kept (fun h s => (familyNotice_noticed family h s).kept) s
  unfold familyNotices
  split
  · split
    exacts [hboth _, .refl s]
  · split
    exacts [hboth _, .refl s]
  · exact .refl s

/-- The store notice, at a station whose store unit is live. -/
def storeNotices (i : RxItem) (f : PoolFrame) (before : Table) (out : PoolOutcome) (s : State) : State :=
  if s.storeLive then storeNotice f before (i.own == some .storeUnit) i.stamp out s else s

theorem storeNotices_depot (i : RxItem) (f : PoolFrame) (before : Table) (out : PoolOutcome) (s : State) :
    depotFrame s (storeNotices i f before out s) := by
  unfold storeNotices
  split
  exacts [(depotFrame_stable s).storeNotice _ _ _ _ _ _ (depotFrame_refl s), depotFrame_refl s]

theorem poolNotices_applied (i : RxItem) (f : PoolFrame) (before t : Table) (sel : Option Entry) (s : State) :
    poolNotices i f before (.applied t sel) s = generationNotice (familyNotices f t
      (storeNotices i f before (.applied t sel) (bothSwaps (headNotices i f (.applied t sel)) s))) := rfl

theorem poolNotices_refused (i : RxItem) (f : PoolFrame) (before : Table) (reason : PoolRefusal) (s : State) :
    poolNotices i f before (.refused reason) s
      = storeNotices i f before (.refused reason) (bothSwaps (headNotices i f (.refused reason)) s) := rfl

theorem poolNotices_kept (i : RxItem) (f : PoolFrame) (before : Table) (out : PoolOutcome) (s : State) :
    StationKept s (poolNotices i f before out s) := by
  have hunits : StationKept s (storeNotices i f before out (bothSwaps (headNotices i f out) s)) :=
    (bothSwaps_kept (fun h s => (headNotices_noticed i f out h s).kept) s).trans
      (depotFrame_kept (storeNotices_depot i f before out _))
  cases out with
  | applied t sel => exact hunits.trans ((familyNotices_kept f t _).trans (generationNotice_moved _).kept)
  | refused reason => exact hunits

end Sys2Proof.Machine

namespace Sys2Proof.Machine
open State Sys2Proof.Config

/-! ## The pool engine takes its next item (R34, R53, R68) -/

section
variable {s : State} {i : RxItem} {ahead behind : List RxItem} {k : Kind} {c : Instr} {f : PoolFrame}

theorem splitNext_append {p : RxItem → Bool} (ha : ∀ j ∈ ahead, p j = false) (hi : p i = true) :
    splitNext p (ahead ++ i :: behind) = some (ahead, i, behind) := by
  induction ahead with
  | nil => exact if_pos hi
  | cons j js ih =>
    have hj : p j = false := ha j List.mem_cons_self
    have hrest := ih fun x hx => ha x (List.mem_cons_of_mem _ hx)
    rw [List.cons_append, splitNext, if_neg (by simp [hj]), hrest]
    rfl

theorem exec_poolCommand (hc : poolCommandKind c = some k) (s : State) : exec c s = .next (poolCommand k s) := by
  cases c
  case enter | claim | dispatch | deliver | mount | declare | release | quarantine | rack | remove =>
    obtain rfl := Option.some.inj hc
    rfl
  all_goals exact absurd hc nofun

/-- The item with the pool engine served. -/
def poolServed (i : RxItem) : RxItem := { i with forPool := false }

theorem poolCommand_split (hl : s.isLive = true) (hq : splitNext (·.forPool) s.fe.rxQueue = some (ahead, i, behind))
    (hm : poolMayTake s.joining ahead = true) :
    poolCommand i.kind s = depart (poolTake i (setRxQueue (ahead ++ poolServed i :: behind) s)) := by
  rw [poolCommand, if_pos hl, poolTakeNext, hq]
  exact if_pos ⟨beq_self_eq_true _, hm⟩

theorem poolCommand_queue (hl : s.isLive = true) (hq : s.fe.rxQueue = ahead ++ i :: behind)
    (ha : ∀ j ∈ ahead, j.forPool = false) (hi : i.forPool = true) (hm : poolMayTake s.joining ahead = true) :
    poolCommand i.kind s = depart (poolTake i (setRxQueue (ahead ++ poolServed i :: behind) s)) :=
  poolCommand_split hl (by rw [hq]; exact splitNext_append ha hi) hm

theorem poolMayTake_of_synced (hs : s.synced = true) (hr : ∀ j ∈ ahead, j.kind = .roll → j.forPeers = false) :
    poolMayTake s.joining ahead = true := by
  have hj : s.joining = false := by
    simp only [State.synced, State.joining, beq_iff_eq, beq_eq_false_iff_ne] at hs ⊢
    rw [hs]; exact nofun
  have hroll : rollAhead ahead = false := by
    simp only [rollAhead, List.any_eq_false, Bool.and_eq_true, beq_iff_eq, not_and, Bool.not_eq_true]
    exact hr
  rw [poolMayTake, hj, hroll]
  rfl

theorem poolMayTake_of_clear (joining : Bool) (hr : ∀ j ∈ ahead, j.kind = .roll → j.forPeers = false)
    (hp : ∀ j ∈ ahead, j.kind = .imagePart → j.forImage = false) : poolMayTake joining ahead = true := by
  have hroll : rollAhead ahead = false := by
    simp only [rollAhead, List.any_eq_false, Bool.and_eq_true, beq_iff_eq, not_and, Bool.not_eq_true]
    exact hr
  have hpart : (ahead.any fun j => j.kind == .imagePart && j.forImage) = false := by
    simp only [List.any_eq_false, Bool.and_eq_true, beq_iff_eq, not_and, Bool.not_eq_true]
    exact hp
  rw [poolMayTake, hpart, hroll, Bool.and_false]
  rfl

/-! ### The application -/

theorem poolTake_synced (hs : s.synced = true) (hf : parsePool i.kind i.data = some f) :
    poolTake i s = poolNotices i f s.pool.table (applyFrame s.families s.pool.table i.sender i.role f)
      (applyOutcome i f (applyFrame s.families s.pool.table i.sender i.role f) s) := by
  unfold poolTake
  rw [hf]
  exact if_pos hs

theorem poolTake_ignored (hs : s.synced = false) (i : RxItem) : poolTake i s = s := by
  unfold poolTake
  split
  · exact if_neg (by simp [hs])
  · rfl

/-- The own refused frame goes to the record of the unit that sent it, and the application changes the pool engine and one
counter at most. -/
theorem applyOutcome_rest (i : RxItem) (f : PoolFrame) (out : PoolOutcome) (s : State) : applyOutcome i f out s
    = { s with pool := (applyOutcome i f out s).pool, counters := (applyOutcome i f out s).counters } := by
  unfold applyOutcome keepRefusal
  cases out with
  | applied => rfl
  | refused =>
    dsimp only
    split <;> rfl

theorem applyOutcome_synced (i : RxItem) (f : PoolFrame) (out : PoolOutcome) (s : State) :
    (applyOutcome i f out s).synced = s.synced := by
  unfold applyOutcome keepRefusal
  cases out with
  | applied => rfl
  | refused =>
    dsimp only
    split <;> rfl

theorem applyOutcome_refused (i : RxItem) (f : PoolFrame) (reason : PoolRefusal) (s : State) :
    (applyOutcome i f (.refused reason) s).counters.refusals = satInc s.counters.refusals
    ∧ (applyOutcome i f (.refused reason) s).pool = { s.pool with
        headRefusal :=
          match i.own with
          | some (.headUnit h) | some (.swapUnit h) =>
            s.pool.headRefusal.set h (some ⟨i.kind, f.named, reason, i.stamp⟩)
          | _ => s.pool.headRefusal
        storeRefusal :=
          match i.own with
          | some .storeUnit => some ⟨i.kind, f.named, reason, i.stamp⟩
          | _ => s.pool.storeRefusal } := by
  unfold applyOutcome keepRefusal
  dsimp only
  rcases i.own with _ | o
  · exact ⟨rfl, rfl⟩
  · cases o <;> exact ⟨rfl, rfl⟩

end

/-! ## The departure of the item (R34, R37) -/

theorem ask_sync (s : State) : (ask s).pool = { s.pool with sync := (ask s).pool.sync } := by
  unfold ask; dsimp only
  split
  · split
    · rfl
    · split <;> rw [submit_rest] <;> rfl
  · rfl

theorem depart_rest (s : State) : depart s = { s with
    pool := { s.pool with sync := (depart s).pool.sync }, image := (depart s).image, fe := (depart s).fe } := by
  unfold depart deafTest endDeaf; dsimp only
  split
  · rfl
  · split
    · rw [ask_rest, ask_sync]
      rfl
    · rfl

/-- A SYNCED station asks for no image. -/
theorem depart_pool {s : State} (hs : s.synced = true) : (depart s).pool = s.pool := by
  unfold depart deafTest endDeaf; dsimp only
  split
  · rfl
  · split
    · rw [ask_barred]
      · rfl
      · simp [State.mayAsk, hs]
    · rfl

/-- What the taking of an item of the pool engine at a SYNCED station leaves, behind its application. -/
theorem poolTake_kept {s : State} {i : RxItem} {f : PoolFrame} (hs : s.synced = true)
    (hf : parsePool i.kind i.data = some f) :
    StationKept (applyOutcome i f (applyFrame s.families s.pool.table i.sender i.role f) s) (poolTake i s) := by
  rw [poolTake_synced hs hf]
  exact poolNotices_kept _ _ _ _ _


/-- A pool command at a station that is not SYNCED finds no item that it may take, or takes one and ignores it. -/
theorem poolCommand_ignored {s : State} (hs : s.synced = false) (k : Kind) :
    poolCommand k s = s ∨ ∃ q, poolCommand k s = depart (setRxQueue q s) := by
  unfold poolCommand poolTakeNext
  split
  · split
    · split
      · exact .inr ⟨_, by rw [poolTake_ignored (by exact hs)]⟩
      · exact .inl rfl
    · exact .inl rfl
  · exact .inl rfl

/-- Settles O32: a SYNCED station applies the item and its notices leave the pool engine be, by `poolTake_kept`; another
station ignores it, by `poolCommand_ignored`. -/
theorem poolCommandBySyncState : Obligations.PoolCommandBySyncState := by
  unfold Obligations.PoolCommandBySyncState
  refine ⟨fun c k i f ahead behind s hck hl hs hq hahead hi hk hf => ?_, fun c k s hc hs => ?_⟩
  · subst hk
    have hc : poolCommandKind c = some i.kind := by
      generalize i.kind = k at hck
      simp only [List.mem_cons, Prod.mk.injEq, List.not_mem_nil, or_false] at hck
      rcases hck with ⟨rfl, rfl⟩ | ⟨rfl, rfl⟩ | ⟨rfl, rfl⟩ | ⟨rfl, rfl⟩ | ⟨rfl, rfl⟩ | ⟨rfl, rfl⟩ | ⟨rfl, rfl⟩
        | ⟨rfl, rfl⟩ | ⟨rfl, rfl⟩ | ⟨rfl, rfl⟩ <;> rfl
    have hcell := (cellFrame_stable s).poolCommand i.kind s (cellFrame_refl s)
    have hexec := exec_poolCommand hc s
    rw [poolCommand_queue hl hq (fun j hj => (hahead j hj).1) hi
      (poolMayTake_of_synced hs fun j hj => (hahead j hj).2)] at hcell hexec
    have hkept := poolTake_kept (s := setRxQueue (ahead ++ poolServed i :: behind) s) hs hf
    have hsynced : (poolTake i (setRxQueue (ahead ++ poolServed i :: behind) s)).synced = true := by
      rw [State.synced, hkept.pool]
      exact (applyOutcome_synced _ _ _ _).trans hs
    have hpool := (depart_pool hsynced).trans hkept.pool
    have hcounters := (depart_kept _).2.1.trans hkept.counters
    refine ⟨_, hexec, hcell, ?_, ?_, ?_, ?_, fun tab sel hout => ?_, fun reason hout => ?_⟩
    · rw [depart_rest]; exact hkept.line.trans (by rw [applyOutcome_rest]; rfl)
    · rw [depart_rest]; exact hkept.peers.trans (by rw [applyOutcome_rest]; rfl)
    · rw [depart_rest]; exact hkept.lineFault.trans (by rw [applyOutcome_rest]; rfl)
    · rw [depart_rxQueue, poolTake_rxQueue]; rfl
    · have hout' : applyFrame (setRxQueue (ahead ++ poolServed i :: behind) s).families
        (setRxQueue (ahead ++ poolServed i :: behind) s).pool.table i.sender i.role f = .applied tab sel := hout
      rw [hpool, hcounters, hout']
      exact ⟨rfl, rfl⟩
    · have hout' : applyFrame (setRxQueue (ahead ++ poolServed i :: behind) s).families
        (setRxQueue (ahead ++ poolServed i :: behind) s).pool.table i.sender i.role f = .refused reason := hout
      rw [hpool, hcounters, hout']
      exact applyOutcome_refused i f reason _
  · have hcell := (cellFrame_stable s).poolCommand k s (cellFrame_refl s)
    have hkept {t : State} (ht : t = s ∨ ∃ q, t = depart (setRxQueue q s)) :
        t.line = s.line ∧ t.peers = s.peers
        ∧ t.pool.table = s.pool.table ∧ t.pool.generation = s.pool.generation ∧ t.pool.digest = s.pool.digest
        ∧ t.pool.headRefusal = s.pool.headRefusal ∧ t.pool.storeRefusal = s.pool.storeRefusal
        ∧ t.counters.refusals = s.counters.refusals ∧ t.heads = s.heads ∧ t.swaps = s.swaps ∧ t.store = s.store := by
      rcases ht with rfl | ⟨q, rfl⟩
      · exact ⟨rfl, rfl, rfl, rfl, rfl, rfl, rfl, rfl, rfl, rfl, rfl⟩
      · rw [depart_rest]
        exact ⟨rfl, rfl, rfl, rfl, rfl, rfl, rfl, rfl, rfl, rfl, rfl⟩
    obtain ⟨hline, hpeers, htable, hgeneration, hdigest, hheadRefusal, hstoreRefusal, hrefusals, hheads, hswaps, hstore⟩ :=
      hkept (poolCommand_ignored hs k)
    refine ⟨_, exec_poolCommand hc s, hcell, hline, hpeers, htable, hgeneration, hdigest, hheadRefusal, hstoreRefusal,
      hrefusals, hheads, hswaps, hstore,
      fun i ahead behind hl hq hahead hi hk => ?_, fun i hl hd hq hi hp hm hk => ?_⟩
    · subst hk
      rw [poolCommand_queue hl hq (fun j hj => (hahead j hj).1) hi
        (poolMayTake_of_clear _ (fun j hj => (hahead j hj).2.1) fun j hj => (hahead j hj).2.2),
        depart_rxQueue, poolTake_rxQueue]
      rfl
    · subst hk
      rw [poolCommand_queue (ahead := []) hl hq (List.forall_mem_nil _) hi
        (poolMayTake_of_clear _ (List.forall_mem_nil _) (List.forall_mem_nil _)),
        poolTake_ignored (s := setRxQueue ([] ++ [poolServed i]) s) hs]
      refine depart_deafEnds (s := s) (u := setRxQueue [poolServed i] s) (i := poolServed i) hd rfl ?_ rfl rfl rfl
        fun _ => rfl
      simp [RxItem.taken, poolServed, hp, hm]

end Sys2Proof.Machine

namespace Sys2Proof.Machine
open State Sys2Proof.Config

/-! ## One head's view of the notices (R86) -/

section
variable {h k : Head} {s t u : State}

/-- The units of head `h` see no change between `s` and `t`: what changes is the other head's units, the image unit, the
receive queue, the pool's table, a counter, and frames of other senders. -/
structure SeenSame (h : Head) (s t : State) : Prop where
  rest : t = { s with
    heads := t.heads, swaps := t.swaps, image := t.image, pool := t.pool, counters := t.counters
    life := { s.life with pending := t.life.pending }
    fe := { s.fe with
      txQueue := t.fe.txQueue, held := t.fe.held, admissionsDue := t.fe.admissionsDue, rxQueue := t.fe.rxQueue } }
  sync : t.pool.sync = s.pool.sync
  head : t.head h = s.head h
  swap : t.swap h = s.swap h
  pending : ∀ id ∈ s.life.pending, id ∈ t.life.pending
  claims : t.claimQueued (headByte h) = s.claimQueued (headByte h)
  sent : ∀ p, s.submitted (.swapUnit h) p → t.submitted (.swapUnit h) p

namespace SeenSame

theorem refl (h : Head) (s : State) : SeenSame h s s := ⟨rfl, rfl, rfl, rfl, fun _ => id, rfl, fun _ => id⟩

theorem trans (hst : SeenSame h s t) (htu : SeenSame h t u) : SeenSame h s u where
  rest := by rw [htu.rest, hst.rest]
  sync := htu.sync.trans hst.sync
  head := htu.head.trans hst.head
  swap := htu.swap.trans hst.swap
  pending id hid := htu.pending id (hst.pending id hid)
  claims := htu.claims.trans hst.claims
  sent p hp := htu.sent p (hst.sent p hp)

variable (hst : SeenSame h s t)
include hst

theorem condition : t.condition h = s.condition h := by rw [State.condition, hst.head]; rfl
theorem constants : t.constants = s.constants := by rw [hst.rest]
theorem families : t.families = s.families := by rw [hst.rest]
theorem timeBase : t.timeBase = s.timeBase := by rw [hst.rest]
theorem fault : t.life.fault = s.life.fault := by rw [hst.rest]
theorem lineFault : t.lineFault = s.lineFault := by rw [hst.rest]
theorem doubtful : t.fe.doubtful = s.fe.doubtful := by rw [hst.rest]
theorem headsLive : t.headsLive = s.headsLive := by rw [hst.rest]; rfl
theorem station : t.station = s.station := by rw [hst.rest]; rfl
theorem synced : t.synced = s.synced := by rw [State.synced, hst.sync]; rfl

theorem poolBarred : t.poolBarred = s.poolBarred := by
  have hs := hst.synced
  rw [State.poolBarred, State.poolBarred, hs, hst.rest]

theorem claimFamily : t.claimFamily h = s.claimFamily h := by
  rw [State.claimFamily, State.claimFamily, hst.head, hst.constants]

theorem toolOk : t.toolOk h = s.toolOk h := by rw [State.toolOk, State.toolOk, hst.headsLive, hst.condition]

end SeenSame

theorem HeadNoticed.seen (ht : HeadNoticed k s t) (hk : k ≠ h) : SeenSame h s t where
  rest := by rw [ht.rest]
  sync := by rw [ht.kept.pool]
  head := ht.head h hk.symm
  swap := ht.swap h hk.symm
  pending := ht.pending
  claims := ht.claims h hk.symm
  sent _ hp := ht.frames.submitted (fun ho => hk (Origin.swapUnit.inj ho).symm) hp

theorem ImageMoved.seen (ht : ImageMoved s t) : SeenSame h s t where
  rest := by rw [ht.rest]
  sync := by rw [ht.rest]
  head := by rw [ht.rest]; rfl
  swap := by rw [ht.rest]; rfl
  pending := by rw [ht.rest]; exact fun _ => id
  claims := ht.claims _
  sent _ hp := ht.frames.submitted nofun hp

theorem HeadNoticed.headsLive (ht : HeadNoticed k s t) : t.headsLive = s.headsLive := by rw [ht.rest]; rfl

/-- Both heads in turn: what one head does stands between changes that it does not see. -/
theorem bothSwaps_at {g : Head → State → State} (hg : ∀ k s, HeadNoticed k s (g k s)) (hl : s.headsLive = true)
    (h : Head) : ∃ u, SeenSame h s u ∧ u.pool = s.pool ∧ SeenSame h (g h u) (bothSwaps g s) := by
  unfold bothSwaps
  rw [if_pos hl]
  cases h with
  | h0 => exact ⟨s, .refl _ s, rfl, (hg .h1 _).seen nofun⟩
  | h1 => exact ⟨g .h0 s, (hg .h0 s).seen nofun, (hg .h0 s).kept.pool, .refl _ _⟩

end

/-! ## The way of a pool frame through the units of a station -/

section
variable {s : State} {c : Instr} {i : RxItem} {f : PoolFrame} {out : PoolOutcome} {tab : Table} {sel : Option Entry}
  {reason : PoolRefusal}

theorem notBarred (hb : s.poolBarred = false) : s.synced = true ∧ s.fe.deaf = false := by
  simp only [State.poolBarred, Bool.or_eq_false_iff, Bool.not_eq_false'] at hb
  exact ⟨hb.1.1.1, hb.1.1.2⟩

/-- A pool frame is the next item of a station that takes it. -/
structure Takes (c : Instr) (i : RxItem) (f : PoolFrame) (out : PoolOutcome) (s : State) : Prop where
  live : s.isLive = true
  kind : poolCommandKind c = some i.kind
  next : s.nextPoolItem i
  frame : parsePool i.kind i.data = some f
  unbarred : s.poolBarred = false
  line : s.lineFault = false
  out : applyFrame s.families s.pool.table i.sender i.role f = out

/-- The frame is applied, and the units take their notices. -/
theorem Takes.runs (ht : Takes c i f out s) : ∃ q q', exec c s
    = .next (setRxQueue q' (poolNotices i f s.pool.table out (applyOutcome i f out (setRxQueue q s)))) := by
  obtain ⟨hsynced, hdeaf⟩ := notBarred ht.unbarred
  obtain ⟨ahead, behind, hq, hm⟩ := ht.next
  have hkept := poolTake_kept (s := setRxQueue (ahead ++ poolServed i :: behind) s) hsynced ht.frame
  have hhears := hkept.deaf
  rw [applyOutcome_rest] at hhears
  have hout : applyFrame (setRxQueue (ahead ++ poolServed i :: behind) s).families
    (setRxQueue (ahead ++ poolServed i :: behind) s).pool.table i.sender i.role f = out := ht.out
  have hexec := exec_poolCommand ht.kind s
  rw [poolCommand_split ht.live hq hm, depart_hearing (hhears.trans hdeaf),
    poolTake_synced (s := setRxQueue (ahead ++ poolServed i :: behind) s) hsynced ht.frame, hout] at hexec
  exact ⟨_, _, hexec⟩

theorem setRxQueue_seen (h : Head) (q : List RxItem) (s : State) : SeenSame h s (setRxQueue q s) :=
  ⟨rfl, rfl, rfl, rfl, fun _ => id, rfl, fun _ => id⟩

theorem applyOutcome_sync (i : RxItem) (f : PoolFrame) (out : PoolOutcome) (s : State) :
    (applyOutcome i f out s).pool.sync = s.pool.sync := by
  unfold applyOutcome keepRefusal
  cases out with
  | applied => rfl
  | refused =>
    dsimp only
    split <;> rfl

theorem applyOutcome_seen (h : Head) (i : RxItem) (f : PoolFrame) (out : PoolOutcome) (s : State) :
    SeenSame h s (applyOutcome i f out s) := by
  have hsync := applyOutcome_sync i f out s
  have hrest := applyOutcome_rest i f out s
  generalize applyOutcome i f out s = t at hsync hrest
  refine ⟨by rw [hrest], hsync, ?_, ?_, ?_, ?_, ?_⟩ <;> rw [hrest]
  exacts [rfl, rfl, fun _ => id, rfl, fun _ => id]

theorem storeNotices_idle (hl : s.headsLive = true) (i : RxItem) (f : PoolFrame) (before : Table) (out : PoolOutcome) :
    storeNotices i f before out s = s := by
  unfold storeNotices
  rw [headsLive_not_storeLive s hl]
  rfl

/-- The family notice of a frame at one head (R89). -/
def headFamily (f : PoolFrame) (t : Table) (h : Head) (s : State) : State :=
  match f with
  | .enter serial .. | .rack serial _ =>
    match findSerial t serial with
    | some e => familyNotice e.family h s
    | none => s
  | _ => s

theorem familyNotices_eq (f : PoolFrame) (t : Table) (s : State) : familyNotices f t s = bothSwaps (headFamily f t) s := by
  have hnone : s = bothSwaps (fun _ s => s) s := by
    unfold bothSwaps
    split <;> rfl
  unfold familyNotices headFamily
  cases f with
  | enter serial | rack serial =>
    dsimp only
    cases findSerial t serial with
    | some e => rfl
    | none => exact hnone
  | _ => exact hnone

theorem headFamily_noticed (f : PoolFrame) (t : Table) (h : Head) (s : State) : HeadNoticed h s (headFamily f t h s) := by
  unfold headFamily
  split
  · split
    exacts [familyNotice_noticed _ h s, .refl h s]
  · split
    exacts [familyNotice_noticed _ h s, .refl h s]
  · exact .refl h s

/-- At a grinder head `h` sees a refused frame by its own notices alone. -/
theorem Takes.head_refused (ht : Takes c i f (.refused reason) s) (hl : s.headsLive = true) (h : Head) :
    ∃ u t, exec c s = .next t ∧ SeenSame h s u ∧ SeenSame h (headNotices i f (.refused reason) h u) t := by
  obtain ⟨q, q', hexec⟩ := ht.runs
  have hseen := (setRxQueue_seen h q s).trans (applyOutcome_seen h i f (.refused reason) _)
  have hlive := hseen.headsLive.trans hl
  obtain ⟨u, hu, -, hv⟩ := bothSwaps_at (headNotices_noticed i f (.refused reason)) hlive h
  have hlive' := hv.headsLive.trans ((headNotices_noticed i f (.refused reason) h u).headsLive.trans
    (hu.headsLive.trans hlive))
  refine ⟨u, _, hexec, hseen.trans hu, hv.trans ?_⟩
  rw [poolNotices_refused, storeNotices_idle hlive']
  exact setRxQueue_seen h q' _

/-- At a grinder head `h` sees an applied frame by its own notices and the family notice alone. -/
theorem Takes.head_applied (ht : Takes c i f (.applied tab sel) s) (hl : s.headsLive = true) (h : Head) :
    ∃ u w t, exec c s = .next t ∧ SeenSame h s u ∧ u.pool.table = tab
      ∧ SeenSame h (headNotices i f (.applied tab sel) h u) w ∧ SeenSame h (headFamily f tab h w) t := by
  obtain ⟨q, q', hexec⟩ := ht.runs
  have hseen := (setRxQueue_seen h q s).trans (applyOutcome_seen h i f (.applied tab sel) _)
  have hlive := hseen.headsLive.trans hl
  obtain ⟨u, hu, hpool, hv⟩ := bothSwaps_at (headNotices_noticed i f (.applied tab sel)) hlive h
  have hlive' := hv.headsLive.trans ((headNotices_noticed i f (.applied tab sel) h u).headsLive.trans
    (hu.headsLive.trans hlive))
  obtain ⟨w, hw, -, hx⟩ := bothSwaps_at (headFamily_noticed f tab) hlive' h
  refine ⟨u, w, _, hexec, hseen.trans hu, by rw [hpool]; rfl, hv.trans hw, hx.trans ?_⟩
  rw [poolNotices_applied, storeNotices_idle hlive', familyNotices_eq]
  exact (generationNotice_moved _).seen.trans (setRxQueue_seen h q' _)

end
end Sys2Proof.Machine

namespace Sys2Proof.Machine
open State Sys2Proof.Config

/-! ## A swap unit that moves alone (R152, R153) -/

/-- The station makes pool frames, and refuses none at once but for a second CLAIM (R32). -/
structure Sends (s : State) : Prop where
  unbarred : s.poolBarred = false
  line : s.lineFault = false

/-- The CLAIM that swap unit `h` submits for a family (R153). -/
def claimOf (h : Head) (family : BitVec 4) : PoolFrame := .claim (headByte h) (familyByte family)

/-- Swap unit `h` has given its CLAIM and waits for its outcome. -/
structure ClaimGone (h : Head) (family : BitVec 4) (t : State) : Prop where
  state : (t.swap h).state = .claiming
  held : (t.swap h).held = none
  outstanding : (t.swap h).outstanding = some ⟨claimOf h family, false, .claiming⟩
  sent : t.submitted (.swapUnit h) (.pool (claimOf h family))

/-- State `t` is `s` but for swap unit `h` and frames that are withdrawn. -/
structure SwapMoved (h : Head) (s t : State) : Prop where
  rest : t = { s with
    swaps := t.swaps
    fe := { s.fe with txQueue := t.fe.txQueue, held := t.fe.held, admissionsDue := t.fe.admissionsDue } }
  claims : t.claimQueued (headByte h) = s.claimQueued (headByte h)

section
variable {h : Head} {s t u : State} {x : Serial} {w : Want} {family : BitVec 4} {counted : Bool} {f : PoolFrame}

theorem ClaimGone.seen (ht : ClaimGone h family t) (htu : SeenSame h t u) : ClaimGone h family u where
  state := by rw [htu.swap]; exact ht.state
  held := by rw [htu.swap]; exact ht.held
  outstanding := by rw [htu.swap]; exact ht.outstanding
  sent := htu.sent _ ht.sent

theorem Sends.seen (hs : Sends s) (ht : SeenSame h s t) : Sends t :=
  ⟨ht.poolBarred.trans hs.unbarred, ht.lineFault.trans hs.line⟩

theorem Sends.synced (hs : Sends s) : s.synced = true := (notBarred hs.unbarred).1

theorem Sends.takes (hs : Sends s) (hf : f.kind ≠ .claim) : s.refusedAtOnce (.pool f) = false := by
  rw [refusedAtOnce_other hf, hs.unbarred, hs.line]
  rfl

theorem Sends.takesClaim (hs : Sends s) (hq : s.claimQueued (headByte h) = false) :
    s.refusedAtOnce (.pool (claimOf h family)) = false := by
  rw [claimOf, refusedAtOnce_claim, hs.unbarred, hs.line, hq]
  rfl

namespace SwapMoved

theorem refl (h : Head) (s : State) : SwapMoved h s s := ⟨rfl, rfl⟩

theorem trans (hst : SwapMoved h s t) (htu : SwapMoved h t u) : SwapMoved h s u :=
  ⟨by rw [htu.rest, hst.rest], htu.claims.trans hst.claims⟩

theorem mapSwap (ht : SwapMoved h s t) (g : SwapUnit → SwapUnit) : SwapMoved h s (t.mapSwap h g) :=
  ⟨by unfold State.mapSwap; rw [ht.rest], ht.claims⟩

theorem withdraw (ht : SwapMoved h s t) {p : Origin → Payload → Bool}
    (hp : ∀ o head family, p o (.pool (.claim head family)) = false) : SwapMoved h s (withdrawFrames p t) :=
  ⟨by unfold withdrawFrames State.mapFe; rw [ht.rest]; rfl,
    (withdrawFrames_claimQueued (fun o family => hp o _ family) t).trans ht.claims⟩

theorem dropHeld (ht : SwapMoved h s t) : SwapMoved h s (dropHeld h t) := by
  unfold Machine.dropHeld
  split
  · exact ht
  · exact (ht.withdraw fun _ _ _ => Bool.and_false _).mapSwap _

theorem dropCounted (ht : SwapMoved h s t) (counted : Bool) : SwapMoved h s (dropCounted h counted t) := by
  unfold Machine.dropCounted; dsimp only
  split
  exacts [ht.dropHeld.mapSwap _, ht.dropHeld]

variable (ht : SwapMoved h s t)
include ht

theorem head (k : Head) : t.head k = s.head k := by rw [ht.rest]; rfl
theorem condition (k : Head) : t.condition k = s.condition k := by rw [ht.rest]; rfl
theorem claimFamily (k : Head) : t.claimFamily k = s.claimFamily k := by rw [ht.rest]; rfl
theorem headsLive : t.headsLive = s.headsLive := by rw [ht.rest]; rfl
theorem doubtful : t.fe.doubtful = s.fe.doubtful := by rw [ht.rest]
theorem sends (hs : Sends s) : Sends t := by rw [ht.rest]; exact ⟨hs.unbarred, hs.line⟩
theorem pool : t.pool = s.pool := by rw [ht.rest]

end SwapMoved

/-! ### A frame called for -/

/-- A change of a swap unit that leaves it as it was. -/
theorem mapSwap_same {g : SwapUnit → SwapUnit} (hg : g (s.swap h) = s.swap h) : s.mapSwap h g = s := by
  have hset : s.mapSwap h g = { s with swaps := s.swaps.set h (g (s.swap h)) } := rfl
  rw [hset, hg]
  cases h <;> rfl

theorem mapSwap_mapSwap (g k : SwapUnit → SwapUnit) (s : State) :
    (s.mapSwap h g).mapSwap h k = s.mapSwap h fun u => k (g u) := by
  cases h <;> rfl

/-- A frame that a quiet unit calls for goes at once. -/
theorem swapWant_goes (hw : (s.swap h).wants = []) (ho : (s.swap h).outstanding = none)
    (hf : s.wantWaits h w = false) : swapWant h w s = takeWant h w s := by
  generalize ha : s.mapSwap h (fun u => { u with wants := if w ∈ u.wants then u.wants else u.wants ++ [w] }) = a
  have has : a.swap h = { s.swap h with wants := [w] } := by rw [← ha, mapSwap_swap_self, hw]; rfl
  have hah : a.head h = s.head h := by rw [← ha]; rfl
  have hwaits : a.wantWaits h w = s.wantWaits h w := by
    unfold State.wantWaits State.reportUnsettled
    rw [has, hah]
  have hback : a.mapSwap h (fun u => { u with wants := [] }) = s := by
    rw [← ha, mapSwap_mapSwap]
    exact mapSwap_same (by dsimp only; rw [← hw])
  rw [swapWant, ha, swapPump_single (by rw [has]) (by rw [has]; exact ho) (hwaits.trans hf), hback]

theorem swapFrameEnded_quiet (hw : (s.swap h).wants = []) : swapFrameEnded h s = claimTest h s := by
  rw [swapFrameEnded, swapPump_nil hw]

theorem claimTest_stays (hm : s.mayClaim h = false) : claimTest h s = s := if_neg (by rw [hm]; nofun)

theorem mayClaim_of_state (hs : (s.swap h).state ≠ .idle) : s.mayClaim h = false := by simp [State.mayClaim, hs]

theorem mayClaim_of_need (hn : needsSister (s.condition h) = false) : s.mayClaim h = false := by simp [State.mayClaim, hn]

theorem mayClaim_of_doubtful (hd : s.fe.doubtful = true) : s.mayClaim h = false := by simp [State.mayClaim, hd]

/-- The conditions of R153, met. -/
theorem mayClaim_of (hl : s.headsLive = true) (hs : (s.swap h).state = .idle) (hn : needsSister (s.condition h) = true)
    (hsync : s.synced = true) (hd : s.fe.doubtful = false) (hx : (s.swap h).held = none)
    (ho : (s.swap h).outstanding = none) (hr : (s.swap h).retries = []) (hdec : (s.head h).declare = none) :
    s.mayClaim h = true := by
  simp [State.mayClaim, SwapUnit.mismatchWaiting, hl, hs, hn, hsync, hd, hx, ho, hr, hdec]

/-- A unit that is not IDLE, with no frame called for, is done with the frame that has ended. -/
theorem swapFrameEnded_done (hw : (s.swap h).wants = []) (hs : (s.swap h).state ≠ .idle) : swapFrameEnded h s = s := by
  rw [swapFrameEnded_quiet hw, claimTest_stays (mayClaim_of_state hs)]

theorem submitRetryable_swap (hs : Sends s) (hf : f.kind ≠ .claim) : (submitRetryable h f s).swap h
    = { s.swap h with outstanding := some ⟨f, false, (s.swap h).state⟩ } := by
  have hswap : (submit (.swapUnit h) (.pool f) s).1.swap h = s.swap h := by rw [submit_rest]; rfl
  rw [submitRetryable_taken (hs.takes hf), mapSwap_swap_self, hswap]

/-! ### The CLAIM -/

/-- The unit with its CLAIM outstanding. -/
def SwapUnit.claiming (u : SwapUnit) (h : Head) (family : BitVec 4) : SwapUnit :=
  { u with state := .claiming, outstanding := some ⟨claimOf h family, false, .claiming⟩ }

theorem submitClaim_taken (hs : Sends s) (hq : s.claimQueued (headByte h) = false) :
    submitClaim h s = (submit (.swapUnit h) (.pool (claimOf h (s.claimFamily h))) s).1.mapSwap h fun u =>
      u.claiming h (s.claimFamily h) := by
  have htaken := submit_taken (hs.takesClaim (family := s.claimFamily h) hq) (.swapUnit h)
  unfold submitClaim; dsimp only
  split
  next hnot => exact absurd hnot htaken
  all_goals rfl

theorem submitClaim_swap (hs : Sends s) (hq : s.claimQueued (headByte h) = false) :
    (submitClaim h s).swap h = (s.swap h).claiming h (s.claimFamily h) := by
  rw [submitClaim_taken hs hq, mapSwap_swap_self, submit_rest]
  rfl

theorem submitClaim_gone (hs : Sends s) (hq : s.claimQueued (headByte h) = false) (hx : (s.swap h).held = none) :
    ClaimGone h (s.claimFamily h) (submitClaim h s) := by
  have hswap := submitClaim_swap hs hq
  refine ⟨by rw [hswap]; rfl, by rw [hswap]; exact hx, by rw [hswap]; rfl, ?_⟩
  rw [submitClaim_taken hs hq]
  exact submit_submitted (hs.takesClaim hq)

/-- A new CLAIM is called for in CLAIMING, and goes where the head needs a sister or the unit gave its wheel up itself. -/
theorem swapWant_claims (hc : w = .claim ∨ w = .claimAgain) (hst : (s.swap h).state = .claiming)
    (hw : (s.swap h).wants = []) (ho : (s.swap h).outstanding = none) (hd : (s.head h).declare = none)
    (hn : needsSister (s.condition h) = true ∨ w = .claimAgain) : swapWant h w s = submitClaim h s := by
  have hcalls : s.stillCalls h w = true := by rcases hc with rfl | rfl <;> simp [State.stillCalls, hst]
  have htake : takeWant h w s = submitClaim h s := by
    unfold takeWant
    rcases hc with rfl | rfl <;> dsimp only <;> rw [if_pos hcalls, if_pos hn]
  rw [swapWant_goes hw ho (by rcases hc with rfl | rfl <;> simp [State.wantWaits, hd]), htake]

/-! ### The wheel that is dropped -/

/-- The unit without its wheel (R152), where it has no frame outstanding and none called for. -/
def SwapUnit.dropped (u : SwapUnit) : SwapUnit :=
  { u with held := none, claimStamp := none, lifetime := none, window := .stopped, notNeeded := false
           retries := u.retries.filter fun r => r.frame.kind == .quarantine }

theorem dropHeld_swap (hx : (s.swap h).held = some x) (hw : (s.swap h).wants = [])
    (ho : (s.swap h).outstanding = none) : (dropHeld h s).swap h = (s.swap h).dropped := by
  have hdrop {a : State} (hs : a.swap h = s.swap h) : (a.mapSwap h fun u =>
      { u with
        held := none, claimStamp := none, lifetime := none, window := .stopped, notNeeded := false
        wants := u.wants.filter Want.isMismatch
        retries := u.retries.filter fun r => r.frame.kind == .quarantine
        outstanding :=
          match u.outstanding with
          | some o => if namesHeld x o.frame && !o.sent then none else some o
          | none => none }).swap h = (s.swap h).dropped := by
    rw [mapSwap_swap_self, hs, hw, ho, SwapUnit.dropped]
    exact congrArg₂ (fun ws o => { (s.swap h).dropped with wants := ws, outstanding := o }) hw.symm ho.symm
  unfold dropHeld
  split
  next hn => exact absurd (hx.symm.trans hn) nofun
  next y hy =>
    obtain rfl := Option.some.inj (hx.symm.trans hy)
    exact hdrop rfl

theorem dropCounted_swap (hx : (s.swap h).held = some x) (hw : (s.swap h).wants = [])
    (ho : (s.swap h).outstanding = none) : (dropCounted h counted s).swap h = { (s.swap h).dropped with
      attempts := if counted then min 3 ((s.swap h).attempts + 1) else (s.swap h).attempts } := by
  have hdrop := dropHeld_swap hx hw ho
  unfold dropCounted
  cases counted with
  | true => rw [if_pos rfl, mapSwap_swap_self, hdrop]; rfl
  | false => rw [if_neg Bool.false_ne_true, hdrop]; rfl

/-- The wheel is given up in MOUNTING (R162). -/
theorem failMount_swap (hx : (s.swap h).held = some x) (hw : (s.swap h).wants = [])
    (ho : (s.swap h).outstanding = none) : (failMount h s).swap h = { (s.swap h).dropped with state := .failed } := by
  rw [failMount, setSwapState, mapSwap_swap_self, dropHeld_swap hx hw ho]

end
end Sys2Proof.Machine

namespace Sys2Proof.Machine
open State Sys2Proof.Config

/-! ## The claim test (R153) -/

section
variable {h : Head} {s t u : State} {x : Serial} {w : Want} {counted : Bool} {f : PoolFrame} {e : Entry}

/-- What a claim test leaves of its swap unit. -/
structure ClaimTested (h : Head) (s t : State) : Prop where
  rest : t = { s with swaps := t.swaps, fe := { s.fe with txQueue := t.fe.txQueue, held := t.fe.held } }
  held : (t.swap h).held = (s.swap h).held
  attempts : (t.swap h).attempts = (s.swap h).attempts
  wants : (t.swap h).wants = (s.swap h).wants
  tagDeclare : (t.swap h).tagDeclare = (s.swap h).tagDeclare

theorem submitClaim_tested (h : Head) (s : State) :
    ClaimTested h s (submitClaim h s) ∧ ((submitClaim h s).swap h).state ≠ .idle := by
  have hmapped {v : State} (hv : v = { s with fe := { s.fe with txQueue := v.fe.txQueue, held := v.fe.held } })
      {g : SwapUnit → SwapUnit} (hg : ∀ u, (g u).held = u.held ∧ (g u).attempts = u.attempts ∧ (g u).wants = u.wants
        ∧ (g u).tagDeclare = u.tagDeclare ∧ (g u).state ≠ .idle) :
      ClaimTested h s (v.mapSwap h g) ∧ ((v.mapSwap h g).swap h).state ≠ .idle := by
    have hsv : v.swap h = s.swap h := by rw [hv]; rfl
    obtain ⟨hheld, hattempts, hwants, htag, hstate⟩ := hg (s.swap h)
    have hswap : (v.mapSwap h g).swap h = g (s.swap h) := by rw [mapSwap_swap_self, hsv]
    refine ⟨⟨?_, by rw [hswap, hheld], by rw [hswap, hattempts], by rw [hswap, hwants], by rw [hswap, htag]⟩,
      by rw [hswap]; exact hstate⟩
    unfold State.mapSwap
    rw [hv]
  have hsubmit := submit_rest (.swapUnit h) (.pool (.claim (headByte h) (familyByte (s.claimFamily h)))) s
  unfold submitClaim enterBackoff; dsimp only
  split <;> exact hmapped hsubmit fun _ => ⟨rfl, rfl, rfl, rfl, nofun⟩

theorem claimTest_tested (h : Head) (s : State) : ClaimTested h s (claimTest h s) := by
  unfold claimTest
  split
  exacts [(submitClaim_tested h s).1, ⟨rfl, rfl, rfl, rfl, rfl⟩]

/-- A second test behind a claim test finds nothing to do. -/
theorem swapFrameEnded_claimTest (hw : (s.swap h).wants = []) : swapFrameEnded h (claimTest h s) = claimTest h s := by
  rw [swapFrameEnded_quiet ((claimTest_tested h s).wants.trans hw)]
  cases hm : s.mayClaim h with
  | false => rw [claimTest_stays hm, claimTest_stays hm]
  | true =>
    have hgone : claimTest h s = submitClaim h s := if_pos hm
    rw [hgone]
    exact claimTest_stays (mayClaim_of_state (submitClaim_tested h s).2)

/-! ## The own outcome of a CLAIM (R154) -/

/-- The unit in AWAIT with the wheel of an entry. -/
def SwapUnit.awaiting (u : SwapUnit) (e : Entry) (stamp : Time) (length : Nat) : SwapUnit :=
  { u with state := .await, held := some e.serial, heldFamily := e.family, claimStamp := some stamp,
           lifetime := some ⟨stamp, length⟩, window := .stopped, notNeeded := false }

theorem claimApplied_suits {stamp : Time} (hf : e.family = s.claimFamily h) :
    claimApplied h e stamp s = s.mapSwap h fun u => u.awaiting e stamp s.claimLifetime := by
  show suitTest h (s.mapSwap h fun u => u.awaiting e stamp s.claimLifetime) = _
  generalize ha : s.mapSwap h (fun u => u.awaiting e stamp s.claimLifetime) = a
  have has : a.swap h = (s.swap h).awaiting e stamp s.claimLifetime := by rw [← ha, mapSwap_swap_self]
  have hfamily : a.claimFamily h = s.claimFamily h := by rw [← ha]; rfl
  unfold suitTest
  simp [has, hfamily, SwapUnit.awaiting, hf]

/-- A wheel that does not suit is released NOT_NEEDED at once (R165). -/
theorem claimApplied_unsuited {stamp : Time} (hs : Sends s) (hf : e.family ≠ s.claimFamily h)
    (hc : claimedIn s.pool.table e.serial = true) (hw : (s.swap h).wants = []) (ho : (s.swap h).outstanding = none) :
    (claimApplied h e stamp s).swap h = { (s.swap h).awaiting e stamp s.claimLifetime with
      notNeeded := true, outstanding := some ⟨.release e.serial releaseNotNeeded, false, .await⟩ } := by
  show (suitTest h (s.mapSwap h fun u => u.awaiting e stamp s.claimLifetime)).swap h = _
  have hmoved : SwapMoved h s (s.mapSwap h fun u => u.awaiting e stamp s.claimLifetime) := (SwapMoved.refl h s).mapSwap _
  generalize ha : s.mapSwap h (fun u => u.awaiting e stamp s.claimLifetime) = a at hmoved
  have has : a.swap h = (s.swap h).awaiting e stamp s.claimLifetime := by rw [← ha, mapSwap_swap_self]
  have hmark : suitTest h a = markNotNeeded h a := by
    unfold suitTest
    simp [has, hmoved.claimFamily, SwapUnit.awaiting, hf]
  have hmoved := hmoved.mapSwap fun u => { u with notNeeded := true }
  generalize hb : a.mapSwap h (fun u => { u with notNeeded := true }) = b at hmoved
  have hbs : b.swap h = { (s.swap h).awaiting e stamp s.claimLifetime with notNeeded := true } := by
    rw [← hb, mapSwap_swap_self, has]
  have hclaimed : b.heldClaimed h = true := by
    unfold State.heldClaimed
    rw [hbs, hmoved.pool]
    exact hc
  have hcalls : b.stillCalls h .releaseNotNeeded = true := by
    simp [State.stillCalls, State.releasable, hbs, SwapUnit.awaiting, hclaimed]
  have hwant : markNotNeeded h a = swapWant h .releaseNotNeeded b := by
    unfold markNotNeeded
    dsimp only
    rw [hb, hbs]
    exact if_pos hclaimed
  have htake : takeWant h .releaseNotNeeded b = submitRetryable h (.release e.serial releaseNotNeeded) b := by
    unfold takeWant
    dsimp only
    rw [hbs]
    exact if_pos hcalls
  have hgone := submitRetryable_swap (h := h) (f := .release e.serial releaseNotNeeded) (hmoved.sends hs) nofun
  rw [hmark, hwant, swapWant_goes (by rw [hbs]; exact hw) (by rw [hbs]; exact ho) rfl, htake, hgone, hbs]
  rfl

theorem claimRefused_swap {family : Byte} (hst : (s.swap h).state = .claiming) :
    (claimRefused h family s).swap h = { s.swap h with
      state := .backoff, backoff := some ⟨s.timeBase, 10 * (s.constants.rollIntervalMs * 1000)⟩
      backoffFamily := family.setWidth 4, backoffEnded := false } := by
  unfold claimRefused
  rw [if_pos hst, enterBackoff, mapSwap_swap_self]
  rfl

/-! ## The wheel that is lost or given up (R156, R157, R161, R165) -/

/-- The count of attempts behind a wheel that is dropped. -/
def SwapUnit.attemptsAfter (u : SwapUnit) (counted : Bool) : Nat := if counted then u.attempts + 1 else u.attempts

theorem claimAnew_claims (ha : (s.swap h).attempts ≠ 3) (hc : w = .claim ∨ w = .claimAgain)
    (hw : (s.swap h).wants = []) (ho : (s.swap h).outstanding = none) (hd : (s.head h).declare = none)
    (hn : needsSister (s.condition h) = true ∨ w = .claimAgain) :
    claimAnew h w s = submitClaim h (setSwapState h .claiming s) := by
  unfold claimAnew
  rw [if_neg ha]
  refine swapWant_claims hc ?_ ?_ ?_ hd hn
  · rw [setSwapState, mapSwap_swap_self]
  · rw [setSwapState, mapSwap_swap_self]; exact hw
  · rw [setSwapState, mapSwap_swap_self]; exact ho

section
variable (hx : (s.swap h).held = some x) (hw : (s.swap h).wants = []) (ho : (s.swap h).outstanding = none)
include hx hw ho

/-- The unit drops its wheel and claims another. -/
theorem claimAnew_gone (hs : Sends s) (hq : s.claimQueued (headByte h) = false) (hd : (s.head h).declare = none)
    (hc : w = .claim ∨ w = .claimAgain) (hn : needsSister (s.condition h) = true ∨ w = .claimAgain)
    (hlt : (s.swap h).attemptsAfter counted < 3) :
    let t := claimAnew h w (dropCounted h counted s)
    ClaimGone h (s.claimFamily h) t ∧ (t.swap h).attempts = (s.swap h).attemptsAfter counted ∧ (t.swap h).wants = [] := by
  intro t
  have hmoved := (SwapMoved.refl h s).dropCounted counted
  have hdrop := dropCounted_swap (counted := counted) hx hw ho
  generalize hdd : dropCounted h counted s = d at hmoved hdrop
  have hattempts : (d.swap h).attempts = (s.swap h).attemptsAfter counted := by
    rw [hdrop]
    unfold SwapUnit.attemptsAfter at hlt ⊢
    dsimp only
    split
    next hcounted => rw [if_pos hcounted] at hlt; exact Nat.min_eq_right (Nat.le_of_lt hlt)
    next => rfl
  have ht : t = submitClaim h (setSwapState h .claiming d) := by
    show claimAnew h w (dropCounted h counted s) = _
    rw [hdd]
    refine claimAnew_claims (by rw [hattempts]; exact Nat.ne_of_lt hlt) hc (by rw [hdrop]; exact hw)
      (by rw [hdrop]; exact ho) (by rw [hmoved.head]; exact hd) (by rw [hmoved.condition]; exact hn)
  have hmoved' : SwapMoved h s (setSwapState h .claiming d) := hmoved.mapSwap _
  have hswap : (setSwapState h .claiming d).swap h = { d.swap h with state := .claiming } := by
    rw [setSwapState, mapSwap_swap_self]
  have hq' := hmoved'.claims.trans hq
  have hgone := submitClaim_gone (hmoved'.sends hs) hq' (by rw [hswap, hdrop]; rfl)
  have htested := (submitClaim_tested h (setSwapState h .claiming d)).1
  rw [ht]
  refine ⟨?_, ?_, ?_⟩
  · rw [hmoved'.claimFamily] at hgone; exact hgone
  · rw [htested.attempts, hswap]; exact hattempts
  · rw [htested.wants, hswap, hdrop]; exact hw

/-- At a count of 3 the unit fails (R156, R157, R161). -/
theorem claimAnew_fails (h3 : (s.swap h).attemptsAfter counted = 3) (w : Want) :
    (claimAnew h w (dropCounted h counted s)).swap h
      = { (s.swap h).dropped with attempts := 3, state := .failed } := by
  have hdrop := dropCounted_swap (counted := counted) hx hw ho
  have hattempts : (if counted then min 3 ((s.swap h).attempts + 1) else (s.swap h).attempts) = 3 := by
    unfold SwapUnit.attemptsAfter at h3
    split
    next hcounted => rw [if_pos hcounted] at h3; rw [h3]; rfl
    next hcounted => rw [if_neg hcounted] at h3; exact h3
  rw [hattempts] at hdrop
  unfold claimAnew
  rw [if_pos (by rw [hdrop]), setSwapState, mapSwap_swap_self, hdrop]

/-- The wheel is dropped for IDLE. -/
theorem idleDropped_swap :
    (setSwapState h .idle (dropHeld h s)).swap h = { (s.swap h).dropped with state := .idle } := by
  rw [setSwapState, mapSwap_swap_self, dropHeld_swap hx hw ho]

theorem dropToIdle_stays (hm : (setSwapState h .idle (dropHeld h s)).mayClaim h = false) :
    (swapFrameEnded h (dropToIdle h s)).swap h = { (s.swap h).dropped with state := .idle } := by
  have hidle := idleDropped_swap hx hw ho
  rw [dropToIdle, swapFrameEnded_claimTest (by rw [hidle]; exact hw), claimTest_stays hm, hidle]

/-- A wheel that was not needed is followed by a CLAIM where the head needs a sister again (R153, R165). -/
theorem dropToIdle_gone (hs : Sends s) (hl : s.headsLive = true) (hn : needsSister (s.condition h) = true)
    (hd : s.fe.doubtful = false) (hr : (s.swap h).retries = []) (hq : s.claimQueued (headByte h) = false)
    (hdec : (s.head h).declare = none) :
    let t := swapFrameEnded h (dropToIdle h s)
    ClaimGone h (s.claimFamily h) t ∧ t.swap h
      = SwapUnit.claiming { (s.swap h).dropped with state := .idle } h (s.claimFamily h) := by
  intro t
  have hidle := idleDropped_swap hx hw ho
  have hmoved : SwapMoved h s (setSwapState h .idle (dropHeld h s)) := (SwapMoved.refl h s).dropHeld.mapSwap _
  have ht : t = claimTest h (setSwapState h .idle (dropHeld h s)) :=
    swapFrameEnded_claimTest (by rw [hidle]; exact hw)
  generalize setSwapState h .idle (dropHeld h s) = d at hidle hmoved ht
  have hm : d.mayClaim h = true := by
    refine mayClaim_of (hmoved.headsLive.trans hl) (by rw [hidle]) (by rw [hmoved.condition]; exact hn)
      (hmoved.sends hs).synced (hmoved.doubtful.trans hd) (by rw [hidle]; rfl) (by rw [hidle]; exact ho) ?_
      (by rw [hmoved.head]; exact hdec)
    rw [hidle, SwapUnit.dropped, hr]
    rfl
  have hgone := submitClaim_gone (hmoved.sends hs) (hmoved.claims.trans hq) (by rw [hidle]; rfl)
  have hswap := submitClaim_swap (hmoved.sends hs) (hmoved.claims.trans hq)
  rw [hmoved.claimFamily] at hgone hswap
  rw [ht, claimTest, if_pos hm]
  exact ⟨hgone, by rw [hswap, hidle]⟩

end
end
end Sys2Proof.Machine

namespace Sys2Proof.Machine
open State Sys2Proof.Config

/-! ## A record made from an entry (R130, R162, R164) -/

section
variable {h : Head} {s t : State} {x : Serial} {w : Want} {counted : Bool} {f : PoolFrame} {e : Entry}

theorem exchangeTest_other (hs : (s.swap h).state ≠ .delivered) : exchangeTest h s = s := if_neg fun hc => hs hc.1

theorem suitTest_empty (hx : (s.swap h).held = none) : suitTest h s = s := by
  unfold suitTest
  simp [hx]

/-- An IDLE unit changes at most its not-needed flag, and frames called for no more, as its wheel is compared. -/
theorem suitTest_idle (hs : (s.swap h).state = .idle) (hw : (s.swap h).wants = []) : ∃ g : SwapUnit → SwapUnit,
    suitTest h s = s.mapSwap h g ∧ (g (s.swap h)).state = .idle ∧ (g (s.swap h)).wants = []
      ∧ (g (s.swap h)).tagDeclare = (s.swap h).tagDeclare ∧ (g (s.swap h)).backoff = (s.swap h).backoff := by
  have hsame : s = s.mapSwap h id := (mapSwap_same rfl).symm
  unfold suitTest
  dsimp only
  split
  · exact ⟨id, hsame, hs, hw, rfl, rfl⟩
  · split
    · split
      · exact ⟨id, hsame, hs, hw, rfl, rfl⟩
      · refine ⟨fun u => { u with notNeeded := true }, ?_, hs, hw, rfl, rfl⟩
        unfold markNotNeeded
        simp only [mapSwap_swap_self, hs]
    · split
      · have hback : ((s.swap h).state == .confirming && (s.swap h).window == .stopped) = false := by rw [hs]; rfl
        have hstate : (s.swap h).goesOn.state = .idle := by
          unfold SwapUnit.goesOn
          rw [hback]
          exact hs
        refine ⟨SwapUnit.goesOn, exchangeTest_other (by rw [mapSwap_swap_self, hstate]; exact nofun), hstate, ?_, rfl, rfl⟩
        show (s.swap h).wants.filter _ = []
        rw [hw]
        rfl
      · exact ⟨id, hsame, hs, hw, rfl, rfl⟩

/-- The record is made from the entry, and its checkpoint requested, before the swap unit is told (R130). -/
def recordMade (h : Head) (e : Entry) (s : State) : State :=
  requestCheckpoint (headId h) (s.mapHead h fun u =>
    { u with record := some (newRecord s.families e), cycle := none, report := .none, reportRetry := none })

theorem replaceRecord_eq (h : Head) (e : Entry) (s : State) : replaceRecord h e s = swapNews h (recordMade h e s) := rfl

theorem recordMade_head (h : Head) (e : Entry) (s : State) : (recordMade h e s).head h = { s.head h with
    record := some (newRecord s.families e), cycle := none, report := .none, reportRetry := none } := by
  have hhead (a : State) : (requestCheckpoint (headId h) a).head h = a.head h := by rw [requestCheckpoint_rest]; rfl
  rw [recordMade, hhead, mapHead_head_self]

theorem recordMade_condition (h : Head) (e : Entry) (s : State) :
    (recordMade h e s).condition h = some (newRecord s.families e).condition := by
  rw [State.condition, recordMade_head]
  rfl

theorem recordMade_pending (hf : s.life.fault = false) (h : Head) (e : Entry) :
    headId h ∈ (recordMade h e s).life.pending :=
  requestCheckpoint_mem hf

theorem recordMade_rest (h : Head) (e : Entry) (s : State) : recordMade h e s
    = { s with heads := (recordMade h e s).heads, life := (recordMade h e s).life } := by
  rw [recordMade, requestCheckpoint_rest]
  rfl

theorem recordMade_swap (h : Head) (e : Entry) (s : State) : (recordMade h e s).swap h = s.swap h := by
  rw [recordMade_rest]
  rfl

/-- What is seen of a head whose record was made from an entry. -/
structure RecordMade (h : Head) (record : HeadRecord) (s t : State) : Prop where
  record : (t.head h).record = some record
  cycle : (t.head h).cycle = none
  report : (t.head h).report = .none
  pending : s.life.fault = false → headId h ∈ t.life.pending

theorem recordMade_made (h : Head) (e : Entry) (s : State) :
    RecordMade h (newRecord s.families e) s (recordMade h e s) :=
  ⟨by rw [recordMade_head], by rw [recordMade_head], by rw [recordMade_head], fun hf => recordMade_pending hf h e⟩

theorem RecordMade.of_eq {u v : State} {r : HeadRecord} (ht : RecordMade h r s t) (hhead : u.head h = t.head h)
    (hpending : ∀ id ∈ t.life.pending, id ∈ u.life.pending) (hfault : v.life.fault = s.life.fault) :
    RecordMade h r v u :=
  ⟨by rw [hhead]; exact ht.record, by rw [hhead]; exact ht.cycle, by rw [hhead]; exact ht.report,
    fun hf => hpending _ (ht.pending (hfault.symm.trans hf))⟩

theorem ClaimTested.head (ht : ClaimTested h s t) (k : Head) : t.head k = s.head k := by rw [ht.rest]; rfl

theorem ClaimTested.life (ht : ClaimTested h s t) : t.life = s.life := by rw [ht.rest]

theorem dropHeld_moved (h : Head) (s : State) : SwapMoved h s (dropHeld h s) := (SwapMoved.refl h s).dropHeld

theorem failMount_moved (h : Head) (s : State) : SwapMoved h s (failMount h s) := by
  unfold failMount setSwapState
  exact (dropHeld_moved h s).mapSwap _

/-- A MOUNT that is applied (R162): the wheel is on the head, with a new record, and the attempts begin again. -/
theorem mountApplied_result (hl : s.headsLive = true) (hx : (s.swap h).held = some x) (hw : (s.swap h).wants = [])
    (ho : (s.swap h).outstanding = none) :
    let t := swapFrameEnded h (mountApplied h e s)
    RecordMade h (newRecord s.families e) s t ∧ (t.swap h).held = none ∧ (t.swap h).attempts = 0
      ∧ (needsSister (some (newRecord s.families e).condition) = false → (t.swap h).state = .idle) := by
  intro t
  have hmoved : SwapMoved h s ((setSwapState h .idle (dropHeld h s)).mapSwap h fun u => { u with attempts := 0 }) :=
    ((dropHeld_moved h s).mapSwap _).mapSwap _
  have hds : ((setSwapState h .idle (dropHeld h s)).mapSwap h fun u => { u with attempts := 0 }).swap h
      = { (s.swap h).dropped with state := .idle, attempts := 0 } := by
    rw [mapSwap_swap_self, idleDropped_swap hx hw ho]
  have ht : t = swapFrameEnded h (swapNews h (recordMade h e
    ((setSwapState h .idle (dropHeld h s)).mapSwap h fun u => { u with attempts := 0 }))) := rfl
  generalize (setSwapState h .idle (dropHeld h s)).mapSwap h (fun u => { u with attempts := 0 }) = d at hmoved hds ht
  have hfamilies : d.families = s.families := by rw [hmoved.rest]
  have hfault : s.life.fault = d.life.fault := by rw [hmoved.rest]
  have hswap := recordMade_swap h e d
  have hmade := recordMade_made h e d
  have hcondition := recordMade_condition h e d
  have hlive : (recordMade h e d).headsLive = true := by
    rw [recordMade_rest]
    exact hmoved.headsLive.trans hl
  generalize recordMade h e d = r at ht hswap hmade hcondition hlive
  rw [hds] at hswap
  have hnews : swapNews h r = claimTest h r := by
    unfold swapNews
    rw [if_pos hlive, exchangeTest_other (by rw [hswap]; exact nofun), suitTest_empty (by rw [hswap]; rfl)]
  have htested := claimTest_tested h r
  rw [hfamilies] at hmade hcondition
  rw [hnews, swapFrameEnded_claimTest (by rw [hswap]; exact hw)] at ht
  rw [ht]
  refine ⟨hmade.of_eq (htested.head h) (by rw [htested.life]; exact fun _ => id) hfault, ?_, ?_, fun hn => ?_⟩
  · rw [htested.held, hswap]; rfl
  · rw [htested.attempts, hswap]
  · rw [claimTest_stays (mayClaim_of_need (by rw [hcondition]; exact hn)), hswap]

/-- A tag DECLARE that is applied (R164): a backoff ends, and a CLAIM that goes begins no new one. -/
theorem declareApplied_result (hs : Sends s) (hl : s.headsLive = true) (hw : (s.swap h).wants = [])
    (hq : s.claimQueued (headByte h) = false) :
    let t := swapFrameEnded h (declareApplied h e s)
    RecordMade h (newRecord s.families e) s t ∧ (t.swap h).tagDeclare = false ∧ (t.swap h).backoff = none := by
  intro t
  have hmoved : SwapMoved h s (s.mapSwap h fun u =>
    { u with state := .idle, tagDeclare := false, backoff := none, backoffEnded := false }) := (SwapMoved.refl h s).mapSwap _
  have hds : (s.mapSwap h fun u =>
      { u with state := .idle, tagDeclare := false, backoff := none, backoffEnded := false }).swap h
      = { s.swap h with state := .idle, tagDeclare := false, backoff := none, backoffEnded := false } :=
    mapSwap_swap_self _ _
  have ht : t = swapFrameEnded h (swapNews h (recordMade h e (s.mapSwap h fun u =>
    { u with state := .idle, tagDeclare := false, backoff := none, backoffEnded := false }))) := rfl
  generalize s.mapSwap h (fun u =>
    { u with state := .idle, tagDeclare := false, backoff := none, backoffEnded := false }) = d at hmoved hds ht
  have hfamilies : d.families = s.families := by rw [hmoved.rest]
  have hfault : s.life.fault = d.life.fault := by rw [hmoved.rest]
  have hswap := recordMade_swap h e d
  have hmade := recordMade_made h e d
  have hrest := recordMade_rest h e d
  generalize recordMade h e d = r at ht hswap hmade hrest
  have hsends : Sends r := by rw [hrest]; exact ⟨(hmoved.sends hs).unbarred, (hmoved.sends hs).line⟩
  have hlive : r.headsLive = true := by rw [hrest]; exact hmoved.headsLive.trans hl
  have hqueued : r.claimQueued (headByte h) = false := by rw [hrest]; exact hmoved.claims.trans hq
  rw [hds] at hswap
  obtain ⟨g, hsuit, hstate, hwants, htag, hbackoff⟩ := suitTest_idle (h := h) (s := r) (by rw [hswap]) (by rw [hswap]; exact hw)
  have hnews : swapNews h r = claimTest h (r.mapSwap h g) := by
    unfold swapNews
    rw [if_pos hlive, exchangeTest_other (by rw [hswap]; exact nofun), hsuit]
  have hgmoved : SwapMoved h r (r.mapSwap h g) := (SwapMoved.refl h r).mapSwap g
  have hgswap : (r.mapSwap h g).swap h = g (r.swap h) := mapSwap_swap_self _ _
  have hghead : (r.mapSwap h g).head h = r.head h := rfl
  have hglife : (r.mapSwap h g).life = r.life := rfl
  generalize r.mapSwap h g = v at hnews hgmoved hgswap hghead hglife
  have htested := claimTest_tested h v
  have hkeeps : ((claimTest h v).swap h).backoff = (v.swap h).backoff := by
    unfold claimTest
    split
    · rw [submitClaim_swap (hgmoved.sends hsends) (hgmoved.claims.trans hqueued)]
      rfl
    · rfl
  rw [hfamilies] at hmade
  rw [hnews, swapFrameEnded_claimTest (by rw [hgswap]; exact hwants)] at ht
  rw [ht]
  refine ⟨hmade.of_eq ((htested.head h).trans hghead) (by rw [htested.life, hglife]; exact fun _ => id) hfault, ?_, ?_⟩
  · rw [htested.tagDeclare, hgswap, htag, hswap]
  · rw [hkeeps, hgswap, hbackoff, hswap]

/-! ## The holding notices (R88) -/

theorem heldDispatched_swap (hw : (s.swap h).wants = []) (ho : (s.swap h).outstanding = none) :
    (heldDispatched h x s).swap h = { s.swap h with lifetime := none, claimStamp := none } := by
  have hexpired {a : State} (ha : a.swap h = { s.swap h with lifetime := none, claimStamp := none }) :
      (withdrawExpired h x a).swap h = { s.swap h with lifetime := none, claimStamp := none } := by
    have hv : (withdrawFrames (fun o p => o == .swapUnit h && p == .pool (.release x releaseExpired)) a).swap h
      = { s.swap h with lifetime := none, claimStamp := none } := ha
    unfold withdrawExpired
    dsimp only
    rw [mapSwap_swap_self, hv]
    simp [hw, ho]
  have hswap := hexpired (mapSwap_swap_self s fun u => { u with lifetime := none, claimStamp := none })
  rw [heldDispatched, swapPump_nil (by rw [hswap]; exact hw), hswap]

/-- DELIVER of the held wheel in AWAIT (R158). -/
theorem heldDelivered_swap (hs : (s.swap h).state = .await) (hn : (s.swap h).notNeeded = false) :
    (heldDelivered h s).swap h = { s.swap h with
      claimStamp := none, lifetime := none
      state := if exchangeDue (s.condition h) then .confirming else .delivered
      window := if exchangeDue (s.condition h) then .running ⟨s.timeBase, s.constants.confirmWindowS * 1000000⟩
        else .stopped } := by
  unfold heldDelivered
  rw [if_pos hs]
  generalize ha : s.mapSwap h (fun u =>
    { u with state := .delivered, window := .stopped, claimStamp := none, lifetime := none }) = a
  have has : a.swap h = { s.swap h with state := .delivered, window := .stopped, claimStamp := none, lifetime := none } := by
    rw [← ha, mapSwap_swap_self]
  have hcondition : a.condition h = s.condition h := by rw [← ha]; rfl
  have hexchange : (exchangeTest h a).swap h = { s.swap h with
      claimStamp := none, lifetime := none
      state := if exchangeDue (s.condition h) then .confirming else .delivered
      window := if exchangeDue (s.condition h) then .running ⟨s.timeBase, s.constants.confirmWindowS * 1000000⟩
        else .stopped } := by
    unfold exchangeTest
    rw [hcondition]
    split
    next hc =>
      rw [if_pos hc.2, if_pos hc.2, startWindow, mapSwap_swap_self, has, ← ha]
      rfl
    next hc =>
      have hdue : ¬(exchangeDue (s.condition h) = true) := fun hd => hc ⟨by rw [has], hd⟩
      rw [if_neg hdue, if_neg hdue, has]
  unfold enterDelivered
  rw [ha]
  dsimp only
  rw [if_neg (by rw [hexchange]; simp [hn]), hexchange]

section
variable (hx : (s.swap h).held = some x) (hw : (s.swap h).wants = []) (ho : (s.swap h).outstanding = none)
include hx hw ho

theorem heldTaken_mounting (hm : (s.swap h).state = .mounting) :
    (heldTaken h counted s).swap h = { (s.swap h).dropped with state := .failed } := by
  rw [heldTaken, if_pos hm, failMount_swap hx hw ho]

theorem heldTaken_gone (hm : (s.swap h).state ≠ .mounting) (hs : Sends s) (hq : s.claimQueued (headByte h) = false)
    (hd : (s.head h).declare = none) (hn : needsSister (s.condition h) = true)
    (hlt : (s.swap h).attemptsAfter counted < 3) :
    ClaimGone h (s.claimFamily h) (heldTaken h counted s)
      ∧ ((heldTaken h counted s).swap h).attempts = (s.swap h).attemptsAfter counted := by
  obtain ⟨hgone, hattempts, -⟩ := claimAnew_gone hx hw ho hs hq hd (.inl rfl) (.inl hn) hlt
  have hmoved := (SwapMoved.refl h s).dropCounted counted
  rw [heldTaken, if_neg hm]
  unfold loseWheel
  dsimp only
  rw [if_pos (.inl (by rw [hmoved.condition]; exact hn))]
  exact ⟨hgone, hattempts⟩

theorem heldTaken_fails (hm : (s.swap h).state ≠ .mounting) (hn : needsSister (s.condition h) = true)
    (h3 : (s.swap h).attemptsAfter counted = 3) :
    (heldTaken h counted s).swap h = { (s.swap h).dropped with attempts := 3, state := .failed } := by
  have hmoved := (SwapMoved.refl h s).dropCounted counted
  rw [heldTaken, if_neg hm]
  unfold loseWheel
  dsimp only
  rw [if_pos (.inl (by rw [hmoved.condition]; exact hn)), claimAnew_fails hx hw ho h3]

theorem heldTaken_idle (hm : (s.swap h).state ≠ .mounting) (hn : needsSister (s.condition h) = false)
    (hlt : (s.swap h).attemptsAfter counted < 3) : (heldTaken h counted s).swap h
      = { (s.swap h).dropped with attempts := (s.swap h).attemptsAfter counted, state := .idle } := by
  have hmoved := (SwapMoved.refl h s).dropCounted counted
  have hdrop := dropCounted_swap (counted := counted) hx hw ho
  have hattempts : (if counted then min 3 ((s.swap h).attempts + 1) else (s.swap h).attempts)
      = (s.swap h).attemptsAfter counted := by
    unfold SwapUnit.attemptsAfter at hlt ⊢
    split
    next hcounted => rw [if_pos hcounted] at hlt; exact Nat.min_eq_right (Nat.le_of_lt hlt)
    next => rfl
  rw [hattempts] at hdrop
  rw [heldTaken, if_neg hm]
  unfold loseWheel
  dsimp only
  rw [if_neg ?_, setSwapState, mapSwap_swap_self, hdrop]
  rw [hmoved.condition, hn, hdrop]
  rintro (hc | ⟨-, hc⟩)
  · exact absurd hc nofun
  · exact absurd hc (Nat.ne_of_lt hlt)

end
end
end Sys2Proof.Machine

namespace Sys2Proof.Machine
open State Sys2Proof.Config

/-! ## The outcome of the head unit's own frame (R108, R148) -/

section
variable {h : Head} {s t : State} {w : HeadRecord} {f : PoolFrame} {i : RxItem} {out : PoolOutcome}

theorem requestCheckpoint_head (id : Nat) (s : State) (k : Head) : (requestCheckpoint id s).head k = s.head k := by
  rw [requestCheckpoint_rest]
  rfl

theorem swapFrame_head (ht : swapFrame h s t) (k : Head) : t.head k = s.head k := congrArg (·.get k) ht.2.1

theorem swapPump_head (h : Head) (s : State) : (swapPump h s).head h = s.head h :=
  swapFrame_head ((swapFrame_stable h s).swapPump s (swapFrame_refl h s)) h

theorem swapFrameEnded_head (h : Head) (s : State) : (swapFrameEnded h s).head h = s.head h :=
  swapFrame_head ((swapFrame_stable h s).swapFrameEnded s (swapFrame_refl h s)) h

theorem swapNews_head (h : Head) (s : State) : (swapNews h s).head h = s.head h :=
  swapFrame_head ((swapFrame_stable h s).swapNews s (swapFrame_refl h s)) h

theorem holdingNotice_head (h : Head) (f : PoolFrame) (sender : Station) (role : Role) (s : State) :
    (holdingNotice h f sender role s).head h = s.head h :=
  swapFrame_head ((swapFrame_stable h s).holdingNotice f sender role s (swapFrame_refl h s)) h

/-- The head unit's own frame: its outcome, and for an applied frame the holding notice. -/
theorem headNotices_head_applied {tab : Table} {sel : Option Entry} (ho : i.own = some (.headUnit h)) :
    headNotices i f (.applied tab sel) h s = holdingNotice h f i.sender i.role (headOutcome h f false s) := by
  unfold headNotices swapNotices
  dsimp only
  rw [ho, if_pos rfl, if_neg fun hc => absurd hc.1 nofun]
  rfl

theorem headNotices_head_refused {reason : PoolRefusal} (ho : i.own = some (.headUnit h)) :
    headNotices i f (.refused reason) h s = headOutcome h f true s := by
  unfold headNotices swapNotices
  dsimp only
  rw [ho, if_pos rfl, if_neg fun hc => absurd hc.1 nofun]
  rfl

/-- The swap unit's own frame: its outcome. -/
theorem headNotices_swap {st : SwapState} (ho : i.own = some (.swapUnit h))
    (hf : (s.swap h).outstanding = some ⟨f, true, st⟩) : headNotices i f out h s
      = swapFrameEnded h (ownOutcome h f i.stamp out (s.mapSwap h fun u => { u with outstanding := none })) := by
  have hawaits : (s.swap h).awaits f = true := by simp [SwapUnit.awaits, hf]
  unfold headNotices swapNotices swapOutcome
  dsimp only
  rw [ho, if_neg (show ¬some (Origin.swapUnit h) = some (.headUnit h) from nofun), if_pos ⟨rfl, hawaits⟩, if_pos hawaits]

/-- A frame that is not of this head's units: the holding notice. -/
theorem headNotices_other {tab : Table} {sel : Option Entry} (hs : i.own ≠ some (.swapUnit h))
    (hh : i.own ≠ some (.headUnit h)) :
    headNotices i f (.applied tab sel) h s = holdingNotice h f i.sender i.role s := by
  unfold headNotices swapNotices
  dsimp only
  rw [if_neg hh, if_neg fun hc => hs hc.1]

theorem settleReport_head (h : Head) (s : State) :
    (settleReport h s).head h = { s.head h with report := .none, reportRetry := none } := by
  rw [settleReport, swapPump_head, mapHead_head_self]

/-- The MOUNT that waited for the report goes as it is settled (R148, R162). -/
theorem settleReport_mounts {head spent : Byte} {new old : Serial} {d : Diameter} (hs : Sends s)
    (hst : (s.swap h).state = .mounting) (hx : (s.swap h).held = some new)
    (hw : (s.swap h).wants = [.mount (.mount head new old d spent)]) (ho : (s.swap h).outstanding = none) :
    (settleReport h s).swap h = { s.swap h with
      wants := [], outstanding := some ⟨.mount head new old d spent, false, .mounting⟩ } := by
  generalize ha : s.mapHead h (fun u => { u with report := .none, reportRetry := none }) = a
  have has : a.swap h = s.swap h := by rw [← ha]; rfl
  have hsends : Sends a := by rw [← ha]; exact ⟨hs.unbarred, hs.line⟩
  have hsettled : (a.head h).report = .none := by rw [← ha, mapHead_head_self]
  have hwaits : a.wantWaits h (.mount (.mount head new old d spent)) = false := by
    simp [State.wantWaits, State.reportUnsettled, hsettled]
  generalize hb : a.mapSwap h (fun u => { u with wants := [] }) = b
  have hbs : b.swap h = { s.swap h with wants := [] } := by rw [← hb, mapSwap_swap_self, has]
  have hcalls : b.stillCalls h (.mount (.mount head new old d spent)) = true := by
    simp [State.stillCalls, hbs, hst, hx, namesHeld]
  have htake : takeWant h (.mount (.mount head new old d spent)) b = submitRetryable h (.mount head new old d spent) b :=
    if_pos hcalls
  have hbsends : Sends b := by rw [← hb]; exact ⟨hsends.unbarred, hsends.line⟩
  have hgone := submitRetryable_swap (h := h) (f := .mount head new old d spent) hbsends nofun
  rw [settleReport, ha, swapPump_single (by rw [has]; exact hw) (by rw [has]; exact ho) hwaits, hb, htake, hgone, hbs]
  dsimp only
  rw [hst]

theorem headOutcome_quarantine {reason keep : Byte} {refused : Bool} (hr : (s.head h).record = some w)
    (ho : (s.head h).report = .outstanding) :
    headOutcome h (.quarantine w.serial reason keep) refused s = settleReport h s :=
  if_pos ⟨ho, by simp [hr]⟩

/-- The DECLARE has ended; a refused one stands against the record (R108). -/
theorem headOutcome_declare {head family : Byte} {d : Diameter} {refused : Bool} (hr : (s.head h).record = some w)
    (hd : (s.head h).declare = some ⟨.declare head w.serial family d, none⟩) :
    headOutcome h (.declare head w.serial family d) refused s = swapFrameEnded h
      (if refused then conflictHold h (s.mapHead h fun x => { x with declare := none })
        else s.mapHead h fun x => { x with declare := none }) := by
  have hrecord : ((s.head h).record.any fun r => r.serial == w.serial) = true := by simp [hr]
  unfold headOutcome
  dsimp only
  rw [if_pos hd, hrecord]
  simp

theorem conflictHold_broken (hr : (s.head h).record = some w) (hb : w.condition = .broken) : conflictHold h s = s := by
  unfold conflictHold
  rw [State.condition, hr, Option.map_some, hb]

/-- HOLD for a CONFLICT, from every condition but BROKEN (R108, R129). -/
theorem conflictHold_result (hr : (s.head h).record = some w) (hb : w.condition ≠ .broken) :
    (conflictHold h s).head h = { s.head h with record := some { w with condition := .hold .conflict } }
      ∧ (s.life.fault = false → headId h ∈ (conflictHold h s).life.pending) := by
  have hcondition : s.condition h = some w.condition := by rw [State.condition, hr]; rfl
  have hheld : (s.mapRecord h fun r => { r with condition := .hold .conflict }).head h
      = { s.head h with record := some { w with condition := .hold .conflict } } := by
    rw [State.mapRecord, mapHead_head_self, hr]
    rfl
  have hset (hne : w.condition ≠ .hold .conflict) :
      (setCondition h (.hold .conflict) s).head h
          = { s.head h with record := some { w with condition := .hold .conflict } }
        ∧ (s.life.fault = false → headId h ∈ (setCondition h (.hold .conflict) s).life.pending) := by
    unfold setCondition conditionChanged
    rw [if_neg (by rw [hcondition]; simp [hne])]
    refine ⟨by rw [swapNews_head, requestCheckpoint_head, hheld], fun hf => ?_⟩
    exact ((headNoticed_stable h _).swapNews (.refl h _)).pending _ (requestCheckpoint_mem (by exact hf))
  unfold conflictHold
  rw [hcondition]
  cases hc : w.condition with
  | broken => exact absurd hc hb
  | hold => exact ⟨by dsimp only; rw [requestCheckpoint_head, hheld], fun hf => requestCheckpoint_mem (by exact hf)⟩
  | _ => exact hset (by rw [hc]; exact nofun)

end
end Sys2Proof.Machine

namespace Sys2Proof.Machine
open State Sys2Proof.Config

/-! ## The outcome of the swap unit's own frame (R87) -/

/-- The unit with its frame no longer outstanding. -/
def outcomeKnown (h : Head) (s : State) : State := s.mapSwap h fun u => { u with outstanding := none }

section
variable {h : Head} {s t u : State} {c : Instr} {i : RxItem} {f : PoolFrame} {out : PoolOutcome} {tab : Table}
  {sel : Option Entry} {e : Entry} {reason : PoolRefusal} {st : SwapState} {x : Serial}

theorem SeenSame.mapSwap (hst : SeenSame h s t) (g : SwapUnit → SwapUnit) : SeenSame h (s.mapSwap h g) (t.mapSwap h g) where
  rest := by unfold State.mapSwap; rw [hst.rest]
  sync := hst.sync
  head := hst.head
  swap := by rw [mapSwap_swap_self, mapSwap_swap_self, hst.swap]
  pending := hst.pending
  claims := hst.claims
  sent := hst.sent

/-- Only ENTER and RACK give a family notice (R89). -/
theorem headFamily_other (he : f.kind ≠ .enter) (hr : f.kind ≠ .rack) : headFamily f tab h s = s := by
  cases f with
  | enter => exact absurd rfl he
  | rack => exact absurd rfl hr
  | _ => rfl

/-- A frame of other kinds than ENTER and RACK reaches head `h` by its notices alone. -/
theorem Takes.head (ht : Takes c i f out s) (hl : s.headsLive = true) (he : f.kind ≠ .enter) (hr : f.kind ≠ .rack)
    (h : Head) : ∃ u t, exec c s = .next t ∧ SeenSame h s u ∧ (∀ tab sel, out = .applied tab sel → u.pool.table = tab)
      ∧ SeenSame h (headNotices i f out h u) t := by
  cases out with
  | applied tab sel =>
    obtain ⟨u, w, t, hexec, hu, htab, hw, hseen⟩ := ht.head_applied hl h
    rw [headFamily_other he hr] at hseen
    exact ⟨u, t, hexec, hu, fun _ _ hout => htab.trans (PoolOutcome.applied.inj hout).1, hw.trans hseen⟩
  | refused reason =>
    obtain ⟨u, t, hexec, hu, hseen⟩ := ht.head_refused hl h
    exact ⟨u, t, hexec, hu, nofun, hseen⟩

/-- The outcome of a frame that swap unit `h` has sent. -/
theorem Takes.own (ht : Takes c i f out s) (hl : s.headsLive = true) (he : f.kind ≠ .enter) (hr : f.kind ≠ .rack)
    (hown : i.own = some (.swapUnit h)) (hf : (s.swap h).outstanding = some ⟨f, true, st⟩) :
    ∃ a t, exec c s = .next t ∧ SeenSame h (outcomeKnown h s) a
      ∧ (∀ tab sel, out = .applied tab sel → a.pool.table = tab)
      ∧ SeenSame h (swapFrameEnded h (ownOutcome h f i.stamp out a)) t := by
  obtain ⟨u, t, hexec, hu, htab, hseen⟩ := ht.head hl he hr h
  rw [headNotices_swap hown (by rw [hu.swap]; exact hf)] at hseen
  exact ⟨_, t, hexec, hu.mapSwap _, htab, hseen⟩

theorem outcomeKnown_swap (h : Head) (s : State) :
    (outcomeKnown h s).swap h = { s.swap h with outstanding := none } := mapSwap_swap_self _ _

theorem Takes.sends (ht : Takes c i f out s) : Sends s := ⟨ht.unbarred, ht.line⟩

theorem outcomeKnown_sends (hs : Sends s) : Sends (outcomeKnown h s) := ⟨hs.unbarred, hs.line⟩

/-! ### CLAIM (R154, R165) -/

/-- The entry that a CLAIM selects is CLAIMED in the new table. -/
theorem claim_claimed {fams : List Family} {before : Table} {sender : Station} {role : Role} {head family : Byte}
    (ho : applyFrame fams before sender role (.claim head family) = .applied tab (some e)) :
    claimedIn tab e.serial = true := by
  obtain ⟨-, -, hkind⟩ := applyFrame_applied ho
  simp only [applyKind, applyClaim] at hkind
  split at hkind
  · exact absurd hkind nofun
  · split at hkind
    · exact absurd hkind nofun
    next e₀ hselect =>
      obtain ⟨rfl, he⟩ := PoolOutcome.applied.inj hkind
      obtain rfl := Option.some.inj he
      have hmem : e₀ ∈ before := (List.mem_filter.1 (selectEntry_mem hselect)).1
      have hmem' : e₀.toClaimed sender (Head.ofBit (head == 1)) ∈ changeEntry before e₀.serial
          (Entry.toClaimed sender (Head.ofBit (head == 1))) :=
        List.mem_map.2 ⟨e₀, hmem, if_pos rfl⟩
      cases hfind : findSerial (changeEntry before e₀.serial (Entry.toClaimed sender (Head.ofBit (head == 1)))) e₀.serial with
      | none => exact (findSerial_eq_none_iff.1 hfind _ hmem' rfl).elim
      | some d =>
        have hd := List.find?_some hfind
        obtain ⟨d₀, -, rfl⟩ := List.mem_map.1 (List.mem_of_find?_eq_some hfind)
        unfold claimedIn
        show (findSerial _ e₀.serial).any _ = true
        rw [hfind]
        by_cases hs : d₀.serial = e₀.serial
        · rw [if_pos hs]; rfl
        · rw [if_neg hs, beq_iff_eq] at hd
          exact absurd hd hs

theorem Takes.claim_applied {head family : Byte} (ht : Takes c i (.claim head family) (.applied tab (some e)) s)
    (hl : s.headsLive = true) (hown : i.own = some (.swapUnit h))
    (hf : (s.swap h).outstanding = some ⟨.claim head family, true, st⟩) (hw : (s.swap h).wants = []) :
    ∃ t, exec c s = .next t ∧ (t.swap h).state = .await ∧ (t.swap h).held = some e.serial
      ∧ (t.swap h).heldFamily = e.family ∧ (t.swap h).claimStamp = some i.stamp
      ∧ (t.swap h).lifetime = some ⟨i.stamp, s.constants.claimLifetimeS * 1000000⟩
      ∧ (t.swap h).attempts = (s.swap h).attempts
      ∧ (e.family = s.claimFamily h → (t.swap h).notNeeded = false ∧ (t.swap h).outstanding = none)
      ∧ (e.family ≠ s.claimFamily h → (t.swap h).notNeeded = true
          ∧ (t.swap h).outstanding = some ⟨.release e.serial releaseNotNeeded, false, .await⟩) := by
  obtain ⟨a, t, hexec, ha, htab, hseen⟩ := ht.own hl nofun nofun hown hf
  have hunit := ha.swap.trans (outcomeKnown_swap h s)
  have hfamily : a.claimFamily h = s.claimFamily h := ha.claimFamily
  have hlife : a.claimLifetime = s.constants.claimLifetimeS * 1000000 := by
    show a.constants.claimLifetimeS * 1000000 = _
    rw [ha.constants]
    rfl
  have hdone {b : State} (hb : b.swap h = (claimApplied h e i.stamp a).swap h) (hs : (b.swap h).state = .await)
      (hbw : (b.swap h).wants = []) : t.swap h = b.swap h := by
    rw [hseen.swap, hb]
    show (swapFrameEnded h (claimApplied h e i.stamp a)).swap h = _
    rw [swapFrameEnded_done (by rw [← hb]; exact hbw) (by rw [← hb, hs]; exact nofun)]
  refine ⟨t, hexec, ?_⟩
  by_cases hsuits : e.family = s.claimFamily h
  · have happlied : (claimApplied h e i.stamp a).swap h
        = SwapUnit.awaiting { s.swap h with outstanding := none } e i.stamp (s.constants.claimLifetimeS * 1000000) := by
      rw [claimApplied_suits (hsuits.trans hfamily.symm), mapSwap_swap_self, hunit, hlife]
    rw [hdone rfl (by rw [happlied]; rfl) (by rw [happlied]; exact hw), happlied]
    exact ⟨rfl, rfl, rfl, rfl, rfl, rfl, fun _ => ⟨rfl, rfl⟩, fun hne => absurd hsuits hne⟩
  · have happlied := claimApplied_unsuited (h := h) (s := a) (e := e) (stamp := i.stamp)
      ((outcomeKnown_sends ht.sends).seen ha) (fun hc => hsuits (hc.trans hfamily))
      (by rw [htab _ _ rfl]; exact claim_claimed ht.out) (by rw [hunit]; exact hw) (by rw [hunit])
    rw [hunit, hlife] at happlied
    rw [hdone rfl (by rw [happlied]; rfl) (by rw [happlied]; exact hw), happlied]
    exact ⟨rfl, rfl, rfl, rfl, rfl, rfl, fun heq => absurd heq hsuits, fun _ => ⟨rfl, rfl⟩⟩

theorem Takes.claim_refused {head family : Byte} (ht : Takes c i (.claim head family) (.refused reason) s)
    (hl : s.headsLive = true) (hown : i.own = some (.swapUnit h))
    (hf : (s.swap h).outstanding = some ⟨.claim head family, true, st⟩) (hw : (s.swap h).wants = [])
    (hs : (s.swap h).state = .claiming) :
    ∃ t, exec c s = .next t ∧ (t.swap h).state = .backoff ∧ (t.swap h).outstanding = none
      ∧ (t.swap h).backoff = some ⟨s.timeBase, 10 * (s.constants.rollIntervalMs * 1000)⟩
      ∧ (t.swap h).backoffFamily = family.setWidth 4 ∧ (t.swap h).attempts = (s.swap h).attempts := by
  obtain ⟨a, t, hexec, ha, -, hseen⟩ := ht.own hl nofun nofun hown hf
  have hunit := ha.swap.trans (outcomeKnown_swap h s)
  have hrefused := claimRefused_swap (h := h) (s := a) (family := family) (by rw [hunit]; exact hs)
  have hended : swapFrameEnded h (ownOutcome h (.claim head family) i.stamp (.refused reason) a)
      = claimRefused h family a :=
    swapFrameEnded_done (by show ((claimRefused h family a).swap h).wants = []; rw [hrefused, hunit]; exact hw)
      (by show ((claimRefused h family a).swap h).state ≠ _; rw [hrefused]; exact nofun)
  rw [hended] at hseen
  rw [hunit, ha.timeBase, ha.constants] at hrefused
  have hswap := hseen.swap.trans hrefused
  exact ⟨t, hexec, by rw [hswap], by rw [hswap], by rw [hswap]; rfl, by rw [hswap], by rw [hswap]⟩

end
end Sys2Proof.Machine

namespace Sys2Proof.Machine
open State Sys2Proof.Config

section
variable {h : Head} {s t u : State} {c : Instr} {i : RxItem} {f : PoolFrame} {out : PoolOutcome} {tab : Table}
  {sel : Option Entry} {e : Entry} {reason : PoolRefusal} {st : SwapState} {x : Serial} {why : Byte}

/-! ### RELEASE (R156, R161, R162, R165) -/

theorem releaseApplied_givesUp (hm : (s.swap h).state ≠ .mounting)
    (hwhy : why = releaseExpired ∨ why = releaseWindow) :
    releaseApplied h why s = giveUpWheel h (decide (why = releaseExpired)) s := by
  unfold releaseApplied
  rw [if_neg hm]
  by_cases hexpired : why = releaseExpired
  · rw [if_pos hexpired, decide_eq_true hexpired]
  · rw [if_neg hexpired, if_pos (hwhy.resolve_left hexpired), decide_eq_false hexpired]

theorem releaseApplied_notNeeded (hm : (s.swap h).state ≠ .mounting) :
    releaseApplied h releaseNotNeeded s = dropToIdle h s := by
  unfold releaseApplied
  rw [if_neg hm, if_neg (by decide), if_neg (by decide)]

section
variable (ht : Takes c i (.release x why) (.applied tab sel) s) (hl : s.headsLive = true)
  (hown : i.own = some (.swapUnit h)) (hf : (s.swap h).outstanding = some ⟨.release x why, true, st⟩)
  (hx : (s.swap h).held = some x)
include ht hl hown hf hx

/-- The unit's own RELEASE of its wheel is applied. -/
theorem Takes.release_applied : ∃ a t, exec c s = .next t ∧ SeenSame h (outcomeKnown h s) a
    ∧ a.swap h = { s.swap h with outstanding := none }
    ∧ SeenSame h (swapFrameEnded h (releaseApplied h why a)) t := by
  obtain ⟨a, t, hexec, ha, -, hseen⟩ := ht.own hl nofun nofun hown hf
  have hunit := ha.swap.trans (outcomeKnown_swap h s)
  have hout : ownOutcome h (.release x why) i.stamp (.applied tab sel) a = releaseApplied h why a :=
    if_pos (by rw [hunit]; exact hx)
  rw [hout] at hseen
  exact ⟨a, t, hexec, ha, hunit, hseen⟩

variable (hw : (s.swap h).wants = [])
include hw

theorem Takes.release_mounting (hm : (s.swap h).state = .mounting) :
    ∃ t, exec c s = .next t ∧ (t.swap h).state = .failed ∧ (t.swap h).held = none := by
  obtain ⟨a, t, hexec, -, hunit, hseen⟩ := ht.release_applied hl hown hf hx
  have hfail : releaseApplied h why a = failMount h a := if_pos (by rw [hunit]; exact hm)
  have hswap := failMount_swap (h := h) (s := a) (x := x) (by rw [hunit]; exact hx) (by rw [hunit]; exact hw) (by rw [hunit])
  rw [hfail, swapFrameEnded_done (by rw [hswap, hunit]; exact hw) (by rw [hswap]; exact nofun)] at hseen
  exact ⟨t, hexec, by rw [hseen.swap, hswap], by rw [hseen.swap, hswap]; rfl⟩

theorem Takes.release_claims {n : Nat} (hm : (s.swap h).state ≠ .mounting)
    (hwhy : why = releaseExpired ∨ why = releaseWindow)
    (hn : n = if why = releaseExpired then (s.swap h).attempts + 1 else (s.swap h).attempts) (hlt : n < 3)
    (hdec : (s.head h).declare = none) (hq : s.claimQueued (headByte h) = false) :
    ∃ t, exec c s = .next t ∧ ClaimGone h (s.claimFamily h) t ∧ (t.swap h).attempts = n := by
  obtain ⟨a, t, hexec, ha, hunit, hseen⟩ := ht.release_applied hl hown hf hx
  have hcount : (a.swap h).attemptsAfter (decide (why = releaseExpired)) = n := by
    rw [hunit, hn, SwapUnit.attemptsAfter]
    simp only [decide_eq_true_eq]
  obtain ⟨hgone, hattempts, hwants⟩ := claimAnew_gone (h := h) (s := a) (x := x) (w := .claimAgain)
    (counted := decide (why = releaseExpired)) (by rw [hunit]; exact hx) (by rw [hunit]; exact hw) (by rw [hunit])
    ((outcomeKnown_sends ht.sends).seen ha) (ha.claims.trans hq) (by rw [ha.head]; exact hdec) (.inr rfl) (.inr rfl)
    (by rw [hcount]; exact hlt)
  rw [releaseApplied_givesUp (by rw [hunit]; exact hm) hwhy, giveUpWheel,
    swapFrameEnded_done hwants (by rw [hgone.state]; exact nofun)] at hseen
  rw [ha.claimFamily] at hgone
  exact ⟨t, hexec, hgone.seen hseen, by rw [hseen.swap, hattempts, hcount]⟩

theorem Takes.release_fails (hm : (s.swap h).state ≠ .mounting) (hwhy : why = releaseExpired ∨ why = releaseWindow)
    (hn : 3 = if why = releaseExpired then (s.swap h).attempts + 1 else (s.swap h).attempts) :
    ∃ t, exec c s = .next t ∧ (t.swap h).state = .failed ∧ (t.swap h).held = none ∧ (t.swap h).attempts = 3 := by
  obtain ⟨a, t, hexec, ha, hunit, hseen⟩ := ht.release_applied hl hown hf hx
  have hcount : (a.swap h).attemptsAfter (decide (why = releaseExpired)) = 3 := by
    rw [hunit, hn, SwapUnit.attemptsAfter]
    simp only [decide_eq_true_eq]
  have hswap := claimAnew_fails (h := h) (s := a) (x := x) (counted := decide (why = releaseExpired))
    (by rw [hunit]; exact hx) (by rw [hunit]; exact hw) (by rw [hunit]) hcount .claimAgain
  rw [releaseApplied_givesUp (by rw [hunit]; exact hm) hwhy, giveUpWheel,
    swapFrameEnded_done (by rw [hswap, hunit]; exact hw) (by rw [hswap]; exact nofun)] at hseen
  exact ⟨t, hexec, by rw [hseen.swap, hswap], by rw [hseen.swap, hswap]; rfl, by rw [hseen.swap, hswap]⟩

end

section
variable (ht : Takes c i (.release x releaseNotNeeded) (.applied tab sel) s) (hl : s.headsLive = true)
  (hown : i.own = some (.swapUnit h)) (hf : (s.swap h).outstanding = some ⟨.release x releaseNotNeeded, true, st⟩)
  (hx : (s.swap h).held = some x) (hw : (s.swap h).wants = []) (hm : (s.swap h).state ≠ .mounting)
include ht hl hown hf hx hw hm

/-- The head needs no sister, or the station is doubtful: the unit is IDLE. -/
theorem Takes.release_idle (hno : needsSister (s.condition h) = false ∨ s.fe.doubtful = true) :
    ∃ t, exec c s = .next t ∧ (t.swap h).state = .idle ∧ (t.swap h).held = none ∧ (t.swap h).notNeeded = false
      ∧ (t.swap h).attempts = (s.swap h).attempts := by
  obtain ⟨a, t, hexec, ha, hunit, hseen⟩ := ht.release_applied hl hown hf hx
  have hmoved : SwapMoved h a (setSwapState h .idle (dropHeld h a)) := (dropHeld_moved h a).mapSwap _
  have hbarred : (setSwapState h .idle (dropHeld h a)).mayClaim h = false := by
    rcases hno with hno | hd
    · exact mayClaim_of_need (by rw [hmoved.condition, ha.condition]; exact hno)
    · exact mayClaim_of_doubtful (by rw [hmoved.doubtful, ha.doubtful]; exact hd)
  have hswap := dropToIdle_stays (h := h) (s := a) (x := x) (by rw [hunit]; exact hx) (by rw [hunit]; exact hw)
    (by rw [hunit]) hbarred
  rw [releaseApplied_notNeeded (by rw [hunit]; exact hm)] at hseen
  have htswap := hseen.swap.trans (hswap.trans (by rw [hunit]))
  exact ⟨t, hexec, by rw [htswap], by rw [htswap]; rfl, by rw [htswap]; rfl, by rw [htswap]; rfl⟩

theorem Takes.release_claimsAgain (hn : needsSister (s.condition h) = true) (hd : s.fe.doubtful = false)
    (hr : (s.swap h).retries = []) (hdec : (s.head h).declare = none) (hq : s.claimQueued (headByte h) = false) :
    ∃ t, exec c s = .next t ∧ ClaimGone h (s.claimFamily h) t ∧ (t.swap h).notNeeded = false
      ∧ (t.swap h).attempts = (s.swap h).attempts := by
  obtain ⟨a, t, hexec, ha, hunit, hseen⟩ := ht.release_applied hl hown hf hx
  obtain ⟨hgone, hswap⟩ := dropToIdle_gone (h := h) (s := a) (x := x) (by rw [hunit]; exact hx)
    (by rw [hunit]; exact hw) (by rw [hunit]) ((outcomeKnown_sends ht.sends).seen ha) (ha.headsLive.trans hl)
    (by rw [ha.condition]; exact hn) (ha.doubtful.trans hd) (by rw [hunit]; exact hr) (ha.claims.trans hq)
    (by rw [ha.head]; exact hdec)
  rw [releaseApplied_notNeeded (by rw [hunit]; exact hm)] at hseen
  rw [ha.claimFamily] at hgone
  have htswap := hseen.swap.trans hswap
  exact ⟨t, hexec, hgone.seen hseen, by rw [htswap]; rfl, by rw [htswap, hunit]; rfl⟩

end

/-! ### MOUNT and DECLARE (R130, R162, R164) -/

section
variable {head spent : Byte} {new old : Serial} {d : Diameter} (hl : s.headsLive = true)
  (hown : i.own = some (.swapUnit h)) (hf : (s.swap h).outstanding = some ⟨.mount head new old d spent, true, st⟩)
  (hw : (s.swap h).wants = []) (hx : (s.swap h).held = some new)
include hl hown hf hw hx

theorem Takes.mount_applied (ht : Takes c i (.mount head new old d spent) (.applied tab sel) s)
    (he : findSerial tab new = some e) :
    ∃ t, exec c s = .next t ∧ RecordMade h (newRecord s.families e) s t ∧ (t.swap h).held = none
      ∧ (t.swap h).attempts = 0
      ∧ (needsSister (some (newRecord s.families e).condition) = false → (t.swap h).state = .idle) := by
  obtain ⟨a, t, hexec, ha, -, hseen⟩ := ht.own hl nofun nofun hown hf
  have hunit := ha.swap.trans (outcomeKnown_swap h s)
  have hfamilies : a.families = s.families := ha.families
  have hout : ownOutcome h (.mount head new old d spent) i.stamp (.applied tab sel) a = mountApplied h e a := by
    unfold ownOutcome
    dsimp only
    rw [he]
    exact if_pos (by rw [hunit]; exact hx)
  obtain ⟨hmade, hheld, hattempts, hstate⟩ := mountApplied_result (h := h) (s := a) (x := new) (e := e)
    (ha.headsLive.trans hl) (by rw [hunit]; exact hx) (by rw [hunit]; exact hw) (by rw [hunit])
  rw [hout] at hseen
  rw [hfamilies] at hmade hstate
  exact ⟨t, hexec, hmade.of_eq hseen.head hseen.pending (ha.fault).symm, by rw [hseen.swap, hheld],
    by rw [hseen.swap, hattempts], fun hn => by rw [hseen.swap, hstate hn]⟩

theorem Takes.mount_refused (ht : Takes c i (.mount head new old d spent) (.refused reason) s) :
    ∃ t, exec c s = .next t ∧ (t.swap h).state = .failed ∧ (t.swap h).held = none ∧ t.head h = s.head h := by
  obtain ⟨a, t, hexec, ha, -, hseen⟩ := ht.own hl nofun nofun hown hf
  have hunit := ha.swap.trans (outcomeKnown_swap h s)
  have hout : ownOutcome h (.mount head new old d spent) i.stamp (.refused reason) a = failMount h a :=
    if_pos (by rw [hunit]; exact hx)
  have hswap := failMount_swap (h := h) (s := a) (x := new) (by rw [hunit]; exact hx) (by rw [hunit]; exact hw)
    (by rw [hunit])
  rw [hout, swapFrameEnded_done (by rw [hswap, hunit]; exact hw) (by rw [hswap]; exact nofun)] at hseen
  have hmoved := failMount_moved h a
  exact ⟨t, hexec, by rw [hseen.swap, hswap], by rw [hseen.swap, hswap]; rfl,
    hseen.head.trans ((hmoved.head h).trans ha.head)⟩

end

theorem Takes.declare_applied {head family : Byte} {d : Diameter}
    (ht : Takes c i (.declare head x family d) (.applied tab sel) s) (hl : s.headsLive = true)
    (hown : i.own = some (.swapUnit h)) (hf : (s.swap h).outstanding = some ⟨.declare head x family d, true, st⟩)
    (hw : (s.swap h).wants = []) (he : findSerial tab x = some e) (hq : s.claimQueued (headByte h) = false) :
    ∃ t, exec c s = .next t ∧ RecordMade h (newRecord s.families e) s t ∧ (t.swap h).tagDeclare = false
      ∧ (t.swap h).backoff = none := by
  obtain ⟨a, t, hexec, ha, -, hseen⟩ := ht.own hl nofun nofun hown hf
  have hunit := ha.swap.trans (outcomeKnown_swap h s)
  have hfamilies : a.families = s.families := ha.families
  have hout : ownOutcome h (.declare head x family d) i.stamp (.applied tab sel) a = declareApplied h e a := by
    unfold ownOutcome
    dsimp only
    rw [he]
  obtain ⟨hmade, htag, hbackoff⟩ := declareApplied_result (h := h) (s := a) (e := e)
    ((outcomeKnown_sends ht.sends).seen ha) (ha.headsLive.trans hl) (by rw [hunit]; exact hw) (ha.claims.trans hq)
  rw [hout] at hseen
  rw [hfamilies] at hmade
  exact ⟨t, hexec, hmade.of_eq hseen.head hseen.pending (ha.fault).symm, by rw [hseen.swap, htag],
    by rw [hseen.swap, hbackoff]⟩

/-! ## The holding notice of a frame of other units (R88) -/

section
variable (hl : s.headsLive = true) (hs : i.own ≠ some (.swapUnit h)) (hh : i.own ≠ some (.headUnit h))
include hl hs hh

theorem Takes.holding (ht : Takes c i f (.applied tab sel) s) (he : f.kind ≠ .enter) (hr : f.kind ≠ .rack) :
    ∃ u t, exec c s = .next t ∧ SeenSame h s u ∧ SeenSame h (holdingNotice h f i.sender i.role u) t := by
  obtain ⟨u, t, hexec, hu, -, hseen⟩ := ht.head hl he hr h
  rw [headNotices_other hs hh] at hseen
  exact ⟨u, t, hexec, hu, hseen⟩

variable (hx : (s.swap h).held = some x)
include hx

theorem Takes.dispatch_held (ht : Takes c i (.dispatch x) (.applied tab sel) s)
    (hw : (s.swap h).wants = []) (ho : (s.swap h).outstanding = none) :
    ∃ t, exec c s = .next t ∧ t.swap h = { s.swap h with lifetime := none, claimStamp := none } := by
  obtain ⟨u, t, hexec, hu, hseen⟩ := ht.holding hl hs hh nofun nofun
  have hnotice : holdingNotice h (.dispatch x) i.sender i.role u = heldDispatched h x u :=
    if_pos (by rw [hu.swap]; exact hx)
  rw [hnotice] at hseen
  refine ⟨t, hexec, ?_⟩
  rw [hseen.swap, heldDispatched_swap (by rw [hu.swap]; exact hw) (by rw [hu.swap]; exact ho), hu.swap]

theorem Takes.deliver_held (ht : Takes c i (.deliver x) (.applied tab sel) s) (hst : (s.swap h).state = .await)
    (hn : (s.swap h).notNeeded = false) :
    ∃ t, exec c s = .next t ∧ (t.swap h).held = some x ∧ (t.swap h).claimStamp = none
      ∧ (t.swap h).lifetime = none ∧ (t.swap h).attempts = (s.swap h).attempts
      ∧ (exchangeDue (s.condition h) = false → (t.swap h).state = .delivered ∧ (t.swap h).window = .stopped)
      ∧ (exchangeDue (s.condition h) = true → (t.swap h).state = .confirming
          ∧ (t.swap h).window = .running ⟨s.timeBase, s.constants.confirmWindowS * 1000000⟩) := by
  obtain ⟨u, t, hexec, hu, hseen⟩ := ht.holding hl hs hh nofun nofun
  have hnotice : holdingNotice h (.deliver x) i.sender i.role u = heldDelivered h u :=
    if_pos (by rw [hu.swap]; exact hx)
  have hswap := heldDelivered_swap (h := h) (s := u) (by rw [hu.swap]; exact hst) (by rw [hu.swap]; exact hn)
  rw [hnotice] at hseen
  rw [hu.swap, hu.condition, hu.timeBase, hu.constants] at hswap
  have htswap := hseen.swap.trans hswap
  exact ⟨t, hexec, by rw [htswap]; exact hx, by rw [htswap], by rw [htswap], by rw [htswap],
    fun hd => by rw [htswap, hd]; exact ⟨rfl, rfl⟩, fun hd => by rw [htswap, hd]; exact ⟨rfl, rfl⟩⟩

end
end
end Sys2Proof.Machine

namespace Sys2Proof.Machine
open State Sys2Proof.Config

section
variable {h : Head} {s t u : State} {c : Instr} {i : RxItem} {f : PoolFrame} {out : PoolOutcome} {tab : Table}
  {sel : Option Entry} {e : Entry} {reason : PoolRefusal} {x : Serial} {why : Byte}

/-! ### The wheel is taken by the cell (R157, R158, R162) -/

theorem headOfByte_eq {head : Byte} : headOfByte head = some h ↔ head = headByte h := by
  unfold headOfByte
  cases h <;> by_cases h0 : head = 0 <;> by_cases h1 : head = 1 <;> simp_all [headByte]

/-- The frames that take the held wheel from the unit. -/
def takesWheel (h : Head) (x : Serial) (reason : Byte) (i : RxItem) (s : State) (f : PoolFrame) : Prop :=
  (∃ y, f = .release x y) ∨ (∃ keep, f = .quarantine x reason keep)
    ∨ ∃ head family diameter, f = .declare head x family diameter ∧ ¬(i.sender = s.station ∧ head = headByte h)

/-- The attempt counts for a gantry fault alone (R157). -/
def countedTaking (f : PoolFrame) (i : RxItem) (reason : Byte) : Bool :=
  decide (f.kind = .quarantine ∧ i.role = .store ∧ reason = quarantineGantryFault)

theorem holdingNotice_takes (hx : (s.swap h).held = some x) (hf : takesWheel h x why i s f) :
    holdingNotice h f i.sender i.role s = heldTaken h (countedTaking f i why) s
      ∧ f.kind ≠ .enter ∧ f.kind ≠ .rack := by
  rcases hf with ⟨y, rfl⟩ | ⟨keep, rfl⟩ | ⟨head, family, d, rfl, hn⟩
  · exact ⟨if_pos hx, nofun, nofun⟩
  · refine ⟨(if_pos hx).trans ?_, nofun, nofun⟩
    have hcounted : (i.role == .store && why == quarantineGantryFault) = countedTaking (.quarantine x why keep) i why := by
      rw [Bool.eq_iff_iff]
      simp [countedTaking, PoolFrame.kind]
    rw [hcounted]
  · refine ⟨(if_pos hx).trans ?_, nofun, nofun⟩
    exact if_neg fun hc => hn ⟨hc.1, headOfByte_eq.1 hc.2⟩

section
variable (ht : Takes c i f (.applied tab sel) s) (hl : s.headsLive = true) (hs : i.own ≠ some (.swapUnit h))
  (hh : i.own ≠ some (.headUnit h)) (hx : (s.swap h).held = some x) (hf : takesWheel h x why i s f)
include ht hl hs hh hx hf

theorem Takes.taken : ∃ u t, exec c s = .next t ∧ SeenSame h s u ∧ (u.swap h).held = some x
    ∧ SeenSame h (heldTaken h (countedTaking f i why) u) t := by
  obtain ⟨-, he, hr⟩ := holdingNotice_takes hx hf
  obtain ⟨u, t, hexec, hu, hseen⟩ := ht.holding hl hs hh he hr
  have hux : (u.swap h).held = some x := by rw [hu.swap]; exact hx
  have huf : takesWheel h x why i u f := by
    unfold takesWheel
    rw [hu.station]
    exact hf
  rw [(holdingNotice_takes hux huf).1] at hseen
  exact ⟨u, t, hexec, hu, hux, hseen⟩

variable (hw : (s.swap h).wants = []) (ho : (s.swap h).outstanding = none)
include hw ho

theorem Takes.taken_mounting (hm : (s.swap h).state = .mounting) :
    ∃ t, exec c s = .next t ∧ (t.swap h).state = .failed ∧ (t.swap h).held = none ∧ t.head h = s.head h := by
  obtain ⟨u, t, hexec, hu, hux, hseen⟩ := ht.taken hl hs hh hx hf
  have hum : (u.swap h).state = .mounting := by rw [hu.swap]; exact hm
  have hswap := heldTaken_mounting (counted := countedTaking f i why) hux (by rw [hu.swap]; exact hw)
    (by rw [hu.swap]; exact ho) hum
  have hhead : (heldTaken h (countedTaking f i why) u).head h = u.head h := by
    rw [heldTaken, if_pos hum, (failMount_moved h u).head]
  have htswap := hseen.swap.trans hswap
  exact ⟨t, hexec, by rw [htswap], by rw [htswap]; rfl, hseen.head.trans (hhead.trans hu.head)⟩

variable (hm : (s.swap h).state ≠ .mounting)
include hm

theorem Takes.taken_claims (hn : needsSister (s.condition h) = true)
    (hlt : (s.swap h).attemptsAfter (countedTaking f i why) < 3) (hdec : (s.head h).declare = none)
    (hq : s.claimQueued (headByte h) = false) :
    ∃ t, exec c s = .next t ∧ ClaimGone h (s.claimFamily h) t
      ∧ (t.swap h).attempts = (s.swap h).attemptsAfter (countedTaking f i why) := by
  obtain ⟨u, t, hexec, hu, hux, hseen⟩ := ht.taken hl hs hh hx hf
  obtain ⟨hgone, hattempts⟩ := heldTaken_gone (counted := countedTaking f i why) hux (by rw [hu.swap]; exact hw)
    (by rw [hu.swap]; exact ho) (by rw [hu.swap]; exact hm) (ht.sends.seen hu) (hu.claims.trans hq)
    (by rw [hu.head]; exact hdec) (by rw [hu.condition]; exact hn) (by rw [hu.swap]; exact hlt)
  rw [hu.claimFamily] at hgone
  rw [hu.swap] at hattempts
  exact ⟨t, hexec, hgone.seen hseen, by rw [hseen.swap, hattempts]⟩

theorem Takes.taken_fails (hn : needsSister (s.condition h) = true)
    (h3 : (s.swap h).attemptsAfter (countedTaking f i why) = 3) :
    ∃ t, exec c s = .next t ∧ (t.swap h).state = .failed ∧ (t.swap h).held = none ∧ (t.swap h).attempts = 3 := by
  obtain ⟨u, t, hexec, hu, hux, hseen⟩ := ht.taken hl hs hh hx hf
  have hswap := heldTaken_fails (counted := countedTaking f i why) hux (by rw [hu.swap]; exact hw)
    (by rw [hu.swap]; exact ho) (by rw [hu.swap]; exact hm) (by rw [hu.condition]; exact hn) (by rw [hu.swap]; exact h3)
  have htswap := hseen.swap.trans hswap
  exact ⟨t, hexec, by rw [htswap], by rw [htswap]; rfl, by rw [htswap]⟩

theorem Takes.taken_idle (hn : needsSister (s.condition h) = false)
    (hlt : (s.swap h).attemptsAfter (countedTaking f i why) < 3) :
    ∃ t, exec c s = .next t ∧ (t.swap h).state = .idle ∧ (t.swap h).held = none
      ∧ (t.swap h).attempts = (s.swap h).attemptsAfter (countedTaking f i why) := by
  obtain ⟨u, t, hexec, hu, hux, hseen⟩ := ht.taken hl hs hh hx hf
  have hswap := heldTaken_idle (counted := countedTaking f i why) hux (by rw [hu.swap]; exact hw)
    (by rw [hu.swap]; exact ho) (by rw [hu.swap]; exact hm) (by rw [hu.condition]; exact hn) (by rw [hu.swap]; exact hlt)
  rw [hu.swap] at hswap
  have htswap := hseen.swap.trans hswap
  exact ⟨t, hexec, by rw [htswap], by rw [htswap]; rfl, by rw [htswap]⟩

end

/-! ## The family notice (R89) -/

section
variable (ht : Takes c i f (.applied tab sel) s) (hl : s.headsLive = true) (hs : i.own ≠ some (.swapUnit h))
  (hh : i.own ≠ some (.headUnit h))
  (hf : (∃ family diameter slot, f = .enter x family diameter slot) ∨ ∃ slot, f = .rack x slot)
  (he : findSerial tab x = some e) (hst : (s.swap h).state = .backoff)
include ht hl hs hh hf he

/-- ENTER and RACK reach a head of other units by the family notice alone. -/
theorem Takes.family : ∃ w t, exec c s = .next t ∧ SeenSame h s w ∧ SeenSame h (familyNotice e.family h w) t := by
  obtain ⟨u, w, t, hexec, hu, -, hw, hseen⟩ := ht.head_applied hl h
  rw [headNotices_other hs hh] at hw
  have hnotice : holdingNotice h f i.sender i.role u = u ∧ headFamily f tab h w = familyNotice e.family h w := by
    unfold headFamily
    rcases hf with ⟨family, d, slot, rfl⟩ | ⟨slot, rfl⟩ <;> dsimp only <;> rw [he] <;> exact ⟨rfl, rfl⟩
  rw [hnotice.1] at hw
  rw [hnotice.2] at hseen
  exact ⟨w, t, hexec, hu.trans hw, hseen⟩

theorem Takes.family_other (hne : e.family ≠ (s.swap h).backoffFamily) :
    ∃ t, exec c s = .next t ∧ t.swap h = s.swap h := by
  obtain ⟨w, t, hexec, hw, hseen⟩ := ht.family hl hs hh hf he
  have hnone : familyNotice e.family h w = w := if_neg fun hc => hne (by rw [← hc.2, hw.swap])
  rw [hnone] at hseen
  exact ⟨t, hexec, hseen.swap.trans hw.swap⟩

/-- The unit whose backoff has ended, before it tests its claim conditions. -/
def backoffOver (h : Head) (s : State) : State :=
  s.mapSwap h fun u => { u with state := .idle, backoff := none, backoffEnded := false }

variable (heq : e.family = (s.swap h).backoffFamily) (htag : (s.swap h).tagDeclare = false)
include hst heq htag

theorem Takes.family_ends : ∃ w t, exec c s = .next t ∧ SeenSame h s w
    ∧ SeenSame h (claimTest h (backoffOver h w)) t := by
  obtain ⟨w, t, hexec, hw, hseen⟩ := ht.family hl hs hh hf he
  have hends : familyNotice e.family h w = claimTest h (backoffOver h w) := by
    unfold familyNotice endBackoff
    rw [hw.swap, if_pos ⟨hst, heq.symm⟩]
    dsimp only
    rw [if_neg (by rw [hst]; exact fun hc => hc rfl), if_neg (by rw [htag]; exact nofun)]
    rfl
  rw [hends] at hseen
  exact ⟨w, t, hexec, hw, hseen⟩

theorem Takes.family_idle (hno : needsSister (s.condition h) = false ∨ s.fe.doubtful = true) :
    ∃ t, exec c s = .next t ∧ (t.swap h).state = .idle ∧ (t.swap h).backoff = none := by
  obtain ⟨w, t, hexec, hw, hseen⟩ := ht.family_ends hl hs hh hf he hst heq htag
  have hswap : (backoffOver h w).swap h = { w.swap h with state := .idle, backoff := none, backoffEnded := false } :=
    mapSwap_swap_self _ _
  have hbarred : (backoffOver h w).mayClaim h = false := by
    rcases hno with hno | hd
    · exact mayClaim_of_need (hw.condition ▸ hno)
    · exact mayClaim_of_doubtful (hw.doubtful.trans hd)
  rw [claimTest_stays hbarred] at hseen
  exact ⟨t, hexec, by rw [hseen.swap, hswap], by rw [hseen.swap, hswap]⟩

theorem Takes.family_claims (hn : needsSister (s.condition h) = true) (hd : s.fe.doubtful = false)
    (hx : (s.swap h).held = none) (hr : (s.swap h).retries = []) (ho : (s.swap h).outstanding = none)
    (hdec : (s.head h).declare = none) (hq : s.claimQueued (headByte h) = false) :
    ∃ t, exec c s = .next t ∧ ClaimGone h (s.claimFamily h) t := by
  obtain ⟨w, t, hexec, hw, hseen⟩ := ht.family_ends hl hs hh hf he hst heq htag
  have hmoved : SwapMoved h w (backoffOver h w) := (SwapMoved.refl h w).mapSwap _
  have hswap : (backoffOver h w).swap h = { s.swap h with state := .idle, backoff := none, backoffEnded := false } := by
    rw [backoffOver, mapSwap_swap_self, hw.swap]
  have hsends := hmoved.sends (ht.sends.seen hw)
  have hm : (backoffOver h w).mayClaim h = true :=
    mayClaim_of (hmoved.headsLive.trans (hw.headsLive.trans hl)) (by rw [hswap])
      (by rw [hmoved.condition, hw.condition]; exact hn) hsends.synced (hmoved.doubtful.trans (hw.doubtful.trans hd))
      (by rw [hswap]; exact hx) (by rw [hswap]; exact ho) (by rw [hswap]; exact hr)
      (by rw [hmoved.head, hw.head]; exact hdec)
  have hgone := submitClaim_gone hsends (hmoved.claims.trans (hw.claims.trans hq)) (by rw [hswap]; exact hx)
  rw [hmoved.claimFamily, hw.claimFamily] at hgone
  rw [claimTest, if_pos hm] at hseen
  exact ⟨t, hexec, hgone.seen hseen⟩

end

/-! ## The outcome of the head unit's own frame (R108, R148) -/

theorem holdingNotice_quarantine_other {keep : Byte} {sender : Station} {role : Role} (hx : (s.swap h).held ≠ some x) :
    holdingNotice h (.quarantine x why keep) sender role s = s := if_neg hx

section
variable {w : HeadRecord} {keep head family : Byte} {d : Diameter}
  (hl : s.headsLive = true) (hown : i.own = some (.headUnit h)) (hr : (s.head h).record = some w)
include hl hown hr

/-- The breakage report is settled by either outcome of its QUARANTINE (R148). -/
theorem Takes.report_settled (ht : Takes c i (.quarantine w.serial why keep) out s) (ho : (s.head h).report = .outstanding) :
    ∃ t, exec c s = .next t ∧ t.head h = { s.head h with report := .none, reportRetry := none }
      ∧ ∀ head new old d sp, (s.swap h).state = .mounting → (s.swap h).held = some new → new ≠ w.serial →
          (s.swap h).wants = [.mount (.mount head new old d sp)] → (s.swap h).outstanding = none →
          (t.swap h).outstanding = some ⟨.mount head new old d sp, false, .mounting⟩ ∧ (t.swap h).wants = [] := by
  obtain ⟨u, t, hexec, hu, -, hseen⟩ := ht.head hl nofun nofun h
  have hsettled {refused : Bool} : headOutcome h (.quarantine w.serial why keep) refused u = settleReport h u :=
    headOutcome_quarantine (by rw [hu.head]; exact hr) (by rw [hu.head]; exact ho)
  have hhead : t.head h = (settleReport h u).head h := by
    rw [hseen.head]
    cases out with
    | applied => rw [headNotices_head_applied hown, holdingNotice_head, hsettled]
    | refused => rw [headNotices_head_refused hown, hsettled]
  refine ⟨t, hexec, by rw [hhead, settleReport_head, hu.head], fun head new old d sp hm hx hne hw hnone => ?_⟩
  have hmount := settleReport_mounts (h := h) (s := u) (ht.sends.seen hu) (by rw [hu.swap]; exact hm)
    (by rw [hu.swap]; exact hx) (by rw [hu.swap]; exact hw) (by rw [hu.swap]; exact hnone)
  have hheld : ((settleReport h u).swap h).held = some new := by rw [hmount, hu.swap]; exact hx
  have hswap : t.swap h = (settleReport h u).swap h := by
    rw [hseen.swap]
    cases out with
    | applied =>
      rw [headNotices_head_applied hown, hsettled,
        holdingNotice_quarantine_other (by rw [hheld]; exact fun hc => hne (Option.some.inj hc))]
    | refused => rw [headNotices_head_refused hown, hsettled]
  rw [hswap, hmount]
  exact ⟨rfl, rfl⟩

section
variable (hd : (s.head h).declare = some ⟨.declare head w.serial family d, none⟩)
include hd

/-- The DECLARE that stands ends, and nothing else is changed of the head unit (R108). -/
theorem Takes.declare_ended (ht : Takes c i (.declare head w.serial family d) out s)
    (hout : (∃ tab sel, out = .applied tab sel) ∨ ((∃ reason, out = .refused reason) ∧ w.condition = .broken)) :
    ∃ t, exec c s = .next t ∧ t.head h = { s.head h with declare := none } := by
  obtain ⟨u, t, hexec, hu, -, hseen⟩ := ht.head hl nofun nofun h
  have hrecord : (u.head h).record = some w := by rw [hu.head]; exact hr
  have hdeclare : (u.head h).declare = some ⟨.declare head w.serial family d, none⟩ := by rw [hu.head]; exact hd
  refine ⟨t, hexec, ?_⟩
  rw [hseen.head]
  rcases hout with ⟨tab, sel, rfl⟩ | ⟨⟨reason, rfl⟩, hb⟩
  · rw [headNotices_head_applied hown, holdingNotice_head, headOutcome_declare hrecord hdeclare, swapFrameEnded_head,
      if_neg Bool.false_ne_true, mapHead_head_self, hu.head]
  · have hrecord' : ((u.mapHead h fun x => { x with declare := none }).head h).record = some w := by
      rw [mapHead_head_self]; exact hrecord
    rw [headNotices_head_refused hown, headOutcome_declare hrecord hdeclare, swapFrameEnded_head, if_pos rfl,
      conflictHold_broken hrecord' hb, mapHead_head_self, hu.head]

/-- The refused DECLARE puts the head in HOLD (R108, R129). -/
theorem Takes.declare_conflict (ht : Takes c i (.declare head w.serial family d) (.refused reason) s)
    (hb : w.condition ≠ .broken) :
    ∃ t, exec c s = .next t ∧ (t.head h).declare = none ∧ t.toolOk h = false
      ∧ (t.head h).record = some { w with condition := .hold .conflict }
      ∧ (s.life.fault = false → headId h ∈ t.life.pending) := by
  obtain ⟨u, t, hexec, hu, -, hseen⟩ := ht.head hl nofun nofun h
  have hrecord : (u.head h).record = some w := by rw [hu.head]; exact hr
  have hdeclare : (u.head h).declare = some ⟨.declare head w.serial family d, none⟩ := by rw [hu.head]; exact hd
  have hrecord' : ((u.mapHead h fun x => { x with declare := none }).head h).record = some w := by
    rw [mapHead_head_self]; exact hrecord
  obtain ⟨hhead, hpending⟩ := conflictHold_result hrecord' hb
  rw [mapHead_head_self] at hhead
  rw [headNotices_head_refused hown, headOutcome_declare hrecord hdeclare, if_pos rfl] at hseen
  have hthead := hseen.head.trans ((swapFrameEnded_head h _).trans hhead)
  refine ⟨t, hexec, by rw [hthead], ?_, by rw [hthead], fun hf => hseen.pending _ ?_⟩
  · rw [State.toolOk, State.condition, hthead]
    exact Bool.and_false _
  · exact ((headNoticed_stable h _).swapFrameEnded (.refl h _)).pending _ (hpending (hu.fault.trans hf))

end
end
end
end Sys2Proof.Machine

namespace Sys2Proof.Machine
open State Sys2Proof.Config

/-! ## The store unit's view of the notices (R90) -/

section
variable {s t u : State} {c : Instr} {i : RxItem} {f : PoolFrame} {out : PoolOutcome} {tab : Table} {sel : Option Entry}

/-- The store unit sees no change between `s` and `t`: what changes is the image unit, the receive queue, the pool's table,
a counter, and frames of other senders. -/
structure StoreSeen (s t : State) : Prop where
  rest : t = { s with
    image := t.image, pool := t.pool, counters := t.counters
    fe := { s.fe with
      txQueue := t.fe.txQueue, held := t.fe.held, admissionsDue := t.fe.admissionsDue, rxQueue := t.fe.rxQueue } }
  sync : t.pool.sync = s.pool.sync
  queued : ∀ e : TxEntry, e.origin = .storeUnit → (e ∈ t.fe.txQueue ↔ e ∈ s.fe.txQueue)
  held : ∀ r : Origin × Payload, r.1 = .storeUnit → (r ∈ t.fe.held ↔ r ∈ s.fe.held)

namespace StoreSeen

theorem refl (s : State) : StoreSeen s s := ⟨rfl, rfl, fun _ _ => .rfl, fun _ _ => .rfl⟩

theorem trans (hst : StoreSeen s t) (htu : StoreSeen t u) : StoreSeen s u where
  rest := by rw [htu.rest, hst.rest]
  sync := htu.sync.trans hst.sync
  queued e he := (htu.queued e he).trans (hst.queued e he)
  held r hr := (htu.held r hr).trans (hst.held r hr)

variable (hst : StoreSeen s t)
include hst

theorem store : t.store = s.store := by rw [hst.rest]
theorem life : t.life = s.life := by rw [hst.rest]
theorem levels : t.levels = s.levels := by rw [hst.rest]
theorem timeBase : t.timeBase = s.timeBase := by rw [hst.rest]
theorem synced : t.synced = s.synced := by rw [State.synced, hst.sync]; rfl

theorem sends (hs : Sends s) : Sends t := by
  have hsynced := hst.synced
  refine ⟨?_, ?_⟩
  · rw [← hs.unbarred, State.poolBarred, State.poolBarred, hsynced, hst.rest]
  · rw [← hs.line, hst.rest]

theorem holdsRequest : t.holdsRequest .storeUnit = s.holdsRequest .storeUnit := by
  rw [Bool.eq_iff_iff]
  simp only [State.holdsRequest, List.any_eq_true, beq_iff_eq]
  exact ⟨fun ⟨r, hr, ho⟩ => ⟨r, (hst.held r ho).1 hr, ho⟩, fun ⟨r, hr, ho⟩ => ⟨r, (hst.held r ho).2 hr, ho⟩⟩

end StoreSeen

theorem ImageMoved.storeSeen (ht : ImageMoved s t) : StoreSeen s t where
  rest := by rw [ht.rest]
  sync := by rw [ht.rest]
  queued e he := ht.frames.queued e (by rw [he]; exact nofun)
  held r hr := ht.frames.held r (by rw [hr]; exact nofun)

theorem setRxQueue_storeSeen (q : List RxItem) (s : State) : StoreSeen s (setRxQueue q s) :=
  ⟨rfl, rfl, fun _ _ => .rfl, fun _ _ => .rfl⟩

theorem applyOutcome_storeSeen (i : RxItem) (f : PoolFrame) (out : PoolOutcome) (s : State) :
    StoreSeen s (applyOutcome i f out s) := by
  have hsync := applyOutcome_sync i f out s
  have hrest := applyOutcome_rest i f out s
  generalize applyOutcome i f out s = t at hsync hrest
  refine ⟨by rw [hrest], hsync, fun e _ => ?_, fun r _ => ?_⟩ <;> rw [hrest]

theorem storeLive_not_headsLive (hl : s.storeLive = true) : s.headsLive = false := by
  cases hh : s.headsLive with
  | false => rfl
  | true => exact absurd ((headsLive_not_storeLive s hh).symm.trans hl) nofun

theorem bothSwaps_idle (hl : s.headsLive = false) (g : Head → State → State) : bothSwaps g s = s :=
  if_neg (by rw [hl]; nofun)

theorem cellFrame_headsLive (ht : cellFrame s t) : t.headsLive = s.headsLive := by
  obtain ⟨-, -, hphase, hstraps, -⟩ := ht
  unfold State.headsLive
  rw [hphase, hstraps]

/-- The pool's table behind an outcome (R68). -/
def PoolOutcome.tableAfter (before : Table) : PoolOutcome → Table
  | .applied tab _ => tab
  | .refused _ => before

/-- At a store the frame reaches the store unit alone, and the image unit after it. -/
theorem Takes.store (ht : Takes c i f out s) (hl : s.storeLive = true) : ∃ u t, exec c s = .next t ∧ StoreSeen s u
    ∧ u.pool.table = out.tableAfter s.pool.table
    ∧ StoreSeen (storeNotice f s.pool.table (i.own == some .storeUnit) i.stamp out u) t := by
  obtain ⟨q, q', hexec⟩ := ht.runs
  have hseen := (setRxQueue_storeSeen q s).trans (applyOutcome_storeSeen i f out _)
  have hlive : (applyOutcome i f out (setRxQueue q s)).storeLive = true := by rw [hseen.rest]; exact hl
  have hheads := storeLive_not_headsLive hlive
  have htable : (applyOutcome i f out (setRxQueue q s)).pool.table
      = out.tableAfter s.pool.table := by
    cases out with
    | applied => rfl
    | refused reason => rw [(applyOutcome_refused i f reason _).2]; rfl
  generalize applyOutcome i f out (setRxQueue q s) = u at hexec hseen hlive hheads htable
  have hstore : storeNotices i f s.pool.table out u
      = storeNotice f s.pool.table (i.own == some .storeUnit) i.stamp out u := if_pos hlive
  refine ⟨u, _, hexec, hseen, htable, ?_⟩
  rw [← hstore]
  cases out with
  | refused =>
    rw [poolNotices_refused, bothSwaps_idle hheads]
    exact setRxQueue_storeSeen q' _
  | applied tab sel =>
    have hframe := storeNotices_depot i f s.pool.table (.applied tab sel) u
    rw [poolNotices_applied, bothSwaps_idle hheads, familyNotices_eq,
      bothSwaps_idle ((cellFrame_headsLive hframe.1.1.1).trans hheads)]
    exact (generationNotice_moved _).storeSeen.trans (setRxQueue_storeSeen q' _)

theorem Takes.cell (ht : Takes c i f out s) (hexec : exec c s = .next t) : cellFrame s t := by
  rw [exec_poolCommand ht.kind] at hexec
  rw [← (Host.Outcome.next.inj hexec)]
  exact (cellFrame_stable s).poolCommand i.kind s (cellFrame_refl s)

/-! ## The image unit's view (R91) -/

theorem poolNotices_image (i : RxItem) (f : PoolFrame) (before tab : Table) (sel : Option Entry) (s : State) :
    ∃ v, poolNotices i f before (.applied tab sel) s = generationNotice v ∧ v.image = s.image
      ∧ v.lineFault = s.lineFault := by
  have himage {g : Head → State → State} (hg : ∀ k s, HeadNoticed k s (g k s)) (s : State) :
      (bothSwaps g s).image = s.image := by
    have hkeeps (k : Head) (s : State) : (g k s).image = s.image := by rw [(hg k s).rest]
    unfold bothSwaps
    split
    exacts [(hkeeps _ _).trans (hkeeps _ _), rfl]
  refine ⟨_, poolNotices_applied i f before tab sel s, ?_, ?_⟩
  · obtain ⟨⟨-, -, -, -, -, -, hstore, -⟩, -⟩ := storeNotices_depot i f before (.applied tab sel)
      (bothSwaps (headNotices i f (.applied tab sel)) s)
    rw [familyNotices_eq, himage (headFamily_noticed f tab), hstore, himage (headNotices_noticed i f _)]
  · rw [(familyNotices_kept f tab _).lineFault, (depotFrame_kept (storeNotices_depot i f before _ _)).lineFault,
      (bothSwaps_kept (fun h s => (headNotices_noticed i f _ h s).kept) s).lineFault]

/-- A running transfer starts anew as the generation rises (R99). -/
theorem Takes.generation (ht : Takes c i f (.applied tab sel) s) (hr : s.image.responder = .running) :
    (s.image.restarts < 3 →
        ∃ t, exec c s = .next t ∧ t.image.responder = .queued ∧ t.image.buffer = none
          ∧ t.image.restarts = s.image.restarts + 1)
      ∧ (3 ≤ s.image.restarts → ∃ t, exec c s = .next t ∧ t.image.responder = .idle ∧ t.image.buffer = none) := by
  obtain ⟨q, q', hexec⟩ := ht.runs
  obtain ⟨v, hv, himage, hline⟩ := poolNotices_image i f s.pool.table tab sel
    (applyOutcome i f (.applied tab sel) (setRxQueue q s))
  rw [hv] at hexec
  have himage' : v.image = s.image := himage
  obtain ⟨hagain, hends⟩ := generationNotice_running (s := v) (by rw [himage']; exact hr) (hline.trans ht.line)
  rw [himage'] at hagain hends
  exact ⟨fun hn => ⟨_, hexec, hagain hn⟩, fun hn => ⟨_, hexec, hends hn⟩⟩

end
end Sys2Proof.Machine

namespace Sys2Proof.Machine
open State Sys2Proof.Config

/-! ## RETURNs that are queued (R170) -/

section
variable {s t u : State} {f g : PoolFrame} {x : Serial}

theorem mem_insertJob {now : Time} {j k : Job} {l : List Job} : k ∈ insertJob now j l ↔ k = j ∨ k ∈ l := by
  obtain ⟨before, behind, hl, hi, -⟩ := insertJob_place now j l
  rw [hi, hl, List.mem_append, List.mem_cons, List.mem_append]
  exact or_left_comm

/-- RETURNs have gone into the dispatch queue, and nothing else. -/
structure ReturnsQueued (s t : State) : Prop where
  rest : t = { s with store := { s.store with queue := t.store.queue } }
  kept : ∀ j ∈ s.store.queue, j ∈ t.store.queue
  fetches : ∀ j ∈ t.store.queue, j.kind = .fetch → j ∈ s.store.queue

namespace ReturnsQueued

theorem refl (s : State) : ReturnsQueued s s := ⟨rfl, fun _ => id, fun _ hj _ => hj⟩

theorem trans (hst : ReturnsQueued s t) (htu : ReturnsQueued t u) : ReturnsQueued s u where
  rest := by rw [htu.rest, hst.rest]
  kept j hj := htu.kept j (hst.kept j hj)
  fetches j hj hk := hst.fetches j (htu.fetches j hj hk) hk

end ReturnsQueued

theorem queueReturn_queued (e : Entry) (key : Time) (s : State) : ReturnsQueued s (queueReturn e key s) := by
  unfold queueReturn
  split
  next p _ =>
    unfold queueJob
    split
    · refine ⟨rfl, fun j hj => mem_insertJob.2 (.inr hj), fun j hj hk => (mem_insertJob.1 hj).resolve_left fun he => ?_⟩
      rw [he] at hk
      exact absurd hk nofun
    · exact .refl s
  next => exact .refl s

theorem rescan_queued (s : State) : ReturnsQueued s (rescan s) := by
  unfold rescan
  split
  exacts [queueReturn_queued _ _ s, .refl s]

theorem rescans_queued (n : Nat) (s : State) : ReturnsQueued s (rescans n s) := by
  induction n generalizing s with
  | zero => exact .refl s
  | succ n ih => exact (rescan_queued s).trans (ih _)

/-! ## Submissions of the store unit (R168) -/

/-- The store unit has submitted: statuses of its frames, flags of its claim records, and frames more in the queues. -/
structure Pumped (s t : State) : Prop where
  rest : t = { s with
    store := { s.store with
      claims := t.store.claims, sendList := t.store.sendList, jobFrame := t.store.jobFrame, track := t.store.track }
    fe := { s.fe with txQueue := t.fe.txQueue, held := t.fe.held } }
  frame : t.store.jobFrame.map StoreFrame.frame = s.store.jobFrame.map StoreFrame.frame
  notDue : s.store.jobFrame.filter StoreFrame.isDue = none → t.store.jobFrame = s.store.jobFrame
  track : s.store.track = none → t.store.track = none
  serials : t.store.claims.map ClaimRecord.serial = s.store.claims.map ClaimRecord.serial
  queued : s.fe.txQueue ⊆ t.fe.txQueue
  held : s.fe.held ⊆ t.fe.held

namespace Pumped

theorem refl (s : State) : Pumped s s :=
  ⟨rfl, rfl, fun _ => rfl, id, rfl, List.Subset.refl _, List.Subset.refl _⟩

theorem trans (hst : Pumped s t) (htu : Pumped t u) : Pumped s u where
  rest := by rw [htu.rest, hst.rest]
  frame := htu.frame.trans hst.frame
  notDue hn := (htu.notDue (by rw [hst.notDue hn]; exact hn)).trans (hst.notDue hn)
  track hn := htu.track (hst.track hn)
  serials := htu.serials.trans hst.serials
  queued := List.Subset.trans hst.queued htu.queued
  held := List.Subset.trans hst.held htu.held

end Pumped

theorem submit_held_subset (o : Origin) (p : Payload) (s : State) : s.fe.held ⊆ (submit o p s).1.fe.held := by
  cases hr : s.refusedAtOnce p with
  | true => rw [submit_refused hr]; exact List.Subset.refl _
  | false =>
    cases hroom : s.txRoom with
    | true => rw [submit_admitted hr hroom]; exact List.Subset.refl _
    | false => rw [submit_held hr hroom]; exact List.subset_append_left _ _

theorem submit_pumped (o : Origin) (p : Payload) (s : State) : Pumped s (submit o p s).1 := by
  refine ⟨?_, ?_, fun _ => ?_, fun hn => ?_, ?_, (submit_queues o p s).1, submit_held_subset o p s⟩
  · rw [submit_rest]
  · rw [submit_rest]
  · rw [submit_rest]
  · rw [submit_rest]; exact hn
  · rw [submit_rest]

theorem requestFailed_pumped (f : PoolFrame) (s : State) : Pumped s (requestFailed f s) := by
  have hserials : (requestFailed f s).store.claims.map ClaimRecord.serial = s.store.claims.map ClaimRecord.serial := by
    by_cases hf : ∃ x, f = .release x releaseExpired
    · obtain ⟨x, rfl⟩ := hf
      rw [requestFailed_expired, List.map_map]
      refine List.map_congr_left fun k _ => ?_
      simp only [Function.comp_apply]
      split <;> rfl
    · rw [requestFailed_other fun x hx => hf ⟨x, hx⟩]
  have hrest := requestFailed_rest f s
  generalize requestFailed f s = t at hserials hrest
  rw [hrest]
  rw [hrest] at hserials
  exact ⟨rfl, rfl, fun _ => rfl, id, hserials, List.Subset.refl _, List.Subset.refl _⟩

theorem storeSubmitOne_pumped (s : State) : Pumped s (storeSubmitOne s) := by
  unfold storeSubmitOne
  split
  next jf hjf =>
    obtain ⟨hframe, hdue⟩ := Option.filter_eq_some_iff.1 hjf
    refine (submit_pumped .storeUnit (.pool jf.frame) s).trans ⟨rfl, ?_, fun hn => ?_, id, rfl,
      List.Subset.refl _, List.Subset.refl _⟩
    · rw [submit_rest]
      show some jf.frame = s.store.jobFrame.map _
      rw [hframe]
      rfl
    · rw [submit_rest] at hn
      exact absurd (hjf.symm.trans hn) nofun
  next =>
    split
    next tf htf =>
      refine (submit_pumped .storeUnit (.pool tf.frame) s).trans ⟨rfl, rfl, fun _ => rfl, fun hn => ?_, rfl,
        List.Subset.refl _, List.Subset.refl _⟩
      rw [submit_rest] at hn
      rw [show s.store.track = none from hn] at htf
      exact absurd htf nofun
    next =>
      split
      next => exact .refl s
      next g gs _ =>
        have hsent : Pumped s (s.mapStore fun u => { u with sendList := gs }) :=
          ⟨rfl, rfl, fun _ => rfl, id, rfl, List.Subset.refl _, List.Subset.refl _⟩
        have hsubmit := hsent.trans (submit_pumped .storeUnit (.pool g) _)
        dsimp only
        split
        exacts [hsubmit.trans (requestFailed_pumped g _), hsubmit, hsubmit]

theorem storePumpFrom_pumped (n : Nat) (s : State) : Pumped s (storePumpFrom n s) := by
  induction n generalizing s with
  | zero => exact .refl s
  | succ n ih =>
    unfold storePumpFrom
    split
    exacts [.refl s, (storeSubmitOne_pumped s).trans (ih _)]

theorem storePump_pumped (s : State) : Pumped s (storePump s) := storePumpFrom_pumped 18 s

theorem addRequest_pumped (f : PoolFrame) (s : State) : Pumped s (addRequest f s) := by
  unfold addRequest
  split
  · have hlist : Pumped s (s.mapStore fun u => { u with sendList := u.sendList ++ [f] }) :=
      ⟨rfl, rfl, fun _ => rfl, id, rfl, List.Subset.refl _, List.Subset.refl _⟩
    exact hlist.trans (storePump_pumped _)
  · exact .refl s

theorem claimWatchTest_pumped (x : Serial) (s : State) : Pumped s (claimWatchTest x s) := by
  unfold claimWatchTest
  split
  · split
    · refine Pumped.trans (t := s.mapStore fun u =>
        { u with claims := u.claims.map fun k => if k.serial = x then { k with releasePending := true } else k })
        ⟨rfl, rfl, fun _ => rfl, id, ?_, List.Subset.refl _, List.Subset.refl _⟩ (addRequest_pumped _ _)
      rw [mapStore_store, List.map_map]
      refine List.map_congr_left fun k _ => ?_
      simp only [Function.comp_apply]
      split <;> rfl
    · exact .refl s
  · exact .refl s

/-! ## What arises from an applied frame leaves the job be (R171) -/

/-- A request or a queued job has arisen, and the job in progress goes on. -/
structure Arisen (s t : State) : Prop where
  rest : t = { s with
    store := { s.store with
      queue := t.store.queue, claims := t.store.claims, sendList := t.store.sendList, jobFrame := t.store.jobFrame
      track := t.store.track }
    fe := { s.fe with txQueue := t.fe.txQueue, held := t.fe.held } }
  frame : t.store.jobFrame.map StoreFrame.frame = s.store.jobFrame.map StoreFrame.frame
  notDue : s.store.jobFrame.filter StoreFrame.isDue = none → t.store.jobFrame = s.store.jobFrame
  track : s.store.track = none → t.store.track = none
  queued : s.fe.txQueue ⊆ t.fe.txQueue
  held : s.fe.held ⊆ t.fe.held

theorem Pumped.arisen (ht : Pumped s t) : Arisen s t where
  rest := by rw [ht.rest]
  frame := ht.frame
  notDue := ht.notDue
  track := ht.track
  queued := ht.queued
  held := ht.held

theorem ReturnsQueued.arisen (ht : ReturnsQueued s t) : Arisen s t := by
  refine ⟨by rw [ht.rest], ?_, fun _ => ?_, fun hn => ?_, ?_, ?_⟩ <;> rw [ht.rest]
  exacts [hn, List.Subset.refl _, List.Subset.refl _]

theorem mapStore_arisen {g : StoreUnit → StoreUnit} (hg : g s.store = { s.store with
    queue := (g s.store).queue, claims := (g s.store).claims }) : Arisen s (s.mapStore g) where
  rest := by unfold State.mapStore; rw [hg]
  frame := by rw [mapStore_store, hg]
  notDue _ := by rw [mapStore_store, hg]
  track hn := by rw [mapStore_store, hg]; exact hn
  queued := List.Subset.refl _
  held := List.Subset.refl _

theorem Arisen.trans (hst : Arisen s t) (htu : Arisen t u) : Arisen s u where
  rest := by rw [htu.rest, hst.rest]
  frame := htu.frame.trans hst.frame
  notDue hn := (htu.notDue (by rw [hst.notDue hn]; exact hn)).trans (hst.notDue hn)
  track hn := htu.track (hst.track hn)
  queued := List.Subset.trans hst.queued htu.queued
  held := List.Subset.trans hst.held htu.held

theorem Arisen.refl (s : State) : Arisen s s := (Pumped.refl s).arisen

theorem queueFetch_arisen (e : Entry) (key : Time) (s : State) : Arisen s (queueFetch e key s) := by
  unfold queueFetch
  split
  · split
    · exact .refl s
    · split
      · unfold queueJob
        split
        exacts [mapStore_arisen rfl, .refl s]
      · exact (addRequest_pumped _ s).arisen
  · exact .refl s

/-- Only a CLAIM gives rise to a FETCH. -/
theorem jobArises_queued {changes : List (Option Entry × Option Entry)} {sel : Option Entry} {stamp : Time}
    (hf : f.kind ≠ .claim) (s : State) : ReturnsQueued s (jobArises f changes sel stamp s) := by
  unfold jobArises
  split
  · exact absurd rfl hf
  · split
    exacts [queueReturn_queued _ _ s, .refl s]
  · split
    exacts [queueReturn_queued _ _ s, .refl s]
  · exact .refl s

theorem jobArises_arisen (f : PoolFrame) (changes : List (Option Entry × Option Entry)) (sel : Option Entry)
    (stamp : Time) (s : State) : Arisen s (jobArises f changes sel stamp s) := by
  by_cases hf : f.kind = .claim
  · cases f with
    | claim =>
      unfold jobArises
      dsimp only
      split
      exacts [queueFetch_arisen _ _ s, .refl s]
    | _ => exact absurd hf nofun
  · exact (jobArises_queued hf s).arisen

/-! ## The store notice of an applied frame, step by step (R90) -/

/-- The lists behind an applied frame: the claims that stand, and the jobs that are valid. -/
def storeListed (tab : Table) (sel : Option Entry) (stamp : Time) (s : State) : State :=
  s.mapStore fun u =>
    { u with claims := claimList tab sel stamp u.claims, queue := u.queue.filter (Job.valid tab) }

/-- The lists, the job that arises and the rescans. -/
def storeArisen (f : PoolFrame) (before tab : Table) (sel : Option Entry) (stamp : Time) (s : State) : State :=
  rescans (s.store.queue.countP fun j => !j.valid tab)
    (jobArises f (changedEntries before tab) sel stamp (storeListed tab sel stamp s))

theorem storeApplied_eq (f : PoolFrame) (before tab : Table) (sel : Option Entry) (stamp : Time) (own : Bool)
    (out : PoolOutcome) (s : State) : storeApplied f before tab sel stamp own out s
      = checkpointChanges (changedEntries before tab) (waitingRack (startingTaken f before tab
          (if own then storeOutcome f out (storeArisen f before tab sel stamp s)
            else storeArisen f before tab sel stamp s))) := rfl

theorem storeArisen_arisen (f : PoolFrame) (before tab : Table) (sel : Option Entry) (stamp : Time) (s : State) :
    Arisen s (storeArisen f before tab sel stamp s) :=
  (mapStore_arisen rfl).trans ((jobArises_arisen _ _ _ _ _).trans (rescans_queued _ _).arisen)

theorem storeArisen_queued {before tab : Table} {sel : Option Entry} {stamp : Time} (hf : f.kind ≠ .claim) (s : State) :
    ReturnsQueued (storeListed tab sel stamp s) (storeArisen f before tab sel stamp s) :=
  (jobArises_queued hf _).trans (rescans_queued _ _)

theorem checkpointChanges_rest (changes : List (Option Entry × Option Entry)) (s : State) :
    checkpointChanges changes s = { s with life := (checkpointChanges changes s).life } := by
  refine foldl_stable (P := fun t => t = { s with life := t.life }) _ (fun c t ht => ?_) changes s rfl
  have hpage (id : Nat) : requestCheckpoint id t = { s with life := (requestCheckpoint id t).life } := by
    rw [requestCheckpoint_rest, ht]
  split
  exacts [hpage _, hpage _, ht]

theorem checkpointChanges_pending {changes : List (Option Entry × Option Entry)} {d : Option Entry × Option Entry}
    {id : Nat} (hd : d ∈ changes) (hid : (d.2.or d.1).map (fun e => imagePageId e.pos) = some id)
    (hf : s.life.fault = false) : id ∈ (checkpointChanges changes s).life.pending := by
  have hkeeps (c : Option Entry × Option Entry) {t : State} (hf : t.life.fault = false) :
      (checkpointChanges [c] t).life.fault = false
        ∧ ∀ k ∈ t.life.pending, k ∈ (checkpointChanges [c] t).life.pending := by
    have hpage (id : Nat) : (requestCheckpoint id t).life.fault = false := by rw [requestCheckpoint_rest]; exact hf
    rcases c with ⟨_ | b, _ | a⟩
    exacts [⟨hf, fun _ hk => hk⟩, ⟨hpage _, fun _ => requestCheckpoint_keeps⟩,
      ⟨hpage _, fun _ => requestCheckpoint_keeps⟩, ⟨hpage _, fun _ => requestCheckpoint_keeps⟩]
  have hall (l : List (Option Entry × Option Entry)) : ∀ t : State, t.life.fault = false → id ∈ t.life.pending →
      id ∈ (checkpointChanges l t).life.pending := by
    induction l with
    | nil => exact fun _ _ hm => hm
    | cons c cs ih => exact fun t hft hm => ih _ (hkeeps c hft).1 ((hkeeps c hft).2 _ hm)
  induction changes generalizing s with
  | nil => exact absurd hd List.not_mem_nil
  | cons c cs ih =>
    rcases List.mem_cons.1 hd with rfl | hd
    · refine hall cs _ (hkeeps d hf).1 ?_
      rcases d with ⟨_ | b, _ | a⟩
      · exact absurd hid nofun
      all_goals
        obtain rfl := Option.some.inj hid
        exact requestCheckpoint_mem hf
    · exact ih hd (hkeeps c hf).1

end
end Sys2Proof.Machine

namespace Sys2Proof.Machine
open State Sys2Proof.Config

/-! ## The claim list and the FETCHes behind an applied frame (R170, R178, R179) -/

section
variable {s t u : State} {c : Instr} {i : RxItem} {f : PoolFrame} {tab : Table} {sel : Option Entry} {x : Serial}
  {reason : PoolRefusal} {j : Job}

/-- No claim record and no FETCH is new. -/
structure ListsKept (s t : State) : Prop where
  claims : ∀ k ∈ t.store.claims, ∃ k' ∈ s.store.claims, k'.serial = k.serial
  fetches : ∀ j ∈ t.store.queue, j.kind = .fetch → j ∈ s.store.queue

theorem ListsKept.refl (s : State) : ListsKept s s := ⟨fun k hk => ⟨k, hk, rfl⟩, fun _ hj _ => hj⟩

theorem ListsKept.trans (hst : ListsKept s t) (htu : ListsKept t u) : ListsKept s u where
  claims k hk := by
    obtain ⟨k', hk', hserial'⟩ := htu.claims k hk
    obtain ⟨k'', hk'', hserial''⟩ := hst.claims k' hk'
    exact ⟨k'', hk'', hserial''.trans hserial'⟩
  fetches j hj hk := hst.fetches j (htu.fetches j hj hk) hk

theorem Pumped.lists (ht : Pumped s t) : ListsKept s t where
  claims k hk := by
    have hmem : k.serial ∈ t.store.claims.map ClaimRecord.serial := List.mem_map_of_mem hk
    rw [ht.serials] at hmem
    exact List.mem_map.1 hmem
  fetches j hj _ := by
    rw [ht.rest] at hj
    exact hj

theorem ReturnsQueued.lists (ht : ReturnsQueued s t) : ListsKept s t where
  claims k hk := by
    rw [ht.rest] at hk
    exact ⟨k, hk, rfl⟩
  fetches := ht.fetches

theorem lists_of_eq (hc : t.store.claims = s.store.claims) (hq : t.store.queue = s.store.queue) : ListsKept s t :=
  ⟨fun k hk => ⟨k, hc ▸ hk, rfl⟩, fun _ hj _ => hq ▸ hj⟩

theorem ListsKept.since (h : ListsKept t u) (hc : t.store.claims = s.store.claims) (hq : t.store.queue = s.store.queue) :
    ListsKept s u := (lists_of_eq hc hq).trans h

/-- The job ends, before the table is rescanned. -/
def jobEnded (s : State) : State := s.mapStore fun u =>
  { u with job := none, reservation := none, jobFrame := none, rackWaiting := false, heldCompletion := none }

theorem endJob_queued (s : State) : ReturnsQueued (jobEnded s) (endJob s) := rescan_queued _

theorem endJob_lists (s : State) : ListsKept s (endJob s) :=
  (endJob_queued s).lists.since rfl rfl

/-- The job's DISPATCH is withdrawn, as the job is dropped in STARTING. -/
def dispatchWithdrawn (x : Serial) (s : State) : State :=
  withdrawFrames (fun o p => o == .storeUnit && p == .pool (.dispatch x)) s

theorem dropStarting_eq (x : Serial) (s : State) :
    dropStarting x s = storePump (claimWatchTest x (endJob (dispatchWithdrawn x s))) := rfl

theorem dropStarting_pumped (x : Serial) (s : State) : Pumped (endJob (dispatchWithdrawn x s)) (dropStarting x s) :=
  (claimWatchTest_pumped x _).trans (storePump_pumped _)

theorem dropStarting_lists (x : Serial) (s : State) : ListsKept s (dropStarting x s) :=
  ((endJob_lists (dispatchWithdrawn x s)).trans (dropStarting_pumped x s).lists).since rfl rfl

theorem moveRack_lists (x : Serial) (s : State) : ListsKept s (moveRack x s) := by
  unfold moveRack
  split
  · exact (storePump_pumped _).lists.since rfl rfl
  · exact lists_of_eq rfl rfl

theorem strobeTest_lists (s : State) : ListsKept s (strobeTest s) := by
  unfold strobeTest
  split
  · split
    exacts [lists_of_eq rfl rfl, .refl s]
  · exact .refl s

theorem jobOutcome_lists (f : PoolFrame) (out : PoolOutcome) (s : State) : ListsKept s (jobOutcome f out s) := by
  unfold jobOutcome
  split
  · exact (strobeTest_lists _).since rfl rfl
  · exact dropStarting_lists _ s
  · exact moveRack_lists _ s
  · exact endJob_lists s

theorem trackFrom_lists (low : Nat) (s : State) : ListsKept s (trackFrom low s) := by
  unfold trackFrom
  split
  · exact (storePump_pumped _).lists.since rfl rfl
  · exact lists_of_eq rfl rfl

theorem storeOutcome_lists (f : PoolFrame) (out : PoolOutcome) (s : State) : ListsKept s (storeOutcome f out s) := by
  unfold storeOutcome
  split
  · exact (jobOutcome_lists f out s).trans (storePump_pumped _).lists
  · split
    · exact trackFrom_lists _ s
    · split
      exacts [(requestFailed_pumped f s).lists, .refl s]

theorem startingTaken_lists (f : PoolFrame) (before after : Table) (s : State) :
    ListsKept s (startingTaken f before after s) := by
  unfold startingTaken
  split
  · split
    exacts [dropStarting_lists _ s, .refl s]
  · exact .refl s

theorem waitingRack_lists (s : State) : ListsKept s (waitingRack s) := by
  unfold waitingRack
  split
  · split
    exacts [moveRack_lists _ s, .refl s]
  · exact .refl s

/-- Only a CLAIM selects an entry. -/
theorem applied_selects {fams : List Family} {before : Table} {st : Station} {role : Role} (hf : f.kind ≠ .claim)
    (ho : applyFrame fams before st role f = .applied tab sel) : sel = none := by
  obtain ⟨-, -, hkind⟩ := applyFrame_applied ho
  cases f
  case claim => exact absurd rfl hf
  all_goals
    simp only [applyKind, applyEnter, applyDispatch, applyDeliver, applyMount, applyDeclare, applyRelease,
      applyQuarantine, applyRack, applyRemove] at hkind
    repeat' split at hkind
    all_goals simp_all

theorem claimedIn_iff : claimedIn tab x = true ↔ ∃ e, findSerial tab x = some e ∧ e.state = .claimed := by
  simp [claimedIn, Option.any_eq_true]

/-- A FETCH that stays has its wheel CLAIMED, and its destination at the holder (R170). -/
theorem valid_fetch (hv : j.valid tab = true) (hk : j.kind = .fetch) :
    ∃ e, findSerial tab j.serial = some e ∧ e.state = .claimed ∧ e.place = j.dest := by
  unfold Job.valid at hv
  rw [hk] at hv
  split at hv
  next e hfind _ => exact ⟨e, hfind, by simp_all⟩
  next hk' => exact absurd hk' nofun
  next => exact absurd hv nofun

/-- The changed entries of R90. -/
theorem changed_mem {before after : Table} {e d : Entry} (he : e ∈ before) (hd : findSerial after e.serial = some d)
    (hne : d ≠ e) : (some e, some d) ∈ changedEntries before after :=
  List.mem_append_left _ (List.mem_filterMap.2 ⟨e, he, by simp [hd, hne]⟩)

theorem removed_mem {before after : Table} {e : Entry} (he : e ∈ before) (hd : findSerial after e.serial = none) :
    (some e, none) ∈ changedEntries before after :=
  List.mem_append_left _ (List.mem_filterMap.2 ⟨e, he, by simp [hd]⟩)

theorem added_mem {before after : Table} {e : Entry} (he : e ∈ after) (hd : findSerial before e.serial = none) :
    (none, some e) ∈ changedEntries before after :=
  List.mem_append_right _ (List.mem_filterMap.2 ⟨e, he, by simp [hd]⟩)

/-- The page of an entry that is new, or not as it was. -/
theorem changed_page {before after : Table} {e : Entry} (he : e ∈ after) (hfind : findSerial after e.serial = some e)
    (hne : findSerial before e.serial ≠ some e) : ∃ d ∈ changedEntries before after,
      (d.2.or d.1).map (fun e => imagePageId e.pos) = some (16 + e.pos / 11) := by
  cases hb : findSerial before e.serial with
  | none => exact ⟨_, added_mem he hb, rfl⟩
  | some b =>
    obtain ⟨hmem, hserial⟩ := findSerial_mem hb
    exact ⟨_, changed_mem hmem (by rw [hserial]; exact hfind) fun hbe => hne (by rw [hb, hbe]), rfl⟩

theorem faultClear_stable : DepotStable fun t => t.life.fault = false where
  mapPending g t hg ht := by
    obtain ⟨p, hp⟩ := hg t.life
    show (g t.life).fault = false
    rw [hp]
    exact ht
  mapFe _ _ _ ht := ht
  mapStore _ _ ht := ht
  setReady _ _ ht := ht
  setDone _ ht := ht
  setFault _ ht := ht

theorem Takes.store_applied (ht : Takes c i f (.applied tab sel) s) (hl : s.storeLive = true) :
    ∃ u t, exec c s = .next t ∧ StoreSeen s u ∧ u.pool.table = tab
      ∧ StoreSeen (storeApplied f s.pool.table tab sel i.stamp (i.own == some .storeUnit) (.applied tab sel) u) t := by
  obtain ⟨u, t, hexec, hu, htable, hseen⟩ := ht.store hl
  exact ⟨u, t, hexec, hu, htable, hseen⟩

/-- The pages of changed positions are requested, and no claim or FETCH outlives its wheel's CLAIMED state. -/
theorem Takes.store_lists (ht : Takes c i f (.applied tab sel) s) (hl : s.storeLive = true) :
    ∃ t, exec c s = .next t
      ∧ (s.life.fault = false → ∀ e, findSerial tab e.serial = some e → findSerial s.pool.table e.serial ≠ some e →
          e ∈ tab → 16 + e.pos / 11 ∈ t.life.pending)
      ∧ (s.life.fault = false → ∀ e ∈ s.pool.table, findSerial tab e.serial = none →
          16 + e.pos / 11 ∈ t.life.pending)
      ∧ (f.kind ≠ .claim → ∀ k ∈ t.store.claims, ∃ e, findSerial tab k.serial = some e ∧ e.state = .claimed)
      ∧ (f.kind ≠ .claim → ∀ j ∈ t.store.queue, j.kind = .fetch →
          ∃ e, findSerial tab j.serial = some e ∧ e.state = .claimed ∧ e.place = j.dest) := by
  obtain ⟨u, t, hexec, hu, -, hseen⟩ := ht.store_applied hl
  rw [storeApplied_eq] at hseen
  generalize ha : storeArisen f s.pool.table tab sel i.stamp u = a at hseen
  have hlists : ListsKept a (waitingRack (startingTaken f s.pool.table tab
      (if (i.own == some .storeUnit) = true then storeOutcome f (.applied tab sel) a else a))) := by
    refine .trans ?_ ((startingTaken_lists _ _ _ _).trans (waitingRack_lists _))
    split
    exacts [storeOutcome_lists _ _ a, .refl a]
  have hfault (hf : s.life.fault = false) : (waitingRack (startingTaken f s.pool.table tab
      (if (i.own == some .storeUnit) = true then storeOutcome f (.applied tab sel) a else a))).life.fault = false := by
    have hfa : a.life.fault = false := by
      rw [← ha, (storeArisen_arisen f s.pool.table tab sel i.stamp u).rest]
      exact (congrArg (·.fault) hu.life).trans hf
    refine faultClear_stable.waitingRack _ (faultClear_stable.startingTaken _ _ _ _ ?_)
    split
    exacts [faultClear_stable.storeOutcome _ _ _ hfa, hfa]
  generalize waitingRack (startingTaken f s.pool.table tab
    (if (i.own == some .storeUnit) = true then storeOutcome f (.applied tab sel) a else a)) = b at hseen hlists hfault
  have hstore : t.store = b.store := by rw [hseen.store, checkpointChanges_rest]
  have hpage {d : Option Entry × Option Entry} {id : Nat} (hf : s.life.fault = false)
      (hd : d ∈ changedEntries s.pool.table tab) (hid : (d.2.or d.1).map (fun e => imagePageId e.pos) = some id) :
      id ∈ t.life.pending := by
    rw [hseen.life]
    exact checkpointChanges_pending hd hid (hfault hf)
  have hlisted (hk : f.kind ≠ .claim) := ((storeArisen_queued (before := s.pool.table) (tab := tab) (sel := sel)
    (stamp := i.stamp) hk u).trans (ha ▸ .refl _)).lists.trans hlists
  refine ⟨t, hexec, fun hf e hfind hne he => ?_, fun hf e he hfind => ?_, fun hk k hmem => ?_, fun hk j hmem hfetch => ?_⟩
  · obtain ⟨d, hd, hid⟩ := changed_page he hfind hne
    exact hpage hf hd hid
  · exact hpage hf (removed_mem he hfind) rfl
  · have hall := hlisted hk
    rw [hstore] at hmem
    obtain ⟨k', hk', hserial⟩ := hall.claims k hmem
    rw [applied_selects hk ht.out] at hk'
    rw [← hserial]
    exact claimedIn_iff.1 (List.mem_filter.1 hk').2
  · have hall := hlisted hk
    rw [hstore] at hmem
    exact valid_fetch (List.mem_filter.1 (hall.fetches j hmem hfetch)).2 hfetch

end
end Sys2Proof.Machine

namespace Sys2Proof.Machine
open State Sys2Proof.Config

/-! ## The job that arises from an applied frame (R170, R171) -/

section
variable {s t u : State} {c : Instr} {i : RxItem} {f : PoolFrame} {tab : Table} {sel : Option Entry} {x : Serial}
  {reason : PoolRefusal} {j : Job} {out : PoolOutcome}

theorem startingTaken_noJob (hj : s.store.job = none) (f : PoolFrame) (before after : Table) :
    startingTaken f before after s = s := by
  unfold startingTaken
  rw [hj]

theorem waitingRack_noJob (hj : s.store.job = none) : waitingRack s = s := by
  unfold waitingRack
  rw [hj]

theorem waitingRack_idle (hr : s.store.rackWaiting = false) : waitingRack s = s := by
  unfold waitingRack
  split
  · exact if_neg fun hc => Bool.false_ne_true (hr.symm.trans hc.1)
  · rfl

theorem queueJob_mem (hj : s.store.job = none) (hn : ∀ q ∈ s.store.queue, q.serial ≠ j.serial)
    (hroom : s.store.queue.length < 16) : j ∈ (queueJob j s).store.queue := by
  have htakes : s.store.takesJob j.serial = true := by
    simp only [StoreUnit.takesJob, StoreUnit.hasJob, hj, Option.any_none, Bool.or_false, Bool.and_eq_true, Bool.not_eq_true',
      List.any_eq_false, beq_iff_eq, decide_eq_true_eq]
    exact ⟨hn, hroom⟩
  unfold queueJob
  rw [if_pos htakes]
  exact mem_insertJob.2 (.inl rfl)

/-- An entry changed in its serial is found by its new value. -/
theorem changed_find {before : Table} {e e' : Entry} {p : Entry → Bool} (he : findSerial before x = some e)
    (he' : findSerial tab x = some e') (hne : e ≠ e') (hp : p e' = true) (hpx : ∀ d, p d = true → d.serial = x) :
    ∃ b, (changedEntries before tab).find? (fun c => c.2.any p) = some (b, some e') := by
  obtain ⟨hmem, hserial⟩ := findSerial_mem he
  have hchanged : (some e, some e') ∈ changedEntries before tab :=
    changed_mem hmem (by rw [hserial]; exact he') hne.symm
  have hafter {b : Option Entry} {d : Entry} (hd : d.serial = x) (hm : (b, some d) ∈ changedEntries before tab) :
      d = e' := by
    rcases List.mem_append.1 hm with hm | hm
    · obtain ⟨b', -, hbd⟩ := List.mem_filterMap.1 hm
      dsimp only at hbd
      split at hbd
      · exact absurd hbd nofun
      · have hfind : findSerial tab b'.serial = some d := (Prod.mk.inj (Option.some.inj hbd)).2
        rw [← (findSerial_mem hfind).2, hd, he'] at hfind
        exact (Option.some.inj hfind).symm
    · obtain ⟨b', -, hbd⟩ := List.mem_filterMap.1 hm
      split at hbd
      next hnone =>
        obtain rfl := Option.some.inj (Prod.mk.inj (Option.some.inj hbd)).2
        rw [hd, he] at hnone
        exact absurd hnone nofun
      · exact absurd hbd nofun
  cases hfind : (changedEntries before tab).find? (fun c => c.2.any p) with
  | none => exact absurd hp (by simpa using List.find?_eq_none.1 hfind _ hchanged)
  | some d =>
    have hany : d.2.any p = true := List.find?_some (p := fun c : Option Entry × Option Entry => c.2.any p) hfind
    obtain ⟨d', hd', hpd⟩ := (Option.any_eq_true _ _).1 hany
    have hm := List.mem_of_find?_eq_some hfind
    obtain ⟨b, d₂⟩ := d
    obtain rfl : d₂ = some d' := hd'
    rw [hafter (hpx d' hpd) hm]
    exact ⟨b, rfl⟩

theorem mem_claimList {e : Entry} {stamp : Time} {claims : List ClaimRecord} :
    ⟨e.serial, (e.holder.map Holder.station).getD 0, stamp, false, false⟩ ∈ claimList tab (some e) stamp claims :=
  List.mem_append_right _ List.mem_cons_self

/-- A store with no job in progress takes its lists and its job alone from a frame of another station. -/
theorem Takes.store_other (ht : Takes c i f (.applied tab sel) s) (hl : s.storeLive = true) (hown : i.own = none)
    (hj : s.store.job = none) : ∃ u t, exec c s = .next t ∧ u.store = s.store
      ∧ t.store = (storeArisen f s.pool.table tab sel i.stamp u).store := by
  obtain ⟨u, t, hexec, hu, -, hseen⟩ := ht.store_applied hl
  have harisen := storeArisen_arisen f s.pool.table tab sel i.stamp u
  have hnone : (storeArisen f s.pool.table tab sel i.stamp u).store.job = none := by
    rw [harisen.rest]
    exact (congrArg (·.job) hu.store).trans hj
  rw [storeApplied_eq, hown, if_neg (by exact nofun), startingTaken_noJob hnone, waitingRack_noJob hnone] at hseen
  exact ⟨u, t, hexec, hu.store, by rw [hseen.store, checkpointChanges_rest]⟩

section
variable (hl : s.storeLive = true) (hown : i.own = none) (hj : s.store.job = none)
  (hroom : s.store.queue.length < 16)
include hl hown hj hroom

/-- A CLAIM gives a claim record and a FETCH (R171, R178). -/
theorem Takes.claim_fetches {e : Entry} {k : Holder} {n : BitVec 6}
    (ht : Takes c i f (.applied tab (some e)) s) (hf : f.kind = .claim) (hk : e.holder = some k) (hn : e.slot = some n)
    (hnew : ∀ q ∈ s.store.queue, q.serial ≠ e.serial) :
    ∃ t, exec c s = .next t ∧ ⟨e.serial, k.station, i.stamp, false, false⟩ ∈ t.store.claims
      ∧ ⟨.fetch, e.serial, .slot n, some (.change k.station k.head), i.stamp⟩ ∈ t.store.queue := by
  obtain ⟨u, t, hexec, hu, hstore⟩ := ht.store_other hl hown hj
  refine ⟨t, hexec, ?_⟩
  rw [hstore]
  generalize ha : storeListed tab (some e) i.stamp u = a
  have hclaims : ⟨e.serial, k.station, i.stamp, false, false⟩ ∈ a.store.claims := by
    have hmem := mem_claimList (tab := tab) (e := e) (stamp := i.stamp) (claims := u.store.claims)
    rw [hk] at hmem
    rw [← ha]
    exact hmem
  have hnone : a.store.job = none := by rw [← ha]; exact (congrArg (·.job) hu).trans hj
  have hqueue : a.store.queue = s.store.queue.filter (Job.valid tab) := by rw [← ha, ← hu]; rfl
  have hnew' : ∀ q ∈ a.store.queue, q.serial ≠ e.serial := fun q hq => by
    rw [hqueue] at hq
    exact hnew q (List.mem_filter.1 hq).1
  have hroom' : a.store.queue.length < 16 := by
    rw [hqueue]
    exact Nat.lt_of_le_of_lt (List.length_filter_le _ _) hroom
  have hjob : (a.store.hasJob e.serial) = false := by
    simp only [StoreUnit.hasJob, hnone, Option.any_none, Bool.or_false, List.any_eq_false, beq_iff_eq]
    exact hnew'
  have harises : jobArises f (changedEntries s.pool.table tab) (some e) i.stamp a
      = queueJob ⟨.fetch, e.serial, .slot n, some (.change k.station k.head), i.stamp⟩ a := by
    have hfetch : queueFetch e i.stamp a
        = queueJob ⟨.fetch, e.serial, .slot n, some (.change k.station k.head), i.stamp⟩ a := by
      unfold queueFetch Entry.place
      rw [hn, hk]
      dsimp only [Option.map_some]
      rw [if_neg (by rw [hjob]; exact nofun)]
      exact if_pos hroom'
    cases f with
    | claim => exact hfetch
    | _ => exact absurd hf nofun
  have hmem : (⟨.fetch, e.serial, .slot n, some (.change k.station k.head), i.stamp⟩ : Job)
      ∈ (queueJob ⟨.fetch, e.serial, .slot n, some (.change k.station k.head), i.stamp⟩ a).store.queue :=
    queueJob_mem hnone hnew' hroom'
  have hkept : (queueJob ⟨.fetch, e.serial, .slot n, some (.change k.station k.head), i.stamp⟩ a).store.claims
      = a.store.claims := by
    unfold queueJob
    split <;> rfl
  unfold storeArisen
  rw [ha, harises]
  have hscans := rescans_queued (u.store.queue.countP fun j => !j.valid tab)
    (queueJob ⟨.fetch, e.serial, .slot n, some (.change k.station k.head), i.stamp⟩ a)
  refine ⟨?_, hscans.kept _ hmem⟩
  rw [hscans.rest]
  exact hkept ▸ hclaims

/-- A wheel that comes to stand at a change position is called back (R171). -/
theorem Takes.return_arises {e e' : Entry} {k : Holder} (ht : Takes c i f (.applied tab sel) s)
    (he : findSerial s.pool.table x = some e) (he' : findSerial tab x = some e') (hne : e ≠ e')
    (hk : e'.holder = some k)
    (hf : ((∃ y, f = .release x y) ∧ e'.state = .returning)
      ∨ ((∃ head new d sp, f = .mount head new x d sp)
        ∧ (e'.state = .returning ∨ (e'.state = .quarantined ∧ k.atChange = true))))
    (hnew : ∀ q ∈ s.store.queue, q.serial ≠ x) :
    ∃ t, exec c s = .next t ∧ ⟨.ret, x, .change k.station k.head, none, i.stamp⟩ ∈ t.store.queue := by
  obtain ⟨u, t, hexec, hu, hstore⟩ := ht.store_other hl hown hj
  refine ⟨t, hexec, ?_⟩
  rw [hstore]
  generalize ha : storeListed tab sel i.stamp u = a
  have hnone : a.store.job = none := by rw [← ha]; exact (congrArg (·.job) hu).trans hj
  have hqueue : a.store.queue = s.store.queue.filter (Job.valid tab) := by rw [← ha, ← hu]; rfl
  have hnew' : ∀ q ∈ a.store.queue, q.serial ≠ x := fun q hq => by
    rw [hqueue] at hq
    exact hnew q (List.mem_filter.1 hq).1
  have hroom' : a.store.queue.length < 16 := by
    rw [hqueue]
    exact Nat.lt_of_le_of_lt (List.length_filter_le _ _) hroom
  have hserial' := (findSerial_mem he').2
  have harises : jobArises f (changedEntries s.pool.table tab) sel i.stamp a
      = queueJob ⟨.ret, x, .change k.station k.head, none, i.stamp⟩ a := by
    have hreturn : queueReturn e' i.stamp a = queueJob ⟨.ret, x, .change k.station k.head, none, i.stamp⟩ a := by
      unfold queueReturn Entry.place
      rw [hk, hserial']
      rfl
    rw [← hreturn]
    unfold jobArises
    rcases hf with ⟨⟨y, rfl⟩, hst⟩ | ⟨⟨head, new, d, sp, rfl⟩, hst⟩
    · obtain ⟨b, hb⟩ := changed_find he he' hne (p := fun e => e.serial == x && e.state == .returning)
        (by simp [hserial', hst])
        fun d hd => by simp at hd; exact hd.1
      dsimp only
      rw [hb]
    · have hreturnable : e'.returnable = true := by
        unfold Entry.returnable
        rcases hst with hst | ⟨hst, hat⟩
        · simp [hst]
        · simp [hst, hk, hat]
      obtain ⟨b, hb⟩ := changed_find he he' hne (p := fun e => e.serial == x && e.returnable)
        (by simp [hserial', hreturnable])
        fun d hd => by simp at hd; exact hd.1
      dsimp only
      rw [hb]
  unfold storeArisen
  rw [ha, harises]
  exact (rescans_queued _ _).kept _ (queueJob_mem hnone hnew' hroom')

end

end
end Sys2Proof.Machine

namespace Sys2Proof.Machine
open State Sys2Proof.Config

/-! ## The outcome of the job frame (R172, R174, R176) -/

section
variable {s t u : State} {c : Instr} {i : RxItem} {f : PoolFrame} {tab : Table} {sel : Option Entry} {x : Serial}
  {reason : PoolRefusal} {j : Job} {out : PoolOutcome} {p : JobPhase}

theorem Pumped.store (ht : Pumped s t) : t.store = { s.store with
    claims := t.store.claims, sendList := t.store.sendList, jobFrame := t.store.jobFrame, track := t.store.track } := by
  rw [ht.rest]

/-- A job without a frame stays without one. -/
theorem Pumped.noFrame (ht : Pumped s t) (hn : s.store.jobFrame = none) : t.store.jobFrame = none := by
  rw [ht.notDue (by rw [hn]; rfl), hn]

/-- What the outcome of the job frame depends on is as it was. -/
structure JobSeen (s t : State) : Prop where
  store : t.store = { s.store with
    queue := t.store.queue, claims := t.store.claims, sendList := t.store.sendList, track := t.store.track }
  levels : t.levels = s.levels
  timeBase : t.timeBase = s.timeBase

theorem StoreSeen.jobSeen (ht : StoreSeen s t) : JobSeen s t := ⟨by rw [ht.store], ht.levels, ht.timeBase⟩

theorem Arisen.jobSeen (ht : Arisen s t) (hn : s.store.jobFrame.filter StoreFrame.isDue = none) : JobSeen s t := by
  have hstore : t.store = { s.store with
      queue := t.store.queue, claims := t.store.claims, sendList := t.store.sendList, jobFrame := t.store.jobFrame
      track := t.store.track } := by rw [ht.rest]
  rw [ht.notDue hn] at hstore
  exact ⟨hstore, by rw [ht.rest], by rw [ht.rest]⟩

theorem JobSeen.trans (hst : JobSeen s t) (htu : JobSeen t u) : JobSeen s u where
  store := by rw [htu.store, hst.store]
  levels := htu.levels.trans hst.levels
  timeBase := htu.timeBase.trans hst.timeBase

section
variable (hl : s.storeLive = true) (hown : i.own = some .storeUnit) (hjf : s.store.jobFrame = some ⟨f, .submitted⟩)
include hl hown hjf

/-- The applied job frame takes effect, and after it a taken job is dropped and a waiting RACK goes. -/
theorem Takes.job_applied (ht : Takes c i f (.applied tab sel) s) : ∃ a t, exec c s = .next t ∧ JobSeen s a
    ∧ t.store = (waitingRack (startingTaken f s.pool.table tab (storePump (jobOutcome f (.applied tab sel) a)))).store := by
  obtain ⟨u, t, hexec, hu, -, hseen⟩ := ht.store_applied hl
  have ha : JobSeen s (storeArisen f s.pool.table tab sel i.stamp u) :=
    hu.jobSeen.trans ((storeArisen_arisen f s.pool.table tab sel i.stamp u).jobSeen (by rw [hu.store, hjf]; rfl))
  have hawaits : (storeArisen f s.pool.table tab sel i.stamp u).store.awaitsJob f = true := by
    rw [awaitsJob_iff, ha.store]
    exact hjf
  refine ⟨_, t, hexec, ha, ?_⟩
  rw [hseen.store, storeApplied_eq, hown, checkpointChanges_rest, if_pos (by rfl), storeOutcome, if_pos hawaits]

theorem Takes.job_refused (ht : Takes c i f (.refused reason) s) : ∃ a t, exec c s = .next t ∧ StoreSeen s a
    ∧ a.pool.table = s.pool.table ∧ t.store = (storePump (jobOutcome f (.refused reason) a)).store := by
  obtain ⟨u, t, hexec, hu, htable, hseen⟩ := ht.store hl
  have hawaits : u.store.awaitsJob f = true := by
    rw [awaitsJob_iff, hu.store]
    exact hjf
  refine ⟨u, t, hexec, hu, htable, ?_⟩
  rw [hseen.store, hown, storeNotice, if_pos (by rfl), storeOutcome, if_pos hawaits]

end

/-! ### The DISPATCH -/

theorem startingTaken_dispatch (before after : Table) (s : State) : startingTaken (.dispatch x) before after s = s := by
  unfold startingTaken
  split
  · exact if_neg fun hc => by simp [PoolFrame.kind] at hc
  · rfl

/-- The job is ARMED, before the strobe is tested. -/
def jobArmed (s : State) : State := setPhase .armed (s.mapStore fun u => { u with jobFrame := none })

theorem jobArmed_job (hj : s.store.job = some ⟨j, p⟩) : (jobArmed s).store.job = some ⟨j, .armed⟩ := by
  simp only [jobArmed, setPhase, mapStore_store, hj, Option.map_some]

theorem strobeTest_waits (hw : s.levels.gantryReady = false ∨ s.store.faultLatch = true) : strobeTest s = s := by
  unfold strobeTest
  split
  · refine if_neg fun ⟨_, hready, hlatch⟩ => ?_
    rcases hw with hw | hw
    · exact absurd (hready.symm.trans hw) nofun
    · rw [hw] at hlatch
      exact absurd hlatch nofun
  · rfl

theorem strobeTest_strobes (hj : s.store.job = some ⟨j, .armed⟩) (hready : s.levels.gantryReady = true)
    (hlatch : s.store.faultLatch = false) (hk : j.kind = .fetch) : strobeTest s
      = s.mapStore fun u => { u with job := some ⟨j, .moving⟩, strobe := some ⟨s.timeBase, 1000⟩ } := by
  unfold strobeTest
  rw [hj]
  dsimp only
  rw [if_pos ⟨rfl, hready, by rw [hlatch]; rfl⟩, hk]
  rfl

theorem strobeTest_rackWaiting (s : State) : (strobeTest s).store.rackWaiting = s.store.rackWaiting := by
  unfold strobeTest
  split
  · split <;> rfl
  · rfl

section
variable (hl : s.storeLive = true) (hown : i.own = some .storeUnit)
  (hjf : s.store.jobFrame = some ⟨.dispatch x, .submitted⟩)
include hl hown hjf

/-- The strobe is tested as the DISPATCH is applied, and nothing after it changes the job. -/
theorem Takes.dispatch_applied (ht : Takes c i (.dispatch x) (.applied tab sel) s) (hwait : s.store.rackWaiting = false) :
    ∃ a v t, exec c s = .next t ∧ JobSeen s a ∧ Pumped (strobeTest (jobArmed a)) v ∧ t.store = v.store := by
  obtain ⟨a, t, hexec, ha, hstore⟩ := ht.job_applied hl hown hjf
  have hpumped := storePump_pumped (strobeTest (jobArmed a))
  have hidle : (storePump (strobeTest (jobArmed a))).store.rackWaiting = false := by
    rw [hpumped.store]
    show (strobeTest (jobArmed a)).store.rackWaiting = false
    rw [strobeTest_rackWaiting]
    show a.store.rackWaiting = false
    rw [ha.store]
    exact hwait
  refine ⟨a, _, t, hexec, ha, hpumped, ?_⟩
  rw [hstore, startingTaken_dispatch]
  exact congrArg State.store (waitingRack_idle hidle)

/-- An applied DISPATCH arms the job (R172). -/
theorem Takes.dispatch_arms (ht : Takes c i (.dispatch x) (.applied tab sel) s) (hwait : s.store.rackWaiting = false)
    (hj : s.store.job = some ⟨j, p⟩) (hw : s.levels.gantryReady = false ∨ s.store.faultLatch = true) :
    ∃ t, exec c s = .next t ∧ t.store.job = some ⟨j, .armed⟩ ∧ t.store.jobFrame = none
      ∧ t.store.strobe = s.store.strobe := by
  obtain ⟨a, v, t, hexec, ha, hv, hstore⟩ := ht.dispatch_applied hl hown hjf hwait
  have hj' : a.store.job = some ⟨j, p⟩ := by rw [ha.store]; exact hj
  have hlatch : a.store.faultLatch = s.store.faultLatch := by rw [ha.store]
  have hstrobe : a.store.strobe = s.store.strobe := by rw [ha.store]
  rw [strobeTest_waits (by rw [← ha.levels, ← hlatch] at hw; exact hw)] at hv
  refine ⟨t, hexec, ?_⟩
  rw [hstore]
  refine ⟨?_, hv.noFrame rfl, ?_⟩
  · rw [hv.store]
    exact jobArmed_job hj'
  · rw [hv.store]
    exact hstrobe

/-- An armed FETCH is strobed at once while the gantry is ready (R174). -/
theorem Takes.dispatch_moves (ht : Takes c i (.dispatch x) (.applied tab sel) s) (hwait : s.store.rackWaiting = false)
    (hj : s.store.job = some ⟨j, p⟩) (hready : s.levels.gantryReady = true) (hlatch : s.store.faultLatch = false)
    (hk : j.kind = .fetch) :
    ∃ t, exec c s = .next t ∧ t.store.job = some ⟨j, .moving⟩ ∧ t.store.jobFrame = none
      ∧ t.store.strobe = some ⟨s.timeBase, 1000⟩ := by
  obtain ⟨a, v, t, hexec, ha, hv, hstore⟩ := ht.dispatch_applied hl hown hjf hwait
  have hj' : a.store.job = some ⟨j, p⟩ := by rw [ha.store]; exact hj
  have hlatch' : a.store.faultLatch = false := by rw [ha.store]; exact hlatch
  rw [strobeTest_strobes (jobArmed_job hj') (by rw [← ha.levels] at hready; exact hready) hlatch' hk] at hv
  refine ⟨t, hexec, ?_⟩
  rw [hstore]
  refine ⟨?_, hv.noFrame rfl, ?_⟩
  · rw [hv.store]
    rfl
  · rw [hv.store]
    show some (⟨a.timeBase, 1000⟩ : Timer) = _
    rw [ha.timeBase]

/-- A refused DISPATCH drops the job (R172). -/
theorem Takes.dispatch_drops (ht : Takes c i (.dispatch x) (.refused reason) s) :
    ∃ t, exec c s = .next t ∧ t.store.job = none ∧ t.store.jobFrame = none := by
  obtain ⟨a, t, hexec, -, -, hstore⟩ := ht.job_refused hl hown hjf
  have hends := endJob_queued (dispatchWithdrawn x a)
  have hpumped : Pumped (endJob (dispatchWithdrawn x a)) (storePump (jobOutcome (.dispatch x) (.refused reason) a)) :=
    (dropStarting_pumped x a).trans (storePump_pumped _)
  refine ⟨t, hexec, ?_⟩
  rw [hstore]
  refine ⟨?_, hpumped.noFrame ?_⟩
  · rw [hpumped.store, hends.rest]
    rfl
  · rw [hends.rest]
    rfl

end

/-! ### The completion (R176) -/

/-- A completion ends the job, unless it is a RACK to a slot that is taken. -/
theorem jobOutcome_ends (hf : f.kind ≠ .dispatch) (ho : out ≠ .refused .slotTaken) (s : State) :
    jobOutcome f out s = endJob s := by
  unfold jobOutcome
  split
  exacts [absurd rfl hf, absurd rfl hf, absurd rfl ho, rfl]

theorem endJob_pump (s : State) : (storePump (endJob s)).store.job = none ∧ (storePump (endJob s)).store.reservation = none
    ∧ (storePump (endJob s)).store.jobFrame = none := by
  have hends := endJob_queued s
  have hpumped := storePump_pumped (endJob s)
  refine ⟨?_, ?_, hpumped.noFrame ?_⟩
  · rw [hpumped.store, hends.rest]; rfl
  · rw [hpumped.store, hends.rest]; rfl
  · rw [hends.rest]; rfl

theorem freeSlot_eq_none (h : ∀ n : BitVec 6, n.toNat < 48 → slotNamed tab n = true) : freeSlot tab = none := by
  unfold freeSlot
  rw [Option.map_eq_none_iff, List.find?_eq_none]
  intro n hn
  have hlt : n < 48 := List.mem_range.1 hn
  rw [h (BitVec.ofNat 6 n) (by rw [BitVec.toNat_ofNat]; omega)]
  exact nofun

theorem freeSlot_eq_some {n : BitVec 6} (hn : n.toNat < 48) (hfree : slotNamed tab n = false)
    (hlow : ∀ k : BitVec 6, k.toNat < n.toNat → slotNamed tab k = true) : freeSlot tab = some n := by
  have hfind : (List.range slotCount).find? (fun n => !slotNamed tab (BitVec.ofNat 6 n)) = some n.toNat := by
    rw [List.find?_range_eq_some]
    refine ⟨by rw [BitVec.ofNat_toNat, BitVec.setWidth_eq, hfree]; rfl, List.mem_range.2 hn, fun k hk => ?_⟩
    rw [hlow (BitVec.ofNat 6 k) (by rw [BitVec.toNat_ofNat]; omega)]
    rfl
  unfold freeSlot
  rw [hfind, Option.map_some, BitVec.ofNat_toNat, BitVec.setWidth_eq]

/-- A pump submits the job frame first. -/
theorem storePump_jobFrame (hs : Sends s) (hf : f.kind ≠ .claim) (hjf : s.store.jobFrame = some ⟨f, .due⟩)
    (hheld : s.holdsRequest .storeUnit = false) : (storePump s).store.jobFrame = some ⟨f, .submitted⟩ := by
  have hfirst : (storeSubmitOne s).store.jobFrame = some ⟨f, .submitted⟩ := by
    have htaken := submit_taken (hs.takes hf) .storeUnit
    unfold storeSubmitOne
    rw [hjf]
    show some (⟨f, s.submitStatus (submit .storeUnit (.pool f) s).2⟩ : StoreFrame) = _
    generalize (submit .storeUnit (.pool f) s).2 = r at htaken
    cases r with
    | notSent => exact absurd rfl htaken
    | admitted | held => rfl
  have hpump : storePump s = storePumpFrom 17 (storeSubmitOne s) := if_neg (by rw [hheld]; nofun)
  rw [hpump, (storePumpFrom_pumped 17 _).notDue (by rw [hfirst]; rfl), hfirst]

section
variable (hl : s.storeLive = true) (hown : i.own = some .storeUnit) (hjf : s.store.jobFrame = some ⟨f, .submitted⟩)
include hl hown hjf

/-- The outcome of a completion ends the job. -/
theorem Takes.completion_ends (ht : Takes c i f out s) (hf : f.kind ≠ .dispatch) (ho : out ≠ .refused .slotTaken) :
    ∃ t, exec c s = .next t ∧ t.store.job = none ∧ t.store.reservation = none ∧ t.store.jobFrame = none := by
  cases out with
  | applied tab sel =>
    obtain ⟨a, t, hexec, -, hstore⟩ := ht.job_applied hl hown hjf
    rw [jobOutcome_ends hf ho] at hstore
    obtain ⟨hjob, hrest⟩ := endJob_pump a
    rw [startingTaken_noJob hjob, waitingRack_noJob hjob] at hstore
    refine ⟨t, hexec, ?_⟩
    rw [hstore]
    exact ⟨hjob, hrest⟩
  | refused reason =>
    obtain ⟨a, t, hexec, -, -, hstore⟩ := ht.job_refused hl hown hjf
    rw [jobOutcome_ends hf ho] at hstore
    refine ⟨t, hexec, ?_⟩
    rw [hstore]
    exact endJob_pump a

end

section
variable {slot : Byte} (hl : s.storeLive = true) (hown : i.own = some .storeUnit)
  (hjf : s.store.jobFrame = some ⟨.rack x slot, .submitted⟩) (hj : s.store.job = some ⟨j, p⟩)
include hl hown hjf hj

/-- A RACK refused SLOT_TAKEN moves to the next free slot. -/
theorem Takes.rack_moves (ht : Takes c i (.rack x slot) (.refused .slotTaken) s) {n : BitVec 6}
    (hfree : freeSlot s.pool.table = some n) :
    ∃ t, exec c s = .next t ∧ t.store.job = some ⟨{ j with dest := some (.slot n) }, p⟩
      ∧ t.store.reservation = some n
      ∧ (s.holdsRequest .storeUnit = false → t.store.jobFrame = some ⟨.rack x (n.setWidth 8), .submitted⟩) := by
  obtain ⟨a, t, hexec, ha, htable, hstore⟩ := ht.job_refused hl hown hjf
  have hj' : a.store.job = some ⟨j, p⟩ := by rw [ha.store]; exact hj
  generalize hb : ((a.mapStore fun u =>
      { u with reservation := some n, rackWaiting := false
               job := u.job.map fun j => { j with job := { j.job with dest := some (.slot n) } } }).mapStore fun u =>
      { u with jobFrame := some ⟨.rack x (n.setWidth 8), .due⟩ }) = b
  have hmove : jobOutcome (.rack x slot) (.refused .slotTaken) a = storePump b := by
    show moveRack x a = _
    unfold moveRack
    rw [htable, hfree, ← hb]
    rfl
  rw [hmove] at hstore
  have hpumped := (storePump_pumped b).trans (storePump_pumped _)
  refine ⟨t, hexec, ?_⟩
  rw [hstore]
  refine ⟨?_, ?_, fun hheld => ?_⟩
  · rw [hpumped.store, ← hb]
    simp only [mapStore_store, hj', Option.map_some]
  · rw [hpumped.store, ← hb]
    rfl
  · have hsends : Sends b := by
      have hsends := ha.sends ht.sends
      rw [← hb]
      exact ⟨hsends.unbarred, hsends.line⟩
    have hsubmitted := storePump_jobFrame hsends (f := .rack x (n.setWidth 8)) nofun (by rw [← hb]; rfl)
      (by rw [← hb]; exact ha.holdsRequest.trans hheld)
    rw [(storePump_pumped _).notDue (by rw [hsubmitted]; rfl), hsubmitted]

/-- A RACK refused SLOT_TAKEN waits while no slot is free. -/
theorem Takes.rack_waits (ht : Takes c i (.rack x slot) (.refused .slotTaken) s)
    (hfull : freeSlot s.pool.table = none) :
    ∃ t, exec c s = .next t ∧ t.store.job = some ⟨j, p⟩ ∧ t.store.jobFrame = none ∧ t.store.rackWaiting = true := by
  obtain ⟨a, t, hexec, ha, htable, hstore⟩ := ht.job_refused hl hown hjf
  have hwait : jobOutcome (.rack x slot) (.refused .slotTaken) a
      = a.mapStore fun u => { u with jobFrame := none, rackWaiting := true } := by
    show moveRack x a = _
    unfold moveRack
    rw [htable, hfull]
  rw [hwait] at hstore
  have hpumped := storePump_pumped (a.mapStore fun u => { u with jobFrame := none, rackWaiting := true })
  refine ⟨t, hexec, ?_⟩
  rw [hstore]
  refine ⟨?_, hpumped.noFrame rfl, ?_⟩
  · rw [hpumped.store, mapStore_store, ha.store]
    exact hj
  · rw [hpumped.store]
    rfl

end

end
end Sys2Proof.Machine

namespace Sys2Proof.Machine
open State Sys2Proof.Config

/-! ## The job in STARTING, and the frame of another (R172) -/

section
variable {s t u : State} {c : Instr} {i : RxItem} {f g : PoolFrame} {tab : Table} {sel : Option Entry} {x : Serial}
  {reason : PoolRefusal} {j : Job} {out : PoolOutcome} {st : SubmitStatus}

/-- The DISPATCH of the wheel is gone: the unit has no frame of its own but requests of the send list, and an attempt
that is on the line is withdrawn. -/
structure DispatchGone (x : Serial) (t : State) : Prop where
  frame : t.store.jobFrame = none
  track : t.store.track = none
  listed : .dispatch x ∉ t.store.sendList
  queued : ∀ e ∈ t.fe.txQueue, e.origin = .storeUnit → e.payload = .pool (.dispatch x) →
    e.onLine = true ∧ e.withdrawn = true
  held : (Origin.storeUnit, Payload.pool (.dispatch x)) ∉ t.fe.held

namespace DispatchGone

theorem rescan (ht : DispatchGone x t) (hu : ReturnsQueued t u) : DispatchGone x u := by
  rw [hu.rest]
  exact ⟨ht.frame, ht.track, ht.listed, ht.queued, ht.held⟩

theorem claims (ht : DispatchGone x t) (k : List ClaimRecord) : DispatchGone x (t.mapStore fun u => { u with claims := k }) :=
  ⟨ht.frame, ht.track, ht.listed, ht.queued, ht.held⟩

/-- Another frame is submitted, and the send list holds no more than before. -/
theorem submit (ht : DispatchGone x t) {fs : List PoolFrame} (hg : g ≠ .dispatch x) (hfs : .dispatch x ∉ fs) :
    DispatchGone x (Machine.submit .storeUnit (.pool g) (t.mapStore fun u => { u with sendList := fs })).1 := by
  obtain ⟨-, hqueued, hheld⟩ := submit_queues .storeUnit (.pool g) (t.mapStore fun u => { u with sendList := fs })
  have hrest := submit_rest .storeUnit (.pool g) (t.mapStore fun u => { u with sendList := fs })
  have hstore : (Machine.submit .storeUnit (.pool g) (t.mapStore fun u => { u with sendList := fs })).1.store
      = { t.store with sendList := fs } := by rw [hrest]; rfl
  generalize (Machine.submit .storeUnit (.pool g) (t.mapStore fun u => { u with sendList := fs })).1 = v at *
  refine ⟨by rw [hstore]; exact ht.frame, by rw [hstore]; exact ht.track, by rw [hstore]; exact hfs,
    fun e he ho hp => ?_, fun hr => ?_⟩
  · rcases hqueued e he with rfl | he
    · exact absurd (Payload.pool.inj hp) hg
    · exact ht.queued e he ho hp
  · rcases hheld _ hr with hr | hr
    · exact absurd (Payload.pool.inj (Prod.mk.inj hr).2).symm hg
    · exact ht.held hr

theorem submitOne (ht : DispatchGone x t) : DispatchGone x (storeSubmitOne t) := by
  unfold storeSubmitOne
  rw [ht.frame, ht.track]
  cases hlist : t.store.sendList with
  | nil => exact ht
  | cons g gs =>
    have hnot := ht.listed
    rw [hlist, List.mem_cons, not_or] at hnot
    have hsubmit := ht.submit (Ne.symm hnot.1) hnot.2
    simp only [Option.filter_none]
    split
    · rw [requestFailed_rest]
      exact hsubmit.claims _
    · exact hsubmit
    · exact hsubmit

theorem pump (ht : DispatchGone x t) : DispatchGone x (storePump t) := by
  have hfrom (n : Nat) : ∀ t, DispatchGone x t → DispatchGone x (storePumpFrom n t) := by
    induction n with
    | zero => exact fun _ ht => ht
    | succ n ih =>
      intro t ht
      unfold storePumpFrom
      split
      exacts [ht, ih _ ht.submitOne]
  exact hfrom 18 t ht

theorem request (ht : DispatchGone x t) (hg : g ≠ .dispatch x) : DispatchGone x (addRequest g t) := by
  unfold addRequest
  split
  · refine pump ⟨ht.frame, ht.track, fun hmem => ?_, ht.queued, ht.held⟩
    rcases List.mem_append.1 hmem with hmem | hmem
    exacts [ht.listed hmem, hg (List.mem_singleton.1 hmem).symm]
  · exact ht

theorem watch (ht : DispatchGone x t) (y : Serial) : DispatchGone x (claimWatchTest y t) := by
  unfold claimWatchTest
  split
  · split
    exacts [(ht.claims _).request nofun, ht]
  · exact ht

end DispatchGone

/-- A frame that is withdrawn stays only while an attempt of it is on the line. -/
theorem dispatchWithdrawn_gone (hlist : s.store.sendList = []) (htrack : s.store.track = none) :
    DispatchGone x (jobEnded (dispatchWithdrawn x s)) where
  frame := rfl
  track := htrack
  listed := by
    show PoolFrame.dispatch x ∉ s.store.sendList
    rw [hlist]
    exact List.not_mem_nil
  queued e he ho hp := by
    obtain ⟨d, hd, hde⟩ := List.mem_map.1 he
    obtain ⟨-, hstays⟩ := List.mem_filter.1 hd
    dsimp only at hde
    split at hde
    next hit =>
      rw [← hde]
      exact ⟨by simpa [hit] using hstays, rfl⟩
    next hmiss =>
      rw [hde, ho, hp] at hmiss
      exact absurd (by simp) hmiss
  held hr := by simpa using (List.mem_filter.1 hr).2

theorem dropStarting_gone (hlist : s.store.sendList = []) (htrack : s.store.track = none) :
    DispatchGone x (dropStarting x s) :=
  (((dispatchWithdrawn_gone hlist htrack).rescan (endJob_queued _)).watch x).pump

theorem dropStarting_ends (x : Serial) (s : State) : (dropStarting x s).store.job = none
    ∧ (dropStarting x s).store.reservation = none ∧ (dropStarting x s).store.rackWaiting = false := by
  have hpumped := dropStarting_pumped x s
  have hends := endJob_queued (dispatchWithdrawn x s)
  refine ⟨?_, ?_, ?_⟩ <;> rw [hpumped.store, hends.rest] <;> rfl

section
variable (hl : s.storeLive = true) (hj : s.store.job = some ⟨j, .starting⟩)
  (hjf : s.store.jobFrame = some ⟨.dispatch j.serial, st⟩) (hwait : s.store.rackWaiting = false)
  (hlist : s.store.sendList = []) (htrack : s.store.track = none)
  (hown : i.own = some .storeUnit → f.kind ≠ .dispatch)
include hl hjf htrack hown

/-- The applied frame takes no effect on a job whose DISPATCH it is not, but for the drop of the job. -/
theorem Takes.starting_applied (ht : Takes c i f (.applied tab sel) s) : ∃ u t, exec c s = .next t ∧ StoreSeen s u
    ∧ StoreSeen (checkpointChanges (changedEntries s.pool.table tab) (waitingRack (startingTaken f s.pool.table tab
        (storeArisen f s.pool.table tab sel i.stamp u)))) t := by
  obtain ⟨u, t, hexec, hu, -, hseen⟩ := ht.store_applied hl
  refine ⟨u, t, hexec, hu, ?_⟩
  have harisen := storeArisen_arisen f s.pool.table tab sel i.stamp u
  rw [storeApplied_eq] at hseen
  split at hseen
  next hstore =>
    have hkind := hown (by simpa using hstore)
    have hframe : (storeArisen f s.pool.table tab sel i.stamp u).store.awaitsJob f = false := by
      rw [Bool.eq_false_iff, Ne, awaitsJob_iff]
      intro hawaits
      have hmap := harisen.frame
      rw [hawaits, hu.store, hjf] at hmap
      have hdispatch : f = .dispatch j.serial := Option.some.inj hmap
      exact hkind (by rw [hdispatch]; rfl)
    have hscan : (storeArisen f s.pool.table tab sel i.stamp u).store.awaitsTrack f = false := by
      rw [Bool.eq_false_iff, Ne, awaitsTrack_iff, harisen.track (by rw [hu.store]; exact htrack)]
      exact nofun
    rw [storeOutcome, hframe, hscan] at hseen
    exact hseen
  next => exact hseen

include hj hlist

/-- A frame that ends the claim drops the job with its DISPATCH. -/
theorem Takes.starting_drops (ht : Takes c i f (.applied tab sel) s)
    (hf : f.kind = .release ∨ f.kind = .quarantine ∨ f.kind = .declare) (hbefore : claimedIn s.pool.table j.serial = true)
    (hafter : claimedIn tab j.serial = false) : ∃ t, exec c s = .next t
      ∧ t.store.job = none ∧ t.store.reservation = none ∧ t.store.jobFrame = none
      ∧ (∀ e ∈ t.fe.txQueue, e.origin = .storeUnit → e.payload = .pool (.dispatch j.serial) →
          e.onLine = true ∧ e.withdrawn = true)
      ∧ (Origin.storeUnit, Payload.pool (.dispatch j.serial)) ∉ t.fe.held := by
  obtain ⟨u, t, hexec, hu, hseen⟩ := ht.starting_applied hl hjf htrack hown
  have hclaim : f.kind ≠ .claim := by rcases hf with hf | hf | hf <;> rw [hf] <;> exact nofun
  have hqueued := storeArisen_queued (before := s.pool.table) (tab := tab) (sel := sel) (stamp := i.stamp) hclaim u
  generalize storeArisen f s.pool.table tab sel i.stamp u = a at hseen hqueued
  have hstore : a.store = { s.store with queue := a.store.queue, claims := claimList tab sel i.stamp u.store.claims } := by
    rw [hqueued.rest, ← hu.store]
    rfl
  have htaken : startingTaken f s.pool.table tab a = dropStarting j.serial a := by
    unfold startingTaken
    rw [hstore, hj]
    exact if_pos ⟨rfl, hf, hbefore, by rw [hafter]; rfl⟩
  obtain ⟨hjob, hreservation, hracks⟩ := dropStarting_ends j.serial a
  have hgone : DispatchGone j.serial (dropStarting j.serial a) :=
    dropStarting_gone (by rw [hstore]; exact hlist) (by rw [hstore]; exact htrack)
  rw [htaken, waitingRack_idle hracks, checkpointChanges_rest] at hseen
  refine ⟨t, hexec, ?_⟩
  rw [hseen.store]
  exact ⟨hjob, hreservation, hgone.frame, fun e he ho => hgone.queued e ((hseen.queued e ho).1 he) ho,
    fun hr => hgone.held ((hseen.held _ rfl).1 hr)⟩

omit hlist
include hwait

/-- Any other frame leaves the job, and its DISPATCH. -/
theorem Takes.starting_keeps (ht : Takes c i f (.applied tab sel) s)
    (hf : ¬((f.kind = .release ∨ f.kind = .quarantine ∨ f.kind = .declare) ∧ claimedIn s.pool.table j.serial = true
      ∧ claimedIn tab j.serial = false)) : ∃ t, exec c s = .next t
      ∧ t.store.job = s.store.job ∧ t.store.reservation = s.store.reservation
      ∧ (∃ st', t.store.jobFrame = some ⟨.dispatch j.serial, st'⟩)
      ∧ (∀ e ∈ s.fe.txQueue, e.origin = .storeUnit → e ∈ t.fe.txQueue)
      ∧ ∀ r ∈ s.fe.held, r.1 = .storeUnit → r ∈ t.fe.held := by
  obtain ⟨u, t, hexec, hu, hseen⟩ := ht.starting_applied hl hjf htrack hown
  have harisen := storeArisen_arisen f s.pool.table tab sel i.stamp u
  generalize storeArisen f s.pool.table tab sel i.stamp u = a at hseen harisen
  have hstore : a.store = { s.store with
      queue := a.store.queue, claims := a.store.claims, sendList := a.store.sendList, jobFrame := a.store.jobFrame
      track := a.store.track } := by
    rw [harisen.rest, ← hu.store]
  have hkept : startingTaken f s.pool.table tab a = a := by
    unfold startingTaken
    rw [hstore, hj]
    refine if_neg fun ⟨_, hkind, hbefore, hafter⟩ => hf ⟨hkind, hbefore, ?_⟩
    rw [Bool.not_eq_true'] at hafter
    exact hafter
  have hframe : ∃ st', a.store.jobFrame = some ⟨.dispatch j.serial, st'⟩ := by
    have hmap := harisen.frame
    rw [hu.store, hjf] at hmap
    obtain ⟨⟨frame, st'⟩, hsome, rfl⟩ := Option.map_eq_some_iff.1 hmap
    exact ⟨st', hsome⟩
  rw [hkept, waitingRack_idle (by rw [hstore]; exact hwait), checkpointChanges_rest] at hseen
  refine ⟨t, hexec, ?_, ?_, ?_, fun e he ho => ?_, fun r hr ho => ?_⟩
  · rw [hseen.store, hstore]
  · rw [hseen.store, hstore]
  · rw [hseen.store]
    exact hframe
  · exact (hseen.queued e ho).2 (harisen.queued ((hu.queued e ho).2 he))
  · exact (hseen.held r ho).2 (harisen.held ((hu.held r ho).2 hr))

end

/-- A refused RELEASE(EXPIRED) is no longer pending (R178). -/
theorem Takes.expired_refused (ht : Takes c i (.release x releaseExpired) (.refused reason) s) (hl : s.storeLive = true)
    (hown : i.own = some .storeUnit) (hjf : s.store.jobFrame ≠ some ⟨.release x releaseExpired, .submitted⟩)
    (htrack : s.store.track ≠ some ⟨.release x releaseExpired, .submitted⟩) :
    ∃ t, exec c s = .next t ∧ t.store = { s.store with
      claims := s.store.claims.map fun k => if k.serial = x then { k with releasePending := false } else k } := by
  obtain ⟨u, t, hexec, hu, -, hseen⟩ := ht.store hl
  refine ⟨t, hexec, ?_⟩
  rw [hseen.store, storeNotice, hown, if_pos (by rfl), storeOutcome,
    if_neg (by rw [awaitsJob_iff, hu.store]; exact hjf), if_neg (by rw [awaitsTrack_iff, hu.store]; exact htrack),
    requestFailed_rest, mapStore_store, requestFailed_expired, hu.store]

end
end Sys2Proof.Machine

namespace Sys2Proof.Machine
open State Sys2Proof.Config

section
variable {h : Head} {family : BitVec 4} {t : State} {e : Entry} {x : Serial} {tab : Table} {fams : List Family} {f : PoolFrame}
  {i : RxItem} {why : Byte} {u : SwapUnit}

/-- The facts of a CLAIM that is given. -/
theorem ClaimGone.facts (ht : ClaimGone h family t) : (t.swap h).state = .claiming ∧ (t.swap h).held = none
    ∧ (t.swap h).outstanding = some ⟨claimOf h family, false, .claiming⟩
    ∧ t.submitted (.swapUnit h) (.pool (claimOf h family)) :=
  ⟨ht.state, ht.held, ht.outstanding, ht.sent⟩

/-- The record of a wheel that is new on the head names the wheel that was found. -/
theorem newRecord_found (he : findSerial tab x = some e) : newRecord fams e
    = HeadRecord.evaluated fams ⟨x, e.family, e.diameter, 0, 0, none, .serving⟩ := by
  rw [← (findSerial_mem he).2]
  rfl

theorem attemptsAfter_taking : u.attemptsAfter (countedTaking f i why)
    = if f.kind = .quarantine ∧ i.role = .store ∧ why = quarantineGantryFault then u.attempts + 1 else u.attempts := by
  simp only [SwapUnit.attemptsAfter, countedTaking, decide_eq_true_eq]

theorem not_claimedIn_iff : claimedIn tab x = false ↔ ¬∃ e, findSerial tab x = some e ∧ e.state = .claimed := by
  rw [← claimedIn_iff, Bool.not_eq_true]

end

/-- Settles O60: the frame is followed through the receive queue to each unit, and what a unit does with its notice
stands whatever the others have done before and do after it. -/
theorem noticesReachTheirUnits : Obligations.NoticesReachTheirUnits := by
  unfold Obligations.NoticesReachTheirUnits
  intro c i f s hlive hkind hnext hparse hbarred hline out newClaim free
  have takes {o : PoolOutcome} (ho : out = o) : Takes c i f o s := ⟨hlive, hkind, hnext, hparse, hbarred, hline, ho⟩
  refine ⟨fun h st hl hown hf hw hr => ⟨?claim, ?release, ?mount, ?declare⟩,
    fun h x tab sel hl hs hh ho hw hout => ⟨?dispatched, ?delivered, ?taken, ?family⟩,
    fun h w hl hown hrecord => ⟨?report, ?declared⟩,
    fun tab sel hl hout => ⟨?lists, fun hown hj hjf _ hroom => ⟨?fetch, ?ret⟩⟩,
    fun j hl hown hjf _ hwait => ⟨?dispatch, ?closing⟩,
    fun j st tab sel hl hout hj hjf hwait hlist htrack hown => ?starting, ?expired,
    fun tab sel hout hrunning => (takes hout).generation hrunning⟩
  case claim =>
    rintro head family rfl
    exact ⟨fun tab e hout => (takes hout).claim_applied hl hown hf hw,
      fun reason hout hstate => (takes hout).claim_refused hl hown hf hw hstate⟩
  case release =>
    rintro x reason tab sel rfl hout hx
    have ht := takes hout
    refine ⟨ht.release_mounting hl hown hf hx hw, fun n hm hwhy hn => ⟨?again, ?fails⟩, ?_⟩
    case again =>
      rintro hlt ⟨hdec, hq⟩
      obtain ⟨t, hexec, hgone, hattempts⟩ := ht.release_claims hl hown hf hx hw hm hwhy hn hlt hdec hq
      exact ⟨t, hexec, hgone.facts, hattempts⟩
    case fails =>
      rintro rfl
      exact ht.release_fails hl hown hf hx hw hm hwhy hn
    rintro hm rfl
    have hidle := ht.release_idle hl hown hf hx hw hm
    refine ⟨fun hno => hidle (.inl hno), ?_, fun hd => ?_⟩
    · rintro hneed ⟨hdec, hq⟩ hd
      obtain ⟨t, hexec, hgone, hrest⟩ := ht.release_claimsAgain hl hown hf hx hw hm hneed hd hr hdec hq
      exact ⟨t, hexec, hgone.facts, hrest⟩
    · obtain ⟨t, hexec, hstate, hheld, -⟩ := hidle (.inr hd)
      exact ⟨t, hexec, hstate, hheld⟩
  case mount =>
    rintro head new old d spent rfl hx
    refine ⟨fun tab sel e hout he => ?_, fun reason hout => (takes hout).mount_refused hl hown hf hw hx⟩
    obtain ⟨t, hexec, hmade, hrest⟩ := (takes hout).mount_applied hl hown hf hw hx he
    exact ⟨t, _, hexec, hmade.record, newRecord_found he, hmade.cycle, hmade.report, hmade.pending, hrest⟩
  case declare =>
    rintro head x family d tab sel e rfl hout he hq
    obtain ⟨t, hexec, hmade, htag, hbackoff⟩ := (takes hout).declare_applied hl hown hf hw he hq
    exact ⟨t, hexec, htag, hbackoff, by rw [hmade.record, newRecord_found he], hmade.pending⟩
  case dispatched =>
    rintro hx rfl
    exact (takes hout).dispatch_held hl hs hh hx hw ho
  case delivered =>
    rintro hx rfl hstate hn
    exact (takes hout).deliver_held hl hs hh hx hstate hn
  case taken =>
    intro reason n hx hf hn
    have ht := takes hout
    rw [← attemptsAfter_taking] at hn
    refine ⟨ht.taken_mounting hl hs hh hx hf hw ho, fun hm => ⟨?_, fun hneed h3 => ?_, fun hno hlt => ?_⟩⟩
    · rintro hneed hlt ⟨hdec, hq⟩
      obtain ⟨t, hexec, hgone, hattempts⟩ := ht.taken_claims hl hs hh hx hf hw ho hm hneed (hn ▸ hlt) hdec hq
      exact ⟨t, hexec, hgone.facts, hattempts.trans hn.symm⟩
    · exact ht.taken_fails hl hs hh hx hf hw ho hm hneed (hn.symm.trans h3)
    · rw [hn] at hlt ⊢
      exact ht.taken_idle hl hs hh hx hf hw ho hm hno hlt
  case family =>
    intro e hf he hstate hx hr
    have ht := takes hout
    refine ⟨ht.family_other hl hs hh hf he, fun heq htag => ⟨fun hno => ?_, ?_, fun hd => ?_⟩⟩
    · exact ht.family_idle hl hs hh hf he hstate heq htag (.inl hno)
    · rintro hneed ⟨hdec, hq⟩ hd
      obtain ⟨t, hexec, hgone⟩ := ht.family_claims hl hs hh hf he hstate heq htag hneed hd hx hr ho hdec hq
      exact ⟨t, hexec, hgone.facts⟩
    · exact ht.family_idle hl hs hh hf he hstate heq htag (.inr hd)
  case report =>
    rintro reason keep rfl hreport
    exact (takes rfl).report_settled hl hown hrecord hreport
  case declared =>
    rintro head family d rfl hd
    exact ⟨(takes rfl).declare_ended hl hown hrecord hd,
      fun reason hout => (takes hout).declare_conflict hl hown hrecord hd⟩
  case lists => exact (takes hout).store_lists hl
  case fetch =>
    rintro e k n rfl hf hk hn hnew
    exact (takes hout).claim_fetches hl hown hj hroom hf hk hn hnew
  case ret =>
    rintro x e e' k he he' hne hk hf hnew
    exact (takes hout).return_arises hl hown hj hroom he he' hne hk hf hnew
  case dispatch =>
    rintro rfl hj
    exact ⟨fun tab sel hout => (takes hout).dispatch_arms hl hown hjf hwait hj,
      fun tab sel hout => (takes hout).dispatch_moves hl hown hjf hwait hj,
      fun reason hout => (takes hout).dispatch_drops hl hown hjf⟩
  case closing =>
    refine fun hf hj => ⟨fun ho => (takes rfl).completion_ends hl hown hjf hf ?_, ?_⟩
    · rcases ho with ⟨tab, sel, ho⟩ | ⟨reason, ho, hne⟩ <;> rw [ho]
      exacts [nofun, fun hc => hne (PoolOutcome.refused.inj hc)]
    · rintro x slot rfl hout
      exact ⟨fun n hn hfree hlow => (takes hout).rack_moves hl hown hjf hj (freeSlot_eq_some hn hfree hlow),
        fun hfull => (takes hout).rack_waits hl hown hjf hj (freeSlot_eq_none hfull)⟩
  case starting =>
    intro claimed taking
    have ht := takes hout
    by_cases htaking : taking
    · obtain ⟨hf, hbefore, hafter⟩ := htaking
      obtain ⟨t, hexec, hgone⟩ := ht.starting_drops hl hj hjf hlist htrack hown hf (claimedIn_iff.2 hbefore)
        (not_claimedIn_iff.2 hafter)
      exact ⟨t, hexec, ht.cell hexec, fun _ => hgone, fun hn => absurd ⟨hf, hbefore, hafter⟩ hn⟩
    · obtain ⟨t, hexec, hkept⟩ := ht.starting_keeps hl hj hjf hwait htrack hown fun ⟨hf, hbefore, hafter⟩ =>
        htaking ⟨hf, claimedIn_iff.1 hbefore, not_claimedIn_iff.1 hafter⟩
      exact ⟨t, hexec, ht.cell hexec, fun hc => absurd hc htaking, fun _ => hkept⟩
  case expired =>
    rintro x reason hl hown rfl hout hjf htrack
    exact (takes hout).expired_refused hl hown hjf htrack

end Sys2Proof.Machine

namespace Sys2Proof.Machine
open State Sys2Proof.Config

/-! ## The image unit takes the item at the head (R34, R93, R96) -/

section
variable {s t u : State} {i : RxItem} {rest : List RxItem} {p : Payload}

/-- The station with the item at the head of its receive queue marked as taken by the image unit. -/
def imageOffered (i : RxItem) (rest : List RxItem) (s : State) : State :=
  setRxQueue ({ i with forImage := false } :: rest) s

theorem exec_imageAsk (hl : s.isLive = true) (hq : s.fe.rxQueue = i :: rest) (hk : i.kind = .imageAsk)
    (hm : i.forImage = true) : exec .imageAsk s = .next (depart (imageTake i (imageOffered i rest s))) := by
  show execImageAsk s = _
  rw [execImageAsk, if_pos hl, imageTakeNext_head _ hq hm (by simp [hk])]
  rfl

theorem exec_imagePart (hl : s.isLive = true) (hq : s.fe.rxQueue = i :: rest) (hk : i.kind = .imagePart)
    (hm : i.forImage = true) : exec .imagePart s = .next (depart (imageTake i (imageOffered i rest s))) := by
  show execImagePart s = _
  rw [execImagePart, if_pos hl, imageTakeNext_head _ hq hm (by simp [hk])]
  rfl

/-- The taking leaves what no command of the cell changes. -/
theorem imageTake_cell (hq : s.fe.rxQueue = i :: rest) : cellFrame s (depart (imageTake i (imageOffered i rest s))) :=
  (cellFrame_stable s).depart _ ((cellFrame_stable s).imageTake i _ ((cellFrame_stable s).setRxQueue _ s
    (by rw [hq]; exact Nat.le_refl _) (cellFrame_refl s)))

theorem imageOffered_taken (hp : i.forPeers = false) (ho : i.forPool = false) :
    ({ i with forImage := false } : RxItem).taken = true := by
  simp [RxItem.taken, hp, ho]

theorem imageTake_own (ho : i.own.isSome = true) : imageTake i s = s := if_pos ho

theorem imageTake_ask (ho : i.own = none) (hk : i.kind = .imageAsk) : imageTake i s = takeImageAsk s := by
  simp [imageTake, ho, hk]

theorem imageTake_part (ho : i.own = none) (hk : i.kind = .imagePart) :
    imageTake i s = takeImagePart i.sender i.data s := by
  simp [imageTake, ho, hk]

/-- An item that leaves a hearing station alone in its queue. -/
theorem depart_alone (hd : u.fe.deaf = false) (hq : u.fe.rxQueue = [i]) (hi : i.taken = true) :
    depart u = setRxQueue [] u := by
  rw [depart_hearing hd, hq, List.dropWhile_cons_of_pos hi]
  rfl

/-! ## An IMAGE_ASK (R96, R99) -/

theorem takeImageAsk_moved (s : State) : ImageMoved s (takeImageAsk s) := by
  unfold takeImageAsk
  split
  · split
    exacts [(ImageMoved.refl s).startTransfer 0, .refl s]
  · exact .refl s
  · exact (ImageMoved.refl s).mapImage _

/-- A station that is not SYNCED begins no transfer. -/
theorem takeImageAsk_unsynced (hs : s.synced = false) : takeImageAsk s = s.mapImage fun u =>
    { u with repeatPending := u.repeatPending || u.responder == .running } := by
  have hmay : s.mayRespond = false := by simp [State.mayRespond, hs]
  have hsame (hr : s.image.responder ≠ .running) : s = s.mapImage fun u =>
      { u with repeatPending := u.repeatPending || u.responder == .running } := by
    unfold State.mapImage; dsimp only
    rw [beq_eq_false_iff_ne.2 hr, Bool.or_false]
  unfold takeImageAsk
  cases hr : s.image.responder with
  | idle => dsimp only; rw [if_neg (by rw [hmay]; nofun)]; exact hsame (by rw [hr]; nofun)
  | queued => exact hsame (by rw [hr]; nofun)
  | running => simp [State.mapImage, hr]

theorem queueFrame_mem (o : Origin) (p : Payload) (s : State) :
    (⟨o, p, 0, false, false⟩ : TxEntry) ∈ (queueFrame o p s).fe.txQueue :=
  (mem_insertBy _ _ _ _).2 (.inl rfl)

/-- A part that there is room for goes into the transmit queue at once. -/
theorem submitImage_admitted (hp : p.isPool = false) (hl : s.lineFault = false) (hh : s.fe.held = [])
    (hroom : s.fe.txQueue.length + s.fe.admissionsDue < txCapacity) :
    submitImage p s = (queueFrame .imageUnit p s, false) := by
  have hnone : s.holdsRequest .imageUnit = false := by simp [State.holdsRequest, hh]
  unfold submitImage
  rw [if_neg (by rw [hnone]; nofun),
    submit_admitted ((refusedAtOnce_unpooled hp).trans hl) (decide_eq_true hroom)]
  rfl

theorem startTransfer_admitted (hl : s.lineFault = false) (hh : s.fe.held = [])
    (hroom : s.fe.txQueue.length + s.fe.admissionsDue < txCapacity) (restarts : Nat) :
    startTransfer restarts s = queueFrame .imageUnit (.imagePart 0) (s.mapImage fun u =>
      { u with responder := .queued, buffer := none, restarts := restarts, part0Sent := false }) := by
  unfold startTransfer; dsimp only
  rw [submitImage_admitted rfl (by exact hl) (by exact hh) (by exact hroom)]
  exact if_neg nofun

end

/-- Settles O34: the image unit takes the ask by its responder's state, and the departure of the item ends DEAF, by
`depart_deafEnds`; a station that may ask is not SYNCED, and begins no transfer before. -/
theorem imageAskIsAnswered : Obligations.ImageAskIsAnswered := by
  unfold Obligations.ImageAskIsAnswered
  intro i s hl hq hk hm hp ho
  have hexec := exec_imageAsk hl hq hk hm
  have hcell := imageTake_cell hq
  have htaken := imageOffered_taken (i := i) hp ho
  have hmoved : ImageMoved (imageOffered i [] s) (imageTake i (imageOffered i [] s)) := by
    cases hown : i.own with
    | none => rw [imageTake_ask hown hk]; exact takeImageAsk_moved _
    | some => rw [imageTake_own (by rw [hown]; rfl)]; exact .refl _
  have hunsynced (hs : s.mayAsk = true) : s.synced = false := by
    simp only [State.mayAsk, Bool.and_eq_true, Bool.not_eq_true'] at hs
    exact hs.1.2
  refine ⟨fun hd => ⟨_, hexec, hcell, ?_, ?_⟩, fun hown hd => ⟨_, hexec, hcell, ?_⟩⟩
  · rw [(depart_kept _).1, hmoved.rest]; rfl
  · have hstays (hs : s.synced = false) : ∃ g : ImageUnit → ImageUnit,
        imageTake i (imageOffered i [] s) = (imageOffered i [] s).mapImage g
          ∧ (g s.image).askingStopped = s.image.askingStopped := by
      cases hown : i.own with
      | none => rw [imageTake_ask hown hk, takeImageAsk_unsynced (by exact hs)]; exact ⟨_, rfl, rfl⟩
      | some => rw [imageTake_own (by rw [hown]; rfl)]; exact ⟨id, rfl, rfl⟩
    refine depart_deafEnds (by rw [hmoved.rest]; exact hd) (by rw [imageTake_rxQueue]; rfl) htaken ?_
      (by rw [hmoved.rest]; rfl) (by rw [hmoved.rest]; rfl) fun hs => ?_
    · cases hs : s.synced with
      | true =>
        have hbarred (a : State) (ha : a.synced = true) : a.mayAsk = false := by simp [State.mayAsk, ha]
        rw [hbarred s hs, hbarred _ (by rw [hmoved.rest]; exact hs)]
      | false =>
        obtain ⟨g, hg, hstopped⟩ := hstays hs
        rw [hg]
        exact congrArg (fun b => !s.peers.familyMismatch && !s.peers.roleClash && !s.synced && !b) hstopped
    · obtain ⟨g, hg, -⟩ := hstays (hunsynced hs)
      rw [hg]
      rfl
  · rw [depart_alone (by rw [hmoved.rest]; exact hd) (by rw [imageTake_rxQueue]; rfl) htaken]
    have htake := imageTake_ask (s := imageOffered i [] s) hown hk
    refine ⟨by rw [hmoved.rest]; rfl, by rw [hmoved.rest]; rfl, by rw [hmoved.rest]; rfl, rfl,
      fun hr hmay hline hheld hroom => ?_, fun hr hmay => ?_, fun hr => ?_, fun hr => ?_⟩
    · have hstart : takeImageAsk (imageOffered i [] s) = startTransfer 0 (imageOffered i [] s) := by
        unfold takeImageAsk
        rw [show (imageOffered i [] s).image.responder = _ from hr]
        exact if_pos hmay
      rw [htake, hstart, startTransfer_admitted (by exact hline) (by exact hheld) (by exact hroom)]
      exact ⟨rfl, queueFrame_mem _ _ _, insertBy_length _ _ _⟩
    all_goals
      rw [htake]
      unfold takeImageAsk
      rw [show (imageOffered i [] s).image.responder = _ from hr]
    · dsimp only
      rw [if_neg (by rw [show (imageOffered i [] s).mayRespond = _ from hmay]; nofun)]
      rfl
    all_goals rfl

end Sys2Proof.Machine

namespace Sys2Proof.Machine
open State Sys2Proof.Config

/-! ## The stored table (R104) -/

section
variable {e c : Entry} {l : LifeStore} {d : List Byte} {pos n id : Nat}

theorem decodeEntry_pos (h : decodeEntry pos d = some e) : e.pos = pos := by
  unfold decodeEntry at h
  split at h
  · split at h
    · dsimp only at h
      split at h
      · rw [← Option.some.inj h]
      · exact absurd h nofun
    · exact absurd h nofun
  · exact absurd h nofun

theorem storedEntries_succ (pos n : Nat) (d : List Byte) : storedEntries pos (n + 1) d
    = ((decodeEntry pos (d.take 10)).filter fun _ => decide (pos < poolCapacity)).toList
      ++ storedEntries (pos + 1) n (d.drop 10) := by
  rw [storedEntries]
  cases decodeEntry pos (d.take 10) with
  | none => rfl
  | some e => by_cases hp : pos < poolCapacity <;> simp [hp, Option.filter]

/-- The stored entries of a page body are its records that decode, each at its place and below the places of R104. -/
theorem mem_storedEntries : e ∈ storedEntries pos n d ↔ (pos ≤ e.pos ∧ e.pos < pos + n) ∧ e.pos < 64
    ∧ decodeEntry e.pos ((d.drop (10 * (e.pos - pos))).take 10) = some e := by
  induction n generalizing pos d with
  | zero =>
    refine ⟨fun h => absurd h List.not_mem_nil, fun ⟨⟨hle, hlt⟩, _⟩ => absurd hle (Nat.not_le.2 hlt)⟩
  | succ n ih =>
    rw [storedEntries_succ, List.mem_append, ih, Option.mem_toList, Option.filter_eq_some_iff,
      decide_eq_true_eq]
    have hskip (hlt : pos < e.pos) : (d.drop 10).drop (10 * (e.pos - (pos + 1))) = d.drop (10 * (e.pos - pos)) := by
      rw [List.drop_drop]
      congr 1
      omega
    constructor
    · rintro (⟨hdec, hpos⟩ | ⟨⟨hle, hlt⟩, hcap, hdec⟩)
      · have hat := decodeEntry_pos hdec
        refine ⟨⟨Nat.le_of_eq hat.symm, by omega⟩, hat ▸ hpos, ?_⟩
        rw [hat, Nat.sub_self]
        exact hdec
      · exact ⟨⟨by omega, by omega⟩, hcap, hskip hle ▸ hdec⟩
    · rintro ⟨⟨hle, hlt⟩, hcap, hdec⟩
      rcases Nat.lt_or_eq_of_le hle with hlt' | heq
      · exact .inr ⟨⟨hlt', by omega⟩, hcap, (hskip hlt').symm ▸ hdec⟩
      · rw [← heq, Nat.sub_self] at hdec
        exact .inl ⟨hdec, heq ▸ hcap⟩

theorem storedEntries_rising (pos n : Nat) (d : List Byte) :
    (storedEntries pos n d).Pairwise fun a b => a.pos < b.pos := by
  induction n generalizing pos d with
  | zero => exact .nil
  | succ n ih =>
    rw [storedEntries_succ, List.pairwise_append]
    refine ⟨?_, ih _ _, fun a ha b hb => ?_⟩
    · cases (decodeEntry pos (d.take 10)).filter fun _ => decide (pos < poolCapacity) <;> simp
    · rw [Option.mem_toList, Option.filter_eq_some_iff] at ha
      rw [decodeEntry_pos ha.1]
      exact (mem_storedEntries.1 hb).1.1

/-- The stored entries of the page of one logical id. -/
def LifeStore.storedPage (l : LifeStore) (id : Nat) : List Entry :=
  match l.currentPage id with
  | some p => storedEntries (11 * (id - 16)) 11 (pageBody id (Memory.readPage l.pages p))
  | none => []

theorem storedTable_eq (l : LifeStore) : l.storedTable = [16, 17, 18, 19, 20, 21].flatMap l.storedPage := rfl

/-- A record of a store image page, as its body gives it. -/
theorem pageBody_record (hid : 2 < id) {k : Nat} (hk : k < 11) (d : List Byte) :
    ((pageBody id d).drop (10 * k)).take 10 = (d.drop (8 + 10 * k)).take 10 := by
  have hlength : bodyLength id = 110 := if_neg (Nat.not_le.2 hid)
  rw [pageBody, hlength, List.drop_take, List.take_take, List.drop_drop, Nat.min_eq_left (by omega)]

theorem mem_storedPage (hid : 2 < id) : e ∈ l.storedPage id
    ↔ (11 * (id - 16) ≤ e.pos ∧ e.pos < 11 * (id - 16) + 11) ∧ e.pos < 64 ∧ ∃ p, l.currentPage id = some p
      ∧ decodeEntry e.pos (((l.pages.readPage p).drop (8 + 10 * (e.pos - 11 * (id - 16)))).take 10) = some e := by
  unfold LifeStore.storedPage
  cases l.currentPage id with
  | none => simp
  | some p =>
    dsimp only
    rw [mem_storedEntries]
    constructor
    · rintro ⟨hpos, hcap, hdec⟩
      rw [pageBody_record hid (by omega)] at hdec
      exact ⟨hpos, hcap, p, rfl, hdec⟩
    · rintro ⟨hpos, hcap, q, hq, hdec⟩
      obtain rfl := Option.some.inj hq
      exact ⟨hpos, hcap, by rw [pageBody_record hid (by omega)]; exact hdec⟩

theorem storedPage_rising (l : LifeStore) (id : Nat) : (l.storedPage id).Pairwise fun a b => a.pos < b.pos := by
  unfold LifeStore.storedPage
  split
  exacts [storedEntries_rising _ _ _, .nil]

theorem storedTable_rising (l : LifeStore) : l.storedTable.Pairwise fun a b => a.pos < b.pos := by
  rw [storedTable_eq, List.pairwise_flatMap]
  have hids : [16, 17, 18, 19, 20, 21].Pairwise fun a b => 16 ≤ a ∧ a < b := by decide
  refine ⟨fun id _ => storedPage_rising l id, hids.imp fun {a b} hab x hx y hy => ?_⟩
  obtain ⟨⟨-, hx⟩, -⟩ := (mem_storedPage (by omega)).1 hx
  obtain ⟨⟨hy, -⟩, -⟩ := (mem_storedPage (by omega)).1 hy
  omega

theorem mem_storedTable : e ∈ l.storedTable ↔ e.pos < 64 ∧ ∃ p, l.currentPage (16 + e.pos / 11) = some p
    ∧ decodeEntry e.pos (((l.pages.readPage p).drop (8 + 10 * (e.pos % 11))).take 10) = some e := by
  have hplace : e.pos - 11 * (16 + e.pos / 11 - 16) = e.pos % 11 := by omega
  rw [storedTable_eq, List.mem_flatMap]
  constructor
  · rintro ⟨id, hid, he⟩
    have hid' : 16 ≤ id := by
      have hall : ∀ k ∈ [16, 17, 18, 19, 20, 21], 16 ≤ k := by decide
      exact hall id hid
    obtain ⟨⟨hlow, hhigh⟩, hcap, hdec⟩ := (mem_storedPage (by omega)).1 he
    obtain rfl : id = 16 + e.pos / 11 := by omega
    rw [hplace] at hdec
    exact ⟨hcap, hdec⟩
  · rintro ⟨hcap, hdec⟩
    refine ⟨16 + e.pos / 11, ?_, (mem_storedPage (by omega)).2 ⟨by omega, hcap, ?_⟩⟩
    · have hrow : e.pos / 11 < 6 := by omega
      generalize e.pos / 11 = k at hrow
      interval_cases k <;> decide
    · rw [hplace]
      exact hdec

/-! ## The founded table (R104) -/

theorem foundedTable_append (es : List Entry) (e : Entry) :
    foundedTable (es ++ [e]) = admitStored (foundedTable es) (convertStored e) := by
  simp only [foundedTable, List.map_append, List.map_cons, List.map_nil, List.foldl_append, List.foldl_cons,
    List.foldl_nil]

/-- The first table of R104: an entry as it is founded. -/
theorem convertStored_eq
    (h : (e.state = .claimed ∧ c = { e with state := .free, holder := none, spent := false })
      ∨ (e.state = .transit ∧ c = { e with state := .quarantined, holder := none, slot := none, spent := false })
      ∨ (e.state ≠ .claimed ∧ e.state ≠ .transit ∧ c = e)) : convertStored e = c := by
  unfold convertStored
  rcases h with ⟨hs, rfl⟩ | ⟨hs, rfl⟩ | ⟨hclaimed, htransit, rfl⟩
  · rw [hs]; rfl
  · rw [hs]; rfl
  · split
    exacts [absurd ‹_› hclaimed, absurd ‹_› htransit, rfl, rfl, rfl, rfl, rfl]

theorem admittedAs_iff {t : List Entry} {st : PoolState} : admittedAs t st c = true ↔ ∃ a ∈ t, a.state = st
    ∧ ∃ x y, a.holder = some x ∧ c.holder = some y ∧ x.station = y.station ∧ x.head = y.head := by
  simp only [admittedAs, Entry.heldAt, List.any_eq_true, Bool.and_eq_true, beq_iff_eq, Option.any_eq_true]
  refine exists_congr fun a => and_congr_right fun _ => and_congr_right fun _ => exists_congr fun x => ?_
  constructor
  · rintro ⟨hx, y, hy, hst, hh⟩
    exact ⟨y, hx, hy, hst.symm, hh.symm⟩
  · rintro ⟨y, hx, hy, hst, hh⟩
    exact ⟨hx, y, hy, hst.symm, hh.symm⟩

/-- The second table of R104, row by row. -/
theorem admitStored_byRows (t : List Entry) (c : Entry) :
    let placed : PoolState → Prop := fun st => c.state = st ∧ ∃ a ∈ t, a.state = st
      ∧ ∃ x y, a.holder = some x ∧ c.holder = some y ∧ x.station = y.station ∧ x.head = y.head
    ((∃ a ∈ t, a.serial = c.serial) → admitStored t c = t)
    ∧ ((∃ n, c.slot = some n ∧ ∃ a ∈ t, a.slot = some n) → admitStored t c = t)
    ∧ ((∀ a ∈ t, a.serial ≠ c.serial) → (∀ n, c.slot = some n → ∀ a ∈ t, a.slot ≠ some n) →
      (placed .mounted ∨ placed .delivered → admitStored t c = t ++ [c.toQuarantined false])
      ∧ (¬(placed .mounted ∨ placed .delivered) → admitStored t c = t ++ [c])) := by
  intro placed
  have hserial : (t.any fun a => a.serial == c.serial) = true ↔ ∃ a ∈ t, a.serial = c.serial := by
    simp only [List.any_eq_true, beq_iff_eq]
  have hslot : c.slot.any (slotNamed t) = true ↔ ∃ n, c.slot = some n ∧ ∃ a ∈ t, a.slot = some n := by
    simp only [Option.any_eq_true, slotNamed_iff]
  have hplaced : (c.state = .mounted ∧ admittedAs t .mounted c = true)
      ∨ (c.state = .delivered ∧ admittedAs t .delivered c = true) ↔ placed .mounted ∨ placed .delivered := by
    rw [admittedAs_iff, admittedAs_iff]
  unfold admitStored
  refine ⟨fun h => if_pos (hserial.2 h), fun h => ?_, fun hnew hfree => ?_⟩
  · split
    exacts [rfl, if_pos (hslot.2 h)]
  · have hns : ¬(t.any fun a => a.serial == c.serial) = true := fun h =>
      let ⟨a, ha, he⟩ := hserial.1 h
      hnew a ha he
    have hnn : ¬c.slot.any (slotNamed t) = true := fun h =>
      let ⟨n, hn, a, ha, he⟩ := hslot.1 h
      hfree n hn a ha he
    rw [if_neg hns, if_neg hnn]
    exact ⟨fun h => if_pos (hplaced.2 h), fun h => if_neg fun hp => h (hplaced.1 hp)⟩

end
end Sys2Proof.Machine

namespace Sys2Proof.Machine
open State Sys2Proof.Config

/-! ## Reconciliation: what its submissions need and leave (R107 to R111) -/

section
variable {s t u : State} {h k : Head} {o : Origin} {f : PoolFrame} {n m : Nat} {e : Entry} {tab : Table} {x : Serial}

/-- In a table of distinct serials an entry is found by its own. -/
theorem findSerial_of_nodup (hn : (tab.map Entry.serial).Nodup) (he : e ∈ tab) : findSerial tab e.serial = some e := by
  cases hf : findSerial tab e.serial with
  | none => exact absurd rfl (findSerial_eq_none_iff.1 hf e he)
  | some x =>
    obtain ⟨hx, hs⟩ := findSerial_mem hf
    rw [List.inj_on_of_nodup_map hn hx he hs]

theorem findSerial_any_iff (hn : (tab.map Entry.serial).Nodup) {q : Entry → Bool} :
    (findSerial tab x).any q = true ↔ ∃ e ∈ tab, e.serial = x ∧ q e = true := by
  rw [Option.any_eq_true]
  constructor
  · rintro ⟨e, he, hq⟩
    obtain ⟨hm, hs⟩ := findSerial_mem he
    exact ⟨e, hm, hs, hq⟩
  · rintro ⟨e, hm, rfl, hq⟩
    exact ⟨e, findSerial_of_nodup hn hm, hq⟩

theorem find?_of_unique {p : Entry → Bool} (he : e ∈ tab) (hp : p e = true) (hu : ∀ x ∈ tab, p x = true → x = e) :
    tab.find? p = some e := by
  cases hf : tab.find? p with
  | none => exact absurd hp (List.find?_eq_none.1 hf e he)
  | some x => rw [hu x (List.mem_of_find?_eq_some hf) (List.find?_some hf)]

/-- A station that makes pool frames, holds no request, and has at most `n` frames in its transmit queue, the admissions
still owed counted in. -/
structure Reconciling (n : Nat) (s : State) : Prop where
  sends : Sends s
  held : s.fe.held = []
  room : s.fe.txQueue.length + s.fe.admissionsDue ≤ n

theorem Reconciling.mono (hs : Reconciling n s) (hn : n ≤ m) : Reconciling m s :=
  ⟨hs.sends, hs.held, Nat.le_trans hs.room hn⟩

theorem Reconciling.holdsRequest (hs : Reconciling n s) (o : Origin) : s.holdsRequest o = false := by
  simp [State.holdsRequest, hs.held]

/-- A frame that is no CLAIM goes into the transmit queue at once. -/
theorem Reconciling.submit (hs : Reconciling n s) (hn : n < 6) (hf : f.kind ≠ .claim) (o : Origin) :
    submit o (.pool f) s = (queueFrame o (.pool f) s, .admitted) :=
  submit_admitted (hs.sends.takes hf) (decide_eq_true (Nat.lt_of_le_of_lt hs.room hn))

/-- State `t` is `s` but for the units of the heads: frames of head units stay in the transmit queue, and no
checkpoint is withdrawn. -/
structure UnitsMoved (s t : State) : Prop where
  rest : t = { s with
    heads := t.heads, swaps := t.swaps, life := { s.life with pending := t.life.pending }
    fe := { s.fe with txQueue := t.fe.txQueue, held := t.fe.held, admissionsDue := t.fe.admissionsDue } }
  pending : ∀ id ∈ s.life.pending, id ∈ t.life.pending
  queued : ∀ e ∈ s.fe.txQueue, (∀ k, e.origin ≠ .swapUnit k) → e ∈ t.fe.txQueue

namespace UnitsMoved

theorem refl (s : State) : UnitsMoved s s := ⟨rfl, fun _ => id, fun _ he _ => he⟩

theorem trans (hst : UnitsMoved s t) (htu : UnitsMoved t u) : UnitsMoved s u where
  rest := by rw [htu.rest, hst.rest]
  pending id hid := htu.pending id (hst.pending id hid)
  queued e he ho := htu.queued e (hst.queued e he ho) ho

variable (ht : UnitsMoved s t)
include ht

theorem pool : t.pool = s.pool := by rw [ht.rest]
theorem station : t.station = s.station := by rw [ht.rest]; rfl
theorem families : t.families = s.families := by rw [ht.rest]
theorem constants : t.constants = s.constants := by rw [ht.rest]
theorem timeBase : t.timeBase = s.timeBase := by rw [ht.rest]
theorem doubtful : t.fe.doubtful = s.fe.doubtful := by rw [ht.rest]
theorem headsLive : t.headsLive = s.headsLive := by rw [ht.rest]; rfl
theorem fault : t.life.fault = s.life.fault := by rw [ht.rest]
theorem sends (hs : Sends s) : Sends t := by rw [ht.rest]; exact ⟨hs.unbarred, hs.line⟩

end UnitsMoved

/-- State `t` is `s` but for the units of the other head. -/
structure Beside (h : Head) (s t : State) : Prop extends UnitsMoved s t where
  head : t.head h = s.head h
  swap : t.swap h = s.swap h
  claims : t.claimQueued (headByte h) = s.claimQueued (headByte h)

theorem Beside.refl (h : Head) (s : State) : Beside h s s := ⟨.refl s, rfl, rfl, rfl⟩

theorem Beside.trans (hst : Beside h s t) (htu : Beside h t u) : Beside h s u :=
  ⟨hst.toUnitsMoved.trans htu.toUnitsMoved, htu.head.trans hst.head, htu.swap.trans hst.swap,
    htu.claims.trans hst.claims⟩

/-- State `t` is `s` but for head unit `k`, and at most one frame more in the transmit queue. -/
structure HeadStep (k : Head) (s t : State) : Prop extends UnitsMoved s t where
  head : ∀ h, k ≠ h → t.head h = s.head h
  swaps : t.swaps = s.swaps
  claims : ∀ head, t.claimQueued head = s.claimQueued head
  reconciling : ∀ n, Reconciling n s → Reconciling (n + 1) t

/-- State `t` is `s` but for swap unit `k`. -/
structure SwapStep (k : Head) (s t : State) : Prop extends UnitsMoved s t where
  heads : t.heads = s.heads
  swap : ∀ h, k ≠ h → t.swap h = s.swap h
  claims : ∀ h, k ≠ h → t.claimQueued (headByte h) = s.claimQueued (headByte h)

theorem HeadStep.beside (ht : HeadStep k s t) (hk : k ≠ h) : Beside h s t :=
  ⟨ht.toUnitsMoved, ht.head h hk, by rw [State.swap, State.swap, ht.swaps], ht.claims _⟩

theorem SwapStep.beside (ht : SwapStep k s t) (hk : k ≠ h) : Beside h s t :=
  ⟨ht.toUnitsMoved, by rw [State.head, State.head, ht.heads], ht.swap h hk, ht.claims h hk⟩

theorem SwapStep.trans (hst : SwapStep k s t) (htu : SwapStep k t u) : SwapStep k s u :=
  ⟨hst.toUnitsMoved.trans htu.toUnitsMoved, htu.heads.trans hst.heads,
    fun h hk => (htu.swap h hk).trans (hst.swap h hk), fun h hk => (htu.claims h hk).trans (hst.claims h hk)⟩

theorem SwapStep.headUnit (ht : SwapStep k s t) (h : Head) : t.head h = s.head h := by
  rw [State.head, State.head, ht.heads]

theorem SwapStep.condition (ht : SwapStep k s t) (h : Head) : t.condition h = s.condition h := by
  rw [State.condition, ht.headUnit]
  rfl

theorem SwapStep.claimFamily (ht : SwapStep k s t) (h : Head) : t.claimFamily h = s.claimFamily h := by
  rw [State.claimFamily, State.claimFamily, ht.headUnit, ht.constants]

theorem HeadStep.refl (k : Head) (s : State) : HeadStep k s s :=
  ⟨.refl s, fun _ _ => rfl, rfl, fun _ => rfl, fun _ hs => hs.mono (Nat.le_succ _)⟩

theorem mapHead_headStep (k : Head) (g : HeadUnit → HeadUnit) (s : State) : HeadStep k s (s.mapHead k g) where
  rest := rfl
  pending _ := id
  queued _ he _ := he
  head _ hk := mapHead_head_other s g (Ne.symm hk)
  swaps := rfl
  claims _ := rfl
  reconciling _ hs := ⟨⟨hs.sends.unbarred, hs.sends.line⟩, hs.held, Nat.le_succ_of_le hs.room⟩

theorem HeadStep.mapHead (ht : HeadStep k s t) (g : HeadUnit → HeadUnit) : HeadStep k s (t.mapHead k g) where
  rest := by unfold State.mapHead; rw [ht.rest]
  pending := ht.pending
  queued := ht.queued
  head h hk := (mapHead_head_other t g (Ne.symm hk)).trans (ht.head h hk)
  swaps := ht.swaps
  claims := ht.claims
  reconciling n hs :=
    have hr := ht.reconciling n hs
    ⟨⟨hr.sends.unbarred, hr.sends.line⟩, hr.held, hr.room⟩

theorem queueFrame_headStep (hf : f.kind ≠ .claim) (k : Head) (o : Origin) (s : State) :
    HeadStep k s (queueFrame o (.pool f) s) where
  rest := rfl
  pending _ := id
  queued _ he _ := (mem_insertBy _ _ _ _).2 (.inr he)
  head _ _ := rfl
  swaps := rfl
  claims head := by
    rw [Bool.eq_iff_iff, claimQueued_iff, claimQueued_iff]
    constructor
    · rintro ⟨e, he, g, hg⟩
      rcases (mem_insertBy _ _ _ _).1 he with rfl | he
      · obtain rfl : f = _ := Payload.pool.inj hg
        exact absurd rfl hf
      · exact ⟨e, he, g, hg⟩
    · rintro ⟨e, he, g, hg⟩
      exact ⟨e, (mem_insertBy _ _ _ _).2 (.inr he), g, hg⟩
  reconciling n hs := by
    refine ⟨⟨hs.sends.unbarred, hs.sends.line⟩, hs.held, ?_⟩
    have hlength := insertBy_length (fun e : TxEntry => e.payload.cls) ⟨o, .pool f, 0, false, false⟩ s.fe.txQueue
    have hroom := hs.room
    show (insertBy _ _ s.fe.txQueue).length + s.fe.admissionsDue ≤ n + 1
    omega

theorem recordMade_headStep (k : Head) (e : Entry) (s : State) : HeadStep k s (recordMade k e s) := by
  have hhead := mapHead_headStep k (fun u =>
    { u with record := some (newRecord s.families e), cycle := none, report := .none, reportRetry := none }) s
  have hmade : recordMade k e s = requestCheckpoint (headId k) (s.mapHead k fun u =>
    { u with record := some (newRecord s.families e), cycle := none, report := .none, reportRetry := none }) := rfl
  rw [hmade]
  generalize s.mapHead k _ = a at hhead
  have hrest := requestCheckpoint_rest (headId k) a
  have hkept := fun id => requestCheckpoint_keeps (id := headId k) (k := id) (s := a)
  generalize hb : requestCheckpoint (headId k) a = b at hrest hkept
  have hlife : b.life = { a.life with pending := b.life.pending } := by rw [hrest]
  refine ⟨⟨?_, fun id hid => hkept id (hhead.pending id hid), ?_⟩, ?_, ?_, ?_, fun n hs => ?_⟩
  · rw [hrest, hhead.rest]
  all_goals rw [hrest]
  · exact hhead.queued
  · exact hhead.head
  · exact hhead.swaps
  · exact hhead.claims
  · have hr := hhead.reconciling n hs
    exact ⟨⟨hr.sends.unbarred, hr.sends.line⟩, hr.held, hr.room⟩

theorem HeadNoticed.swapStep (ht : HeadNoticed k s t) (hh : t.heads = s.heads) : SwapStep k s t where
  rest := ht.rest
  pending := ht.pending
  queued e he ho := (ht.frames.queued e (ho k)).2 he
  heads := hh
  swap h hk := ht.swap h (Ne.symm hk)
  claims h hk := ht.claims h (Ne.symm hk)

theorem swapFrame_heads (ht : swapFrame h s t) : t.heads = s.heads := ht.2.1

theorem swapAdopt_step (k : Head) (s : State) : SwapStep k s (swapAdopt k s) := by
  refine HeadNoticed.swapStep ?_ (swapFrame_heads ((swapFrame_stable k s).swapAdopt s (swapFrame_refl k s)))
  have hmap (g : SwapUnit → SwapUnit) : HeadNoticed k s (s.mapSwap k g) :=
    (headNoticed_stable k s).mapSwap g s (.refl k s)
  unfold swapAdopt
  split
  · exact .refl k s
  · split
    · exact .refl k s
    · split
      exacts [hmap _, hmap _, hmap _, .refl k s, .refl k s, .refl k s, .refl k s]

theorem suitTest_step (k : Head) (s : State) : SwapStep k s (suitTest k s) :=
  ((headNoticed_stable k s).suitTest (.refl k s)).swapStep
    (swapFrame_heads ((swapFrame_stable k s).suitTest s (swapFrame_refl k s)))

theorem claimTest_step (k : Head) (s : State) : SwapStep k s (claimTest k s) :=
  ((headNoticed_stable k s).claimTest (.refl k s)).swapStep
    (swapFrame_heads ((swapFrame_stable k s).claimTest s (swapFrame_refl k s)))

end
end Sys2Proof.Machine

namespace Sys2Proof.Machine
open State Sys2Proof.Config

/-! ## Reconciliation of a head (R107, R109, R148) -/

section
variable {s t b x y a c : State} {h : Head} {n : Nat} {e : Entry} {r : HeadRecord}

/-- The pool knows the recorded wheel at its head (R107): its entry is MOUNTED or QUARANTINED there. -/
def State.knownHere (s : State) (h : Head) (serial : Serial) : Prop :=
  ∃ e ∈ s.pool.table, (e.state = .mounted ∨ e.state = .quarantined) ∧ e.heldAt s.station h = true ∧ e.serial = serial

/-- The DECLARE of a recorded wheel (R107). -/
def declareOf (h : Head) (r : HeadRecord) : PoolFrame := .declare (headByte h) r.serial (familyByte r.family) r.diameter

theorem quarantinedHere_iff (hn : (s.pool.table.map Entry.serial).Nodup) {serial : Serial} :
    s.quarantinedHere h serial = true ↔ ∃ e ∈ s.pool.table, e.state = .quarantined ∧ e.heldAt s.station h = true
      ∧ e.serial = serial := by
  rw [State.quarantinedHere, findSerial_any_iff hn]
  simp only [Bool.and_eq_true, beq_iff_eq]
  exact exists_congr fun e => and_congr_right fun _ => by tauto

theorem knownHere_iff (hn : (s.pool.table.map Entry.serial).Nodup) {serial : Serial} : s.knownHere h serial
    ↔ (findSerial s.pool.table serial).any (fun e => e.state == .mounted && e.heldAt s.station h) = true
      ∨ s.quarantinedHere h serial = true := by
  rw [quarantinedHere_iff hn, findSerial_any_iff hn]
  simp only [State.knownHere, Bool.and_eq_true, beq_iff_eq]
  constructor
  · rintro ⟨e, he, hst | hst, hat, hs⟩
    exacts [.inl ⟨e, he, hs, hst, hat⟩, .inr ⟨e, he, hst, hat, hs⟩]
  · rintro (⟨e, he, hs, hst, hat⟩ | ⟨e, he, hst, hat, hs⟩)
    exacts [⟨e, he, .inl hst, hat, hs⟩, ⟨e, he, .inr hst, hat, hs⟩]

theorem reconcileHead_kept (hn : (s.pool.table.map Entry.serial).Nodup) (hr : (s.head h).record = some r)
    (hk : r.condition = .broken ∨ s.knownHere h r.serial) : reconcileHead h s = s := by
  rw [knownHere_iff hn] at hk
  unfold reconcileHead
  rw [hr]
  dsimp only
  rcases hk with hk | hk | hk
  · exact if_pos hk
  · rw [if_pos hk, ite_self]
  · rw [if_pos hk, ite_self, ite_self]

/-- A wheel that the pool does not know at its head is declared (R107). -/
theorem reconcileHead_declares (hs : Reconciling n s) (hn6 : n < 6) (hn : (s.pool.table.map Entry.serial).Nodup)
    (hr : (s.head h).record = some r) (hb : r.condition ≠ .broken) (hk : ¬s.knownHere h r.serial) :
    reconcileHead h s = (queueFrame (.headUnit h) (.pool (declareOf h r)) s).mapHead h fun u =>
      { u with declare := some ⟨declareOf h r, none⟩ } := by
  rw [knownHere_iff hn, not_or] at hk
  unfold reconcileHead
  rw [hr]
  dsimp only
  rw [if_neg hb, if_neg hk.1, if_neg hk.2]
  unfold submitDeclare
  rw [if_neg (by rw [hs.holdsRequest]; nofun), hs.submit hn6 (f := .declare _ _ _ _) nofun]
  rfl

theorem reconcileHead_unmounted (hr : (s.head h).record = none)
    (he : ∀ e ∈ s.pool.table, e.state = .mounted → e.heldAt s.station h = false) : reconcileHead h s = s := by
  have hnone : s.pool.table.find? (fun e => e.state == .mounted && e.heldAt s.station h) = none := by
    rw [List.find?_eq_none]
    intro e hm hq
    rw [Bool.and_eq_true, beq_iff_eq] at hq
    exact absurd (hq.2.symm.trans (he e hm hq.1)) nofun
  unfold reconcileHead
  rw [hr]
  dsimp only
  rw [hnone]

/-- An empty head adopts the wheel that the pool has MOUNTED there (R109). -/
theorem reconcileHead_adopts (hr : (s.head h).record = none) (he : e ∈ s.pool.table) (hm : e.state = .mounted)
    (hat : e.heldAt s.station h = true)
    (hu : ∀ x ∈ s.pool.table, x.state = .mounted → x.heldAt s.station h = true → x = e) :
    reconcileHead h s = recordMade h e s := by
  have hfind : s.pool.table.find? (fun e => e.state == .mounted && e.heldAt s.station h) = some e := by
    refine find?_of_unique he (by rw [hm, hat]; rfl) fun x hx hq => ?_
    rw [Bool.and_eq_true, beq_iff_eq] at hq
    exact hu x hx hq.1 hq.2
  unfold reconcileHead
  rw [hr]
  dsimp only
  rw [hfind]
  rfl

theorem reconcileHead_step (hs : Reconciling n s) (hn6 : n < 6) (h : Head) : HeadStep h s (reconcileHead h s) := by
  have hdeclare (f : PoolFrame) (hf : f.kind ≠ .claim) : HeadStep h s (submitDeclare h f s) := by
    unfold submitDeclare
    rw [if_neg (by rw [hs.holdsRequest]; nofun), hs.submit hn6 hf]
    exact (queueFrame_headStep hf h _ s).mapHead _
  unfold reconcileHead
  split
  · split
    · exact .refl h s
    · split
      · exact .refl h s
      · split
        exacts [.refl h s, hdeclare _ nofun]
  · split
    exacts [recordMade_headStep h _ s, .refl h s]

/-! ### The breakage report (R148) -/

/-- The breakage report of a recorded wheel (R148). -/
def reportOf (u : HeadUnit) (r : HeadRecord) : PoolFrame := .quarantine r.serial u.reportReason 1

theorem reportOf_kind (u : HeadUnit) (r : HeadRecord) : (reportOf u r).kind ≠ .claim :=
  show Kind.quarantine ≠ .claim from nofun

theorem reportAtSync_idle (hr : (s.head h).record = none ∨ (s.head h).report ≠ .due) : reportAtSync h s = s := by
  unfold reportAtSync
  split
  · rfl
  next r hrec => exact if_neg (hr.resolve_left (by rw [hrec]; nofun))

/-- A report of a wheel that the pool has QUARANTINED at its head is settled. -/
theorem reportAtSync_settles (hr : (s.head h).record = some r) (hd : (s.head h).report = .due)
    (hw : (s.swap h).wants = []) (hk : s.quarantinedHere h r.serial = true) :
    reportAtSync h s = s.mapHead h fun u => { u with report := .none, reportRetry := none } := by
  unfold reportAtSync
  rw [hr]
  dsimp only
  rw [if_pos hd, if_pos hk, settleReport, swapPump_nil (by exact hw)]

theorem reportAtSync_submits (hs : Reconciling n s) (hn6 : n < 6) (hr : (s.head h).record = some r)
    (hd : (s.head h).report = .due) (hk : s.quarantinedHere h r.serial = false) :
    reportAtSync h s = (queueFrame (.headUnit h) (.pool (reportOf (s.head h) r)) s).mapHead h fun u =>
      { u with report := .outstanding, reportRetry := none } := by
  unfold reportAtSync
  rw [hr]
  dsimp only
  rw [if_pos hd, if_neg (by rw [hk]; nofun), submitReport_taken hr hd hs.sends.synced (hs.holdsRequest _)
    (hs.sends.takes nofun), ← reportOf, hs.submit hn6 (reportOf_kind _ _)]

theorem reportAtSync_step (hs : Reconciling n s) (hn6 : n < 6) (hw : (s.swap h).wants = []) :
    HeadStep h s (reportAtSync h s) := by
  cases hr : (s.head h).record with
  | none => rw [reportAtSync_idle (.inl hr)]; exact .refl h s
  | some r =>
    by_cases hd : (s.head h).report = .due
    · cases hk : s.quarantinedHere h r.serial with
      | true => rw [reportAtSync_settles hr hd hw hk]; exact mapHead_headStep h _ s
      | false =>
        rw [reportAtSync_submits hs hn6 hr hd hk]
        exact (queueFrame_headStep (reportOf_kind _ _) h _ s).mapHead _
    · rw [reportAtSync_idle (.inr hd)]; exact .refl h s

/-! ### The way of one head through the reconciliation -/

/-- What reconciliation does at head `h`, step by step, with the other head's steps between. -/
structure ReconciledAt (h : Head) (b x y a c t : State) : Prop where
  start : Beside h b x
  record : Beside h (reconcileHead h x) y
  report : Beside h (reportAtSync h y) a
  adoption : Beside h (swapAdopt h a) c
  claim : Beside h (claimTest h (suitTest h c)) t
  first : Reconciling 3 x
  second : Reconciling 5 y

theorem reconcileGrinder_at (hb : Reconciling 2 b) (hw : ∀ h, (b.swap h).wants = []) (h : Head) :
    ∃ x y a c, ReconciledAt h b x y a c (reconcileGrinder b) := by
  have hwants {k : Head} {s t : State} (hst : HeadStep k s t) (hs : ∀ h, (s.swap h).wants = []) :
      ∀ h, (t.swap h).wants = [] := fun h => by
    rw [State.swap, hst.swaps]
    exact hs h
  have hstep1 := reconcileHead_step hb (by decide) .h0
  have hb1 := hstep1.reconciling 2 hb
  have hw1 := hwants hstep1 hw
  have hstep2 := reconcileHead_step hb1 (by decide) .h1
  have hb2 := hstep2.reconciling 3 hb1
  have hw2 := hwants hstep2 hw1
  have hstep3 := reportAtSync_step hb2 (by decide) (hw2 .h0)
  have hb3 := hstep3.reconciling 4 hb2
  have hstep4 := reportAtSync_step hb3 (by decide) (hwants hstep3 hw2 .h1)
  have hadopt (k : Head) (s : State) := swapAdopt_step k s
  have hsettle (k : Head) (s : State) := (suitTest_step k s).trans (claimTest_step k _)
  cases h with
  | h0 => exact ⟨b, _, _, _, .refl _ b, hstep2.beside nofun, hstep4.beside nofun, (hadopt .h1 _).beside nofun,
      (hsettle .h1 _).beside nofun, hb.mono (by decide), hb2.mono (by decide)⟩
  | h1 => exact ⟨_, _, _, _, hstep1.beside nofun, hstep3.beside nofun, (hadopt .h0 _).beside nofun,
      (hsettle .h0 _).beside nofun, .refl _ _, hb1, hb3⟩

namespace ReconciledAt
variable (ht : ReconciledAt h b x y a c t)
include ht

theorem recordStep : HeadStep h x (reconcileHead h x) := reconcileHead_step ht.first (by decide) h

theorem swap_second : y.swap h = b.swap h := by
  rw [ht.record.swap, State.swap, ht.recordStep.swaps]
  exact ht.start.swap

theorem reportStep (hw : (b.swap h).wants = []) : HeadStep h y (reportAtSync h y) :=
  reportAtSync_step ht.second (by decide) (by rw [ht.swap_second]; exact hw)

/-- The head units are done before the swap units act. -/
theorem behind : UnitsMoved a t :=
  (swapAdopt_step h a).toUnitsMoved.trans (ht.adoption.toUnitsMoved.trans
    (((suitTest_step h c).trans (claimTest_step h _)).toUnitsMoved.trans ht.claim.toUnitsMoved))

theorem head_third : t.head h = a.head h := by
  rw [ht.claim.head, ((suitTest_step h c).trans (claimTest_step h _)).headUnit, ht.adoption.head,
    (swapAdopt_step h a).headUnit]

theorem head_end : t.head h = (reportAtSync h y).head h := ht.head_third.trans ht.report.head

theorem toSecond : UnitsMoved b y :=
  ht.start.toUnitsMoved.trans (ht.recordStep.toUnitsMoved.trans ht.record.toUnitsMoved)

theorem toThird (hw : (b.swap h).wants = []) : UnitsMoved b a :=
  ht.toSecond.trans ((ht.reportStep hw).toUnitsMoved.trans ht.report.toUnitsMoved)

theorem moved (hw : (b.swap h).wants = []) : UnitsMoved b t := (ht.toThird hw).trans ht.behind

theorem knownHere_start {serial : Serial} : x.knownHere h serial ↔ b.knownHere h serial := by
  unfold State.knownHere
  rw [ht.start.pool, ht.start.station]

theorem quarantinedHere_second {serial : Serial} : y.quarantinedHere h serial = b.quarantinedHere h serial := by
  unfold State.quarantinedHere
  rw [ht.toSecond.pool, ht.toSecond.station]

/-- A frame that the head unit submits first stands in the queue at the end. -/
theorem queued_second (hw : (b.swap h).wants = []) {f : PoolFrame}
    (hq : (⟨.headUnit h, .pool f, 0, false, false⟩ : TxEntry) ∈ y.fe.txQueue) :
    t.queued (.headUnit h) f :=
  ht.behind.queued _ (ht.report.queued _ ((ht.reportStep hw).queued _ hq nofun) nofun) nofun

theorem head_kept (hn : (b.pool.table.map Entry.serial).Nodup) (hr : (b.head h).record = some r)
    (hk : r.condition = .broken ∨ b.knownHere h r.serial) :
    y.head h = b.head h := by
  have hr' : (x.head h).record = some r := by rw [ht.start.head]; exact hr
  rw [ht.record.head, reconcileHead_kept (by rw [ht.start.pool]; exact hn) hr' (by rw [ht.knownHere_start]; exact hk),
    ht.start.head]

theorem head_declared (hn : (b.pool.table.map Entry.serial).Nodup) (hw : (b.swap h).wants = [])
    (hr : (b.head h).record = some r) (hb : r.condition ≠ .broken) (hk : ¬b.knownHere h r.serial) :
    y.head h = { b.head h with declare := some ⟨declareOf h r, none⟩ } ∧ t.queued (.headUnit h) (declareOf h r) := by
  have hr' : (x.head h).record = some r := by rw [ht.start.head]; exact hr
  have hstep := reconcileHead_declares ht.first (by decide) (by rw [ht.start.pool]; exact hn) hr' hb
    (by rw [ht.knownHere_start]; exact hk)
  have hrecord := ht.record
  rw [hstep] at hrecord
  refine ⟨?_, ht.queued_second hw (hrecord.queued _ (queueFrame_mem _ _ _) nofun)⟩
  rw [hrecord.head, mapHead_head_self]
  exact congrArg (fun u : HeadUnit => { u with declare := some ⟨declareOf h r, none⟩ }) ht.start.head

theorem head_settled (hw : (b.swap h).wants = []) (hr : (y.head h).record = some r) (hd : (y.head h).report = .due)
    (hk : b.quarantinedHere h r.serial = true) :
    t.head h = { y.head h with report := .none, reportRetry := none } := by
  rw [ht.head_end, reportAtSync_settles hr hd (by rw [ht.swap_second]; exact hw)
    (by rw [ht.quarantinedHere_second]; exact hk), mapHead_head_self]

theorem head_reported (hr : (y.head h).record = some r) (hd : (y.head h).report = .due)
    (hk : b.quarantinedHere h r.serial = false) :
    t.head h = { y.head h with report := .outstanding, reportRetry := none }
      ∧ t.queued (.headUnit h) (reportOf (y.head h) r) := by
  have hstep := reportAtSync_submits ht.second (by decide) hr hd (by rw [ht.quarantinedHere_second]; exact hk)
  have hreport := ht.report
  rw [hstep] at hreport
  refine ⟨?_, ht.behind.queued _ (hreport.queued _ (queueFrame_mem _ _ _) nofun) nofun⟩
  rw [ht.head_end, hstep, mapHead_head_self]
  rfl

theorem headReconciled (hn : (b.pool.table.map Entry.serial).Nodup) (hw : (b.swap h).wants = []) :
    headReconciled h b t := by
  have hpool := (ht.moved hw).pool
  unfold Machine.headReconciled
  dsimp only
  split
  next r hr =>
    have hknown : (∃ e, ((e ∈ t.pool.table ∧ e.state = .mounted ∧ e.heldAt b.station h = true)
          ∨ (e ∈ t.pool.table ∧ e.state = .quarantined ∧ e.heldAt b.station h = true)) ∧ e.serial = r.serial)
        ↔ b.knownHere h r.serial := by
      rw [hpool]
      exact exists_congr fun e => by tauto
    have hreported : (∃ e, (e ∈ t.pool.table ∧ e.state = .quarantined ∧ e.heldAt b.station h = true)
        ∧ e.serial = r.serial) ↔ b.quarantinedHere h r.serial = true := by
      rw [hpool, quarantinedHere_iff hn]
      exact exists_congr fun e => by tauto
    rw [hknown, hreported]
    refine ⟨fun hd hk => ?_, fun hd hb hk => ?_, fun hd hb hk => ?_, fun hd hb hk => ?_⟩
    · have hy := ht.head_kept hn hr hk
      rw [ht.head_end, reportAtSync_idle (.inr (by rw [hy]; exact hd)), hy]
    · obtain ⟨hy, hq⟩ := ht.head_declared hn hw hr hb hk
      refine ⟨?_, hq⟩
      rw [ht.head_end, reportAtSync_idle (.inr (by rw [hy]; exact hd)), hy]
      rfl
    · have hy := ht.head_kept hn hr (.inl hb)
      rw [← hy] at hr hd ⊢
      exact ht.head_settled hw hr hd hk
    · have hy := ht.head_kept hn hr (.inl hb)
      rw [← hy] at hr hd ⊢
      exact ht.head_reported hr hd (Bool.eq_false_iff.2 hk)
  next hr =>
    have hr' : (x.head h).record = none := by rw [ht.start.head]; exact hr
    refine ⟨fun e ⟨he, hm, hat⟩ hu => ?_, fun hnone => ?_⟩
    · rw [hpool] at he
      have hstep := reconcileHead_adopts hr' (by rw [ht.start.pool]; exact he) hm (by rw [ht.start.station]; exact hat)
        fun z hz hzm hza => hu z ⟨by rw [hpool, ← ht.start.pool]; exact hz, hzm, by rw [← ht.start.station]; exact hza⟩
      have hrecord := ht.record
      rw [hstep] at hrecord
      have hy := hrecord.head.trans (recordMade_head h e x)
      rw [ht.start.head, ht.start.families] at hy
      refine ⟨?_, fun hf => ?_⟩
      · rw [ht.head_end, reportAtSync_idle (.inr (by rw [hy]; nofun)), hy]
        rfl
      · refine ht.behind.pending _ (ht.report.pending _ ((ht.reportStep hw).pending _ (hrecord.pending _ ?_)))
        exact recordMade_pending (ht.start.fault.trans hf) h e
    · have hstep := reconcileHead_unmounted hr' fun e he hm => by
        rw [ht.start.pool] at he
        rw [ht.start.station]
        exact Bool.eq_false_iff.2 fun hat => hnone e ⟨hpool ▸ he, hm, hat⟩
      have hy : y.head h = b.head h := by rw [ht.record.head, hstep, ht.start.head]
      rw [ht.head_end, reportAtSync_idle (.inl (by rw [hy]; exact hr)), hy]

end ReconciledAt
end
end Sys2Proof.Machine

namespace Sys2Proof.Machine
open State Sys2Proof.Config

/-! ## Reconciliation of a swap unit (R109, R153, R165) -/

section
variable {s t b x y a c : State} {h : Head} {e : Entry} {serial : Serial}

/-- The entry is on its way to head `h`, and is not that of the recorded wheel (R109). -/
def State.onItsWay (s : State) (h : Head) (e : Entry) : Prop :=
  e ∈ s.pool.table ∧ (e.state = .claimed ∨ e.state = .transit ∨ e.state = .delivered)
    ∧ e.heldAt s.station h = true ∧ ∀ r, (s.head h).record = some r → r.serial ≠ e.serial

/-- The unit with the entry that it adopts (R109, R166). -/
def SwapUnit.adopting (u : SwapUnit) (e : Entry) (now : Time) (length : Nat) : SwapUnit :=
  if e.state = .delivered then
    { u with state := .delivered, held := some e.serial, heldFamily := e.family, window := .stopped }
  else
    { u with state := .await, held := some e.serial, heldFamily := e.family, claimStamp := some now
             lifetime := if e.state = .claimed then some ⟨now, length⟩ else u.lifetime }

theorem onItsWay_iff : s.onItsWay h e ↔ e ∈ s.pool.table
    ∧ ((e.state == .claimed || e.state == .transit || e.state == .delivered)
      && (e.holder.any fun x => x.station == s.station && x.head == h)
      && !((s.head h).record.any fun r => r.serial == e.serial)) = true := by
  simp only [State.onItsWay, Entry.heldAt, Bool.and_eq_true, Bool.or_eq_true, beq_iff_eq, Bool.not_eq_true',
    Option.any_eq_false, beq_eq_false_iff_ne, and_assoc, or_assoc]

theorem adoptable_eq_some (he : s.onItsWay h e) (hu : ∀ x, s.onItsWay h x → x = e) : s.adoptable h = some e := by
  obtain ⟨hm, hp⟩ := onItsWay_iff.1 he
  exact find?_of_unique hm hp fun x hx hq => hu x (onItsWay_iff.2 ⟨hx, hq⟩)

theorem adoptable_eq_none (hn : ∀ e, ¬s.onItsWay h e) : s.adoptable h = none :=
  List.find?_eq_none.2 fun e he hq => hn e (onItsWay_iff.2 ⟨he, hq⟩)

theorem swapAdopt_stays (hs : (s.swap h).state ≠ .idle ∨ s.adoptable h = none) : swapAdopt h s = s := by
  unfold swapAdopt
  split
  · rfl
  next hi => rw [hs.resolve_left hi]

theorem swapAdopt_adopts (hi : (s.swap h).state = .idle) (he : s.onItsWay h e) (hu : ∀ x, s.onItsWay h x → x = e) :
    swapAdopt h s = s.mapSwap h fun u => u.adopting e s.timeBase (s.constants.claimLifetimeS * 1000000) := by
  unfold swapAdopt
  rw [if_neg (not_not.2 hi), adoptable_eq_some he hu]
  obtain ⟨-, hst, -⟩ := he
  dsimp only
  unfold SwapUnit.adopting
  rcases hst with hst | hst | hst <;> rw [hst] <;> rfl

/-! ### The wheel is compared (R165) -/

theorem suitTest_suits (hf : (s.swap h).heldFamily = s.claimFamily h) (hn : (s.swap h).notNeeded = false) :
    suitTest h s = s := by
  unfold suitTest
  simp [hf, hn]

theorem suitTest_unsuited (hx : (s.swap h).held = some serial) (hf : (s.swap h).heldFamily ≠ s.claimFamily h)
    (hn : (s.swap h).notNeeded = false) : suitTest h s = markNotNeeded h s := by
  unfold suitTest
  simp [hx, hf, hn]

/-- A NOT_NEEDED release that may be sent goes at once from a quiet unit. -/
theorem swapWant_notNeeded (hs : Sends s) (hn : (s.swap h).notNeeded = true) (hx : (s.swap h).held = some serial)
    (hr : s.releasable h = true) (hw : (s.swap h).wants = []) (ho : (s.swap h).outstanding = none) :
    (swapWant h .releaseNotNeeded s).swap h = { s.swap h with
      outstanding := some ⟨.release serial releaseNotNeeded, false, (s.swap h).state⟩ } := by
  have hcalls : s.stillCalls h .releaseNotNeeded = true := by simp [State.stillCalls, hn, hr]
  have htake : takeWant h .releaseNotNeeded s = submitRetryable h (.release serial releaseNotNeeded) s := by
    unfold takeWant SwapUnit.wantedFrame
    rw [hx]
    exact if_pos hcalls
  rw [swapWant_goes hw ho rfl, htake, submitRetryable_swap (f := .release serial releaseNotNeeded) hs nofun]

/-- A wheel in TRANSIT is not released (R165). -/
theorem markNotNeeded_transit (hst : (s.swap h).state = .await) (hc : s.heldClaimed h = false) :
    (markNotNeeded h s).swap h = { s.swap h with notNeeded := true } := by
  have hmark : (s.mapSwap h fun u => { u with notNeeded := true }).swap h = { s.swap h with notNeeded := true } :=
    mapSwap_swap_self _ _
  have hclaimed : (s.mapSwap h fun u => { u with notNeeded := true }).heldClaimed h = false := by
    unfold State.heldClaimed
    rw [hmark]
    exact hc
  unfold markNotNeeded
  dsimp only
  rw [hmark, hst]
  dsimp only
  rw [hclaimed, if_neg nofun, hmark, ← hst]

/-- A wheel that is CLAIMED or DELIVERED is released NOT_NEEDED (R165). -/
theorem markNotNeeded_releases (hs : Sends s) (hx : (s.swap h).held = some serial)
    (hst : ((s.swap h).state = .await ∧ s.heldClaimed h = true)
      ∨ ((s.swap h).state = .delivered ∧ (s.swap h).window = .stopped))
    (hw : (s.swap h).wants = []) (ho : (s.swap h).outstanding = none) : (markNotNeeded h s).swap h = { s.swap h with
      notNeeded := true
      outstanding := some ⟨.release serial releaseNotNeeded, false, (s.swap h).state⟩ } := by
  have hgoes {v : State} (hv : SwapMoved h s v) (hvs : v.swap h = { s.swap h with notNeeded := true })
      (hr : v.releasable h = true) : (swapWant h .releaseNotNeeded v).swap h = { s.swap h with
        notNeeded := true
        outstanding := some ⟨.release serial releaseNotNeeded, false, (s.swap h).state⟩ } := by
    rw [swapWant_notNeeded (hv.sends hs) (by rw [hvs]) (by rw [hvs]; exact hx) hr (by rw [hvs]; exact hw)
      (by rw [hvs]; exact ho), hvs]
  have hmoved : SwapMoved h s (s.mapSwap h fun u => { u with notNeeded := true }) := (SwapMoved.refl h s).mapSwap _
  have hmark : (s.mapSwap h fun u => { u with notNeeded := true }).swap h = { s.swap h with notNeeded := true } :=
    mapSwap_swap_self _ _
  unfold markNotNeeded
  dsimp only
  generalize s.mapSwap h (fun u => { u with notNeeded := true }) = v at hmoved hmark
  rcases hst with ⟨hst, hc⟩ | ⟨hst, hwindow⟩
  · have hclaimed : v.heldClaimed h = true := by
      unfold State.heldClaimed
      rw [hmark, hmoved.pool]
      exact hc
    rw [hmark, hst]
    dsimp only
    rw [if_pos hclaimed, ← hst]
    exact hgoes hmoved hmark (by unfold State.releasable; rw [hmark, hst]; exact hclaimed)
  · have hstopped : (v.mapSwap h fun u => { u with window := .stopped }) = v :=
      mapSwap_same (by rw [hmark, ← hwindow])
    rw [hmark, hst]
    dsimp only
    rw [hstopped, ← hst]
    exact hgoes hmoved hmark (by unfold State.releasable; rw [hmark, hst])

namespace ReconciledAt
variable (ht : ReconciledAt h b x y a c t)
include ht

theorem swap_third (hw : (b.swap h).wants = []) : a.swap h = b.swap h := by
  rw [ht.report.swap, State.swap, (ht.reportStep hw).swaps]
  exact ht.swap_second

theorem claims_third (hw : (b.swap h).wants = []) : a.claimQueued (headByte h) = b.claimQueued (headByte h) := by
  rw [ht.report.claims, (ht.reportStep hw).claims, ht.record.claims, ht.recordStep.claims, ht.start.claims]

theorem toFourth (hw : (b.swap h).wants = []) : UnitsMoved b c :=
  (ht.toThird hw).trans ((swapAdopt_step h a).toUnitsMoved.trans ht.adoption.toUnitsMoved)

theorem swap_end : t.swap h = (claimTest h (suitTest h c)).swap h := ht.claim.swap

theorem head_fourth : t.head h = c.head h := by
  rw [ht.head_third, ht.adoption.head, (swapAdopt_step h a).headUnit]

theorem condition_end : t.condition h = c.condition h := by
  rw [State.condition, ht.head_fourth]
  rfl

theorem claimFamily_end : t.claimFamily h = c.claimFamily h := by
  rw [State.claimFamily, State.claimFamily, ht.head_fourth, ht.claim.constants,
    ((suitTest_step h c).trans (claimTest_step h _)).constants]

/-- What is on its way to the head at the end was so as the unit adopted. -/
theorem onItsWay_third (hw : (b.swap h).wants = []) : a.onItsWay h e ↔ e ∈ t.pool.table
    ∧ (e.state = .claimed ∨ e.state = .transit ∨ e.state = .delivered) ∧ e.heldAt b.station h = true
    ∧ ∀ r, (t.head h).record = some r → r.serial ≠ e.serial := by
  unfold State.onItsWay
  rw [ht.head_third, ht.behind.pool, (ht.toThird hw).station]

/-- An adopted wheel of the claim family is kept, and another is released where it may be (R165). -/
theorem swap_adopted (hb : Sends b) (hn : (b.pool.table.map Entry.serial).Nodup) (hw : (b.swap h).wants = [])
    (hi : (b.swap h).state = .idle) (hnn : (b.swap h).notNeeded = false) (ho : (b.swap h).outstanding = none)
    (he : a.onItsWay h e) (hu : ∀ x, a.onItsWay h x → x = e) :
    let u := (b.swap h).adopting e b.timeBase (b.constants.claimLifetimeS * 1000000)
    (e.family = t.claimFamily h → t.swap h = u)
    ∧ (e.family ≠ t.claimFamily h →
      (e.state = .transit → t.swap h = { u with notNeeded := true })
      ∧ (e.state ≠ .transit → t.swap h = { u with
          notNeeded := true, outstanding := some ⟨.release e.serial releaseNotNeeded, false, u.state⟩ })) := by
  intro u
  have hcu : c.swap h = u := by
    rw [ht.adoption.swap, swapAdopt_adopts (by rw [ht.swap_third hw]; exact hi) he hu, mapSwap_swap_self,
      ht.swap_third hw, (ht.toThird hw).timeBase, (ht.toThird hw).constants]
  obtain ⟨hmem, hway, -⟩ := he
  have hfind : findSerial c.pool.table e.serial = some e := by
    rw [(ht.toFourth hw).pool]
    exact findSerial_of_nodup hn ((ht.toThird hw).pool ▸ hmem)
  have hstate : u.state = if e.state = .delivered then .delivered else .await := by
    unfold u SwapUnit.adopting
    split <;> rfl
  have hheld : u.held = some e.serial ∧ u.heldFamily = e.family ∧ u.notNeeded = false ∧ u.wants = []
      ∧ u.outstanding = none := by
    unfold u SwapUnit.adopting
    split <;> exact ⟨rfl, rfl, hnn, hw, ho⟩
  obtain ⟨hheld, hfamily, hneeded, hwants, hout⟩ := hheld
  have hbusy : u.state ≠ .idle := by
    rw [hstate]
    split <;> exact nofun
  have hclaimed : c.heldClaimed h = (e.state == .claimed) := by
    unfold State.heldClaimed
    rw [hcu, hheld]
    show (findSerial c.pool.table e.serial).any _ = _
    rw [hfind]
    rfl
  rw [ht.swap_end, ht.claimFamily_end]
  refine ⟨fun hf => ?_, fun hf => ⟨fun htransit => ?_, fun hother => ?_⟩⟩
  · rw [suitTest_suits (by rw [hcu, hfamily]; exact hf) (by rw [hcu]; exact hneeded),
      claimTest_stays (mayClaim_of_state (by rw [hcu]; exact hbusy)), hcu]
  all_goals
    rw [suitTest_unsuited (by rw [hcu]; exact hheld) (by rw [hcu, hfamily]; exact hf) (by rw [hcu]; exact hneeded)]
  · have hmark := markNotNeeded_transit (h := h) (s := c) (by rw [hcu, hstate, htransit]; rfl)
      (by rw [hclaimed, htransit]; rfl)
    rw [hcu] at hmark
    rw [claimTest_stays (mayClaim_of_state (by rw [hmark]; exact hbusy)), hmark]
  · have hmark := markNotNeeded_releases (h := h) (s := c) ((ht.toFourth hw).sends hb) (by rw [hcu]; exact hheld) (by
        rw [hcu, hclaimed]
        rcases hway with hst | hst | hst
        · exact .inl ⟨by rw [hstate, hst]; rfl, by rw [hst]; rfl⟩
        · exact absurd hst hother
        · exact .inr ⟨by rw [hstate, hst]; rfl, by unfold u SwapUnit.adopting; rw [if_pos hst]⟩)
      (by rw [hcu]; exact hwants) (by rw [hcu]; exact hout)
    rw [hcu] at hmark
    rw [claimTest_stays (mayClaim_of_state (by rw [hmark]; exact hbusy)), hmark]

/-- A unit that adopts nothing claims where its head needs a sister (R153). -/
theorem swap_claims (hb : Sends b) (hl : b.headsLive = true) (hw : (b.swap h).wants = [])
    (hi : (b.swap h).state = .idle) (hx : (b.swap h).held = none) (ho : (b.swap h).outstanding = none)
    (hr : (b.swap h).retries = []) (hnone : ∀ e, ¬a.onItsWay h e) :
    let needs : Prop := needsSister (t.condition h) = true ∧ b.fe.doubtful = false ∧ (t.head h).declare = none
    (¬needs → t.swap h = b.swap h)
    ∧ (needs → b.claimQueued (headByte h) = false → t.swap h = (b.swap h).claiming h (t.claimFamily h)) := by
  intro needs
  have hadoption := ht.adoption
  rw [swapAdopt_stays (.inr (adoptable_eq_none hnone))] at hadoption
  have hcu : c.swap h = b.swap h := hadoption.swap.trans (ht.swap_third hw)
  have hmoved := ht.toFourth hw
  have hsends := hmoved.sends hb
  have hneeds : needs ↔ needsSister (c.condition h) = true ∧ c.fe.doubtful = false ∧ (c.head h).declare = none := by
    rw [← ht.condition_end, hmoved.doubtful, ← ht.head_fourth]
  rw [ht.swap_end, suitTest_empty (by rw [hcu]; exact hx), ht.claimFamily_end, hneeds]
  refine ⟨fun hno => ?_, fun ⟨hsister, hd, hdec⟩ hq => ?_⟩
  · have hmay : c.mayClaim h = false := by
      refine Bool.eq_false_iff.2 fun hm => hno ?_
      simp only [State.mayClaim, Bool.and_eq_true, Bool.not_eq_true', Option.isNone_iff_eq_none] at hm
      obtain ⟨⟨⟨⟨⟨⟨⟨-, hsister⟩, -⟩, hd⟩, -⟩, -⟩, -⟩, hdec⟩ := hm
      exact ⟨hsister, hd, hdec⟩
    rw [claimTest_stays hmay, hcu]
  · have hmay : c.mayClaim h = true := mayClaim_of (hmoved.headsLive.trans hl) (by rw [hcu]; exact hi) hsister
      hsends.synced hd (by rw [hcu]; exact hx) (by rw [hcu]; exact ho) (by rw [hcu]; exact hr) hdec
    rw [claimTest, if_pos hmay, submitClaim_swap hsends (hadoption.claims.trans ((ht.claims_third hw).trans hq)), hcu]

/-- A unit in BACKOFF or FAILED without a wheel stays as it is. -/
theorem swap_waits (hw : (b.swap h).wants = []) (hi : (b.swap h).state ≠ .idle) (hx : (b.swap h).held = none) :
    t.swap h = b.swap h := by
  have hadoption := ht.adoption
  rw [swapAdopt_stays (.inl (by rw [ht.swap_third hw]; exact hi))] at hadoption
  have hcu : c.swap h = b.swap h := hadoption.swap.trans (ht.swap_third hw)
  rw [ht.swap_end, suitTest_empty (by rw [hcu]; exact hx),
    claimTest_stays (mayClaim_of_state (by rw [hcu]; exact hi)), hcu]

theorem swapReconciled (hb : Sends b) (hl : b.headsLive = true) (hn : (b.pool.table.map Entry.serial).Nodup)
    (hw : (b.swap h).wants = []) : swapReconciled h b t := by
  unfold Machine.swapReconciled
  intro u onItsWay adopted hx hnn ho hr
  have hway (e : Entry) : onItsWay e ↔ a.onItsWay h e := (ht.onItsWay_third hw).symm
  refine ⟨fun e hi he hu => ?_, fun hi hnone => ?_, fun hst => ?_⟩
  · exact ht.swap_adopted hb hn hw hi hnn ho ((hway e).1 he) fun x hx => hu x ((hway x).2 hx)
  · obtain ⟨hstays, hclaims⟩ := ht.swap_claims hb hl hw hi hx ho hr fun e he => hnone e ((hway e).2 he)
    refine ⟨hstays, fun hneeds hq => hclaims hneeds ?_⟩
    refine Bool.eq_false_iff.2 fun hc => ?_
    obtain ⟨e, he, g, hg⟩ := claimQueued_iff.1 hc
    exact hq e he g hg
  · refine ht.swap_waits hw ?_ hx
    rcases hst with hst | hst <;> rw [show (b.swap h).state = _ from hst] <;> exact nofun

end ReconciledAt
end
end Sys2Proof.Machine

namespace Sys2Proof.Machine
open State Sys2Proof.Config

/-! ## Reconciliation of the store: the jobs of the table (R110, R170) -/

section
variable {s t : State} {j : Job} {js : List Job} {l : List Entry} {e : Entry} {n : Nat} {f : PoolFrame}

theorem requestImagePages_rest (s : State) : requestImagePages s
    = { s with life := { s.life with pending := (requestImagePages s).life.pending } } := by
  refine foldl_stable (P := fun t => t = { s with life := { s.life with pending := t.life.pending } }) _
    (fun id t ht => ?_) _ s rfl
  rw [requestCheckpoint_rest, ht]

/-- All six store image pages are requested (R110). -/
theorem requestImagePages_pending {id : Nat} (hf : s.life.fault = false) (hid : id ∈ [16, 17, 18, 19, 20, 21]) :
    id ∈ (requestImagePages s).life.pending := by
  have hall (ids : List Nat) : ∀ t : State, t.life.fault = false → (id ∈ ids ∨ id ∈ t.life.pending) →
      id ∈ (ids.foldl (fun s id => requestCheckpoint id s) t).life.pending := by
    induction ids with
    | nil => exact fun t _ h => h.resolve_left List.not_mem_nil
    | cons k ks ih =>
      have hkeeps (t : State) : (requestCheckpoint k t).life.fault = t.life.fault := by rw [requestCheckpoint_rest]
      refine fun t ht h => ih _ ((hkeeps t).trans ht) ?_
      rcases h with h | h
      · rcases List.mem_cons.1 h with rfl | h
        exacts [.inr (requestCheckpoint_mem ht), .inl h]
      · exact .inr (requestCheckpoint_keeps h)
  exact hall _ s hf (.inl hid)

/-- The station with these jobs behind those of its dispatch queue. -/
def jobsQueued (js : List Job) (s : State) : State := s.mapStore fun u => { u with queue := u.queue ++ js }

/-- A job that arrives now goes behind those that have arrived now (R170). -/
theorem insertJob_last {now : Time} {q : List Job} (hq : ∀ k ∈ q, k.key = now) (hj : j.key = now) :
    insertJob now j q = q ++ [j] := by
  induction q with
  | nil => rfl
  | cons k ks ih =>
    have hk : j.notLater now k = true := by
      rw [Job.notLater, hj, hq k List.mem_cons_self]
      exact decide_eq_true (Nat.le_refl _)
    rw [insertJob, if_pos (by rw [List.any_cons, hk, Bool.true_or]), ih fun x hx => hq x (List.mem_cons_of_mem _ hx)]
    rfl

/-- The queue, with these jobs behind it, has only jobs that arrived now, none of this wheel, and room. -/
structure QueueFresh (s : State) (js : List Job) (x : Serial) : Prop where
  keys : ∀ q ∈ s.store.queue ++ js, q.key = s.timeBase
  serials : ∀ q ∈ s.store.queue ++ js, q.serial ≠ x
  room : (s.store.queue ++ js).length < 16

/-- The job in progress is of this wheel. -/
def State.inProgress (s : State) (x : Serial) : Bool := s.store.job.any fun j => j.job.serial == x

theorem QueueFresh.hasJob (hs : QueueFresh s js e.serial) :
    (jobsQueued js s).store.hasJob e.serial = s.inProgress e.serial := by
  have hnone : (s.store.queue ++ js).any (fun q => q.serial == e.serial) = false :=
    List.any_eq_false.2 fun q hq => by simpa using hs.serials q hq
  show ((s.store.queue ++ js).any _ || _) = _
  rw [hnone]
  rfl

theorem queueJob_has (hs : s.store.hasJob j.serial = true) : queueJob j s = s := by
  unfold queueJob StoreUnit.takesJob
  rw [hs]
  rfl

theorem QueueFresh.queueJob (hs : QueueFresh s js e.serial) (hp : s.inProgress e.serial = false)
    (hj : j.serial = e.serial) (hk : j.key = s.timeBase) :
    queueJob j (jobsQueued js s) = jobsQueued (js ++ [j]) s := by
  have htakes : (jobsQueued js s).store.takesJob j.serial = true := by
    unfold StoreUnit.takesJob
    rw [hj, hs.hasJob, hp]
    exact decide_eq_true hs.room
  have hlast : insertJob s.timeBase j (s.store.queue ++ js) = s.store.queue ++ (js ++ [j]) := by
    rw [insertJob_last hs.keys hk, List.append_assoc]
  unfold Machine.queueJob
  rw [if_pos htakes]
  show s.mapStore (fun u => { u with queue := insertJob s.timeBase j (u.queue ++ js) })
    = s.mapStore fun u => { u with queue := u.queue ++ (js ++ [j]) }
  unfold State.mapStore
  dsimp only
  rw [hlast]

/-- The RETURN of an entry that waits at a change position, unless its wheel is that of the job in progress (R110). -/
def returnJob (s : State) (e : Entry) : Option Job :=
  match e.holder with
  | some x =>
    if e.returnable && !s.inProgress e.serial then
      some ⟨.ret, e.serial, .change x.station x.head, none, s.timeBase⟩
    else none
  | none => none

/-- The FETCH of a CLAIMED entry, unless its wheel is that of the job in progress (R110). -/
def fetchJob (s : State) (e : Entry) : Option Job :=
  match e.slot, e.holder with
  | some n, some x =>
    if e.state == .claimed && !s.inProgress e.serial then
      some ⟨.fetch, e.serial, .slot n, some (.change x.station x.head), s.timeBase⟩
    else none
  | _, _ => none

theorem returnJob_of (hj : returnJob s e = some j) :
    j.serial = e.serial ∧ j.key = s.timeBase ∧ e.returnable = true := by
  unfold returnJob at hj
  split at hj
  · split at hj
    next hc =>
      obtain rfl := Option.some.inj hj
      exact ⟨rfl, rfl, ((Bool.and_eq_true _ _).mp hc).1⟩
    next => exact absurd hj nofun
  · exact absurd hj nofun

theorem fetchJob_of (hj : fetchJob s e = some j) : j.serial = e.serial ∧ j.key = s.timeBase ∧ e.state = .claimed := by
  unfold fetchJob at hj
  split at hj
  · split at hj
    next hc =>
      obtain rfl := Option.some.inj hj
      exact ⟨rfl, rfl, beq_iff_eq.1 ((Bool.and_eq_true _ _).mp hc).1⟩
    next => exact absurd hj nofun
  · exact absurd hj nofun

/-- Jobs of entries of distinct serials go into the queue in the order of the entries, where each entry's step queues
its job, if it has one, behind the others. -/
theorem foldl_jobsQueued {p : Entry → Bool} {g : State → Entry → State} {job : Entry → Option Job}
    (hl : (l.map Entry.serial).Nodup) (hjob : ∀ e j, job e = some j → j.serial = e.serial ∧ j.key = s.timeBase)
    (hkeys : ∀ q ∈ s.store.queue, q.key = s.timeBase)
    (hserials : ∀ q ∈ s.store.queue, ∀ e ∈ l, (job e).isSome = true → q.serial ≠ e.serial)
    (hroom : s.store.queue.length + (l.filterMap job).length ≤ 16)
    (hg : ∀ js, ∀ e ∈ l, ((job e).isSome = true → QueueFresh s js e.serial) →
      (if p e then g (jobsQueued js s) e else jobsQueued js s) = jobsQueued (js ++ (job e).toList) s) :
    (l.filter p).foldl g s = jobsQueued (l.filterMap job) s := by
  have hnil : jobsQueued [] s = s := by
    show s.mapStore (fun u => { u with queue := u.queue ++ [] }) = s
    simp [State.mapStore]
  have hall (post : List Entry) : ∀ pre, l = pre ++ post →
      post.foldl (fun s e => if p e then g s e else s) (jobsQueued (pre.filterMap job) s)
        = jobsQueued (l.filterMap job) s := by
    induction post with
    | nil => rintro pre rfl; rw [List.append_nil]; rfl
    | cons e post ih =>
      intro pre hpre
      have hmem : e ∈ l := by rw [hpre]; exact List.mem_append_right _ List.mem_cons_self
      have hsplit : pre.filterMap job ++ (job e).toList = (pre ++ [e]).filterMap job := by
        rw [List.filterMap_append]
        cases hj : job e <;> simp [hj]
      have hstep := hg (pre.filterMap job) e hmem fun hsome => by
        obtain ⟨j, hj⟩ := Option.isSome_iff_exists.1 hsome
        refine ⟨fun q hq => ?_, fun q hq => ?_, ?_⟩
        · rcases List.mem_append.1 hq with hq | hq
          · exact hkeys q hq
          · obtain ⟨d, -, hd⟩ := List.mem_filterMap.1 hq
            exact (hjob d q hd).2
        · rcases List.mem_append.1 hq with hq | hq
          · exact hserials q hq e hmem hsome
          · obtain ⟨d, hd, hdq⟩ := List.mem_filterMap.1 hq
            rw [(hjob d q hdq).1]
            rw [hpre, List.map_append, List.nodup_append] at hl
            exact hl.2.2 _ (List.mem_map_of_mem hd) _ (List.mem_map_of_mem List.mem_cons_self)
        · rw [hpre, List.filterMap_append, List.length_append, List.filterMap_cons, hj, List.length_cons] at hroom
          rw [List.length_append]
          omega
      rw [List.foldl_cons, hstep, hsplit]
      exact ih _ (by rw [hpre, List.append_assoc]; rfl)
  have hfold := hall l [] rfl
  rw [List.filterMap_nil, hnil] at hfold
  rw [List.foldl_filter]
  exact hfold

/-- The RETURNs of the table are queued in the order of its entries (R110). -/
theorem returns_queued (hl : (l.map Entry.serial).Nodup) (hq : s.store.queue = [])
    (hroom : (l.filterMap (returnJob s)).length ≤ 16) :
    (l.filter fun e => e.returnable && e.holder.isSome).foldl (fun s e => queueReturn e s.now s) s
      = jobsQueued (l.filterMap (returnJob s)) s := by
  refine foldl_jobsQueued hl (fun e j hj => ⟨(returnJob_of hj).1, (returnJob_of hj).2.1⟩) (by rw [hq]; nofun)
    (by rw [hq]; nofun) (by rw [hq, List.length_nil, Nat.zero_add]; exact hroom) fun js e _ hfresh => ?_
  unfold returnJob at hfresh ⊢
  cases hx : e.holder with
  | none => simp
  | some x =>
    cases hr : e.returnable with
    | false => simp
    | true =>
      have hreturn : queueReturn e s.now (jobsQueued js s)
          = queueJob ⟨.ret, e.serial, .change x.station x.head, none, s.timeBase⟩ (jobsQueued js s) := by
        unfold queueReturn Entry.place
        rw [hx]
        rfl
      rw [hx, hr] at hfresh
      refine (if_pos (by simp)).trans (hreturn.trans ?_)
      cases hp : s.inProgress e.serial with
      | false => exact (hfresh (by simp [hp])).queueJob hp rfl rfl
      | true =>
        rw [queueJob_has]
        · simp
        · show ((s.store.queue ++ js).any _ || s.inProgress e.serial) = true
          rw [hp, Bool.or_true]

/-- The FETCHes of the table are queued behind them (R110). -/
theorem fetches_queued (hl : (l.map Entry.serial).Nodup) (hkeys : ∀ q ∈ s.store.queue, q.key = s.timeBase)
    (hserials : ∀ q ∈ s.store.queue, ∀ e ∈ l, e.state = .claimed → q.serial ≠ e.serial)
    (hroom : s.store.queue.length + (l.filterMap (fetchJob s)).length ≤ 16) :
    (l.filter fun e => e.state == .claimed).foldl (fun s e => queueFetch e s.now s) s
      = jobsQueued (l.filterMap (fetchJob s)) s := by
  refine foldl_jobsQueued hl (fun e j hj => ⟨(fetchJob_of hj).1, (fetchJob_of hj).2.1⟩) hkeys
    (fun q hq e he hsome => ?_) hroom fun js e _ hfresh => ?_
  · obtain ⟨j, hj⟩ := Option.isSome_iff_exists.1 hsome
    exact hserials q hq e he (fetchJob_of hj).2.2
  · unfold fetchJob at hfresh ⊢
    unfold queueFetch Entry.place
    cases hc : e.state == .claimed with
    | false => cases e.slot <;> cases e.holder <;> simp
    | true =>
      cases hn : e.slot with
      | none => simp
      | some n =>
        cases hx : e.holder with
        | none => simp
        | some x =>
          rw [hn, hx, hc] at hfresh
          rw [if_pos rfl]
          dsimp only [Option.map_some]
          cases hp : s.inProgress e.serial with
          | false =>
            have hfresh := hfresh (by simp [hp])
            rw [hfresh.hasJob, hp, if_neg nofun, if_pos (by exact hfresh.room)]
            exact hfresh.queueJob hp rfl rfl
          | true =>
            have hhas : (jobsQueued js s).store.hasJob e.serial = true := by
              show ((s.store.queue ++ js).any _ || s.inProgress e.serial) = true
              rw [hp, Bool.or_true]
            rw [if_pos hhas]
            simp

end
end Sys2Proof.Machine

namespace Sys2Proof.Machine
open State Sys2Proof.Config

/-! ## Reconciliation of the store: its frames (R110, R111, R168, R180) -/

section
variable {s t b : State} {j : JobInProgress} {c : HeldCompletion} {n : Nat} {f : PoolFrame} {e : Entry}

/-- With no frame due and an empty send list there is nothing to submit. -/
theorem storeSubmitOne_nothing (hjf : s.store.jobFrame.filter StoreFrame.isDue = none)
    (htrack : s.store.track.filter StoreFrame.isDue = none) (hlist : s.store.sendList = []) : storeSubmitOne s = s := by
  unfold storeSubmitOne
  rw [hjf, htrack, hlist]

/-- The job frame that is due goes into the transmit queue, and nothing else (R168). -/
theorem storePump_job (hs : Reconciling n s) (hn : n < 6) (hf : f.kind ≠ .claim)
    (hjf : s.store.jobFrame = some ⟨f, .due⟩) (htrack : s.store.track.filter StoreFrame.isDue = none)
    (hlist : s.store.sendList = []) : storePump s
      = (queueFrame .storeUnit (.pool f) s).mapStore fun u => { u with jobFrame := some ⟨f, .submitted⟩ } := by
  have hone : storeSubmitOne s
      = (queueFrame .storeUnit (.pool f) s).mapStore fun u => { u with jobFrame := some ⟨f, .submitted⟩ } := by
    unfold storeSubmitOne
    rw [hjf]
    show (submit .storeUnit (.pool f) s).1.mapStore (fun u =>
      { u with jobFrame := some ⟨f, s.submitStatus (submit .storeUnit (.pool f) s).2⟩ }) = _
    rw [hs.submit hn hf]
    rfl
  show (if s.holdsRequest .storeUnit = true then s else storePumpFrom 17 (storeSubmitOne s)) = _
  rw [hs.holdsRequest, if_neg nofun, hone]
  exact storePumpFrom_idle (storeSubmitOne_nothing (by rfl) (by exact htrack) (by exact hlist)) 17

/-- The track scan's frame that is due goes into the transmit queue where there is no job frame (R168). -/
theorem storePump_track (hs : Reconciling n s) (hn : n < 6) (hf : f.kind ≠ .claim) (hjf : s.store.jobFrame = none)
    (htrack : s.store.track = some ⟨f, .due⟩) (hlist : s.store.sendList = []) : storePump s
      = (queueFrame .storeUnit (.pool f) s).mapStore fun u => { u with track := some ⟨f, .submitted⟩ } := by
  have hone : storeSubmitOne s
      = (queueFrame .storeUnit (.pool f) s).mapStore fun u => { u with track := some ⟨f, .submitted⟩ } := by
    unfold storeSubmitOne
    rw [hjf, htrack]
    show (submit .storeUnit (.pool f) s).1.mapStore (fun u =>
      { u with track := some ⟨f, s.submitStatus (submit .storeUnit (.pool f) s).2⟩ }) = _
    rw [hs.submit hn hf]
    rfl
  show (if s.holdsRequest .storeUnit = true then s else storePumpFrom 17 (storeSubmitOne s)) = _
  rw [hs.holdsRequest, if_neg nofun, hone]
  exact storePumpFrom_idle (storeSubmitOne_nothing (by exact congrArg (Option.filter StoreFrame.isDue) hjf) (by rfl)
    (by exact hlist)) 17

theorem Reconciling.queueFrame (hs : Reconciling n s) (o : Origin) (p : Payload) :
    Reconciling (n + 1) (queueFrame o p s) := by
  refine ⟨⟨hs.sends.unbarred, hs.sends.line⟩, hs.held, ?_⟩
  have hlength := insertBy_length (fun e : TxEntry => e.payload.cls) ⟨o, p, 0, false, false⟩ s.fe.txQueue
  have hroom := hs.room
  show (insertBy _ _ s.fe.txQueue).length + s.fe.admissionsDue ≤ n + 1
  omega

theorem Reconciling.mapStore (hs : Reconciling n s) (g : StoreUnit → StoreUnit) : Reconciling n (s.mapStore g) :=
  ⟨⟨hs.sends.unbarred, hs.sends.line⟩, hs.held, hs.room⟩

/-! ### The track scan (R180) -/

/-- An entry in TRANSIT that no FETCH in progress carries (R180). -/
def State.lost (s : State) (e : Entry) : Bool :=
  e.state == .transit && !(s.store.job.any fun j => j.job.kind == .fetch && j.job.serial == e.serial)

/-- The QUARANTINE of a wheel that is lost on the way (R180). -/
def trackFrame (e : Entry) : PoolFrame := .quarantine e.serial quarantineLostTrack 0

theorem transitSerials_first (s : State) : (s.transitSerials.find? fun x => 0 ≤ x.toNat)
    = ((canonical s.pool.table).find? s.lost).map Entry.serial := by
  unfold State.transitSerials
  rw [List.find?_map, List.find?_filter]
  congr 2
  funext e
  simp [State.lost]
  rfl

theorem trackFrom_none (hn : (canonical s.pool.table).find? s.lost = none) :
    trackFrom 0 s = s.mapStore fun u => { u with track := none } := by
  unfold trackFrom
  rw [transitSerials_first, hn]
  rfl

theorem trackFrom_some (hs : Reconciling n s) (hn6 : n < 6) (hjf : s.store.jobFrame = none)
    (hlist : s.store.sendList = []) (he : (canonical s.pool.table).find? s.lost = some e) : trackFrom 0 s
      = (queueFrame .storeUnit (.pool (trackFrame e)) s).mapStore fun u =>
          { u with track := some ⟨trackFrame e, .submitted⟩ } := by
  unfold trackFrom
  rw [transitSerials_first, he]
  exact storePump_track (hs.mapStore _) hn6 (f := trackFrame e) nofun hjf rfl hlist

/-- The track scan has begun: with no wheel lost on the way, or with the QUARANTINE of the first in the queue. -/
structure Tracked (s t : State) : Prop where
  rest : t = { s with
    store := { s.store with track := t.store.track }, fe := { s.fe with txQueue := t.fe.txQueue } }
  idle : t.store.track.filter StoreFrame.isDue = none
  reconciling : ∀ n, Reconciling n s → Reconciling (n + 1) t
  none : (canonical s.pool.table).find? s.lost = none → t.store.track = none
  some : ∀ e, (canonical s.pool.table).find? s.lost = some e →
    t.store.track = some ⟨trackFrame e, .submitted⟩ ∧ t.queued .storeUnit (trackFrame e)

theorem trackFrom_tracked (hs : Reconciling n s) (hn6 : n < 6) (hjf : s.store.jobFrame = none)
    (hlist : s.store.sendList = []) : Tracked s (trackFrom 0 s) := by
  cases he : (canonical s.pool.table).find? s.lost with
  | none =>
    rw [trackFrom_none he]
    exact ⟨rfl, rfl, fun m hm => (hm.mapStore _).mono (Nat.le_succ m), fun _ => rfl,
      fun e he' => absurd (he.symm.trans he') nofun⟩
  | some e =>
    rw [trackFrom_some hs hn6 hjf hlist he]
    refine ⟨rfl, rfl, fun m hm => (hm.queueFrame _ _).mapStore _, fun hn => absurd (he.symm.trans hn) nofun,
      fun d hd => ?_⟩
    obtain rfl := Option.some.inj (he.symm.trans hd)
    exact ⟨rfl, queueFrame_mem _ _ _⟩

/-! ### A completion held through a pool resync (R111, R180) -/

/-- The frame that a held completion becomes, if the job does not end (R111). -/
def heldFrame (tab : Table) (c : HeldCompletion) (j : Job) : Option PoolFrame :=
  match findSerial tab j.serial with
  | none => none
  | some e =>
    match c, j.kind with
    | .fault, _ => some (.quarantine j.serial quarantineGantryFault 0)
    | .done, .fetch => if e.state = .transit ∧ e.place = j.dest then some (.deliver j.serial) else none
    | .done, .ret => if e.returnable ∧ e.holder.isSome then some (completionFrame j) else none

theorem completionFrame_kind (j : Job) : (completionFrame j).kind ≠ .claim := by
  unfold completionFrame
  split <;> nofun

theorem heldFrame_kind {tab : Table} {j : Job} (hf : heldFrame tab c j = some f) : f.kind ≠ .claim := by
  unfold heldFrame at hf
  split at hf
  · exact absurd hf nofun
  · split at hf
    · obtain rfl := Option.some.inj hf
      exact nofun
    · split at hf
      · obtain rfl := Option.some.inj hf
        exact nofun
      · exact absurd hf nofun
    · split at hf
      · obtain rfl := Option.some.inj hf
        exact completionFrame_kind j
      · exact absurd hf nofun

theorem takeHeldCompletion_none (hc : s.store.heldCompletion = none ∨ s.store.job = none) :
    takeHeldCompletion s = s := by
  unfold takeHeldCompletion
  rcases hc with hc | hc
  · rw [hc]
  · rw [hc]
    cases s.store.heldCompletion <;> rfl

theorem takeHeldCompletion_eq (hc : s.store.heldCompletion = some c) (hj : s.store.job = some j) :
    takeHeldCompletion s = match heldFrame s.pool.table c j.job with
      | some f => setJobFrame f (s.mapStore fun u => { u with heldCompletion := none })
      | none => endJob (s.mapStore fun u => { u with heldCompletion := none }) := by
  unfold takeHeldCompletion heldFrame
  rw [hc, hj]
  dsimp only
  cases findSerial s.pool.table j.job.serial with
  | none => cases c <;> rfl
  | some e =>
    cases c with
    | fault => rfl
    | done =>
      cases j.job.kind with
      | fetch => by_cases h : e.state = .transit ∧ e.place = j.job.dest <;> simp [h]
      | ret => by_cases h : e.returnable = true ∧ e.holder.isSome = true <;> simp [h]

/-- What the taking of a held completion leaves. -/
structure CompletionTaken (s t : State) : Prop where
  claims : t.store.claims = s.store.claims
  track : t.store.track = s.store.track
  queued : s.fe.txQueue ⊆ t.fe.txQueue
  life : t.life = s.life
  pool : t.pool = s.pool

theorem takeHeldCompletion_sends (hs : Reconciling n s) (hn : n < 6)
    (htrack : s.store.track.filter StoreFrame.isDue = none) (hlist : s.store.sendList = [])
    (hc : s.store.heldCompletion = some c) (hj : s.store.job = some j)
    (hf : heldFrame s.pool.table c j.job = some f) :
    let t := takeHeldCompletion s
    CompletionTaken s t ∧ t.store.job = some j ∧ t.store.heldCompletion = none
      ∧ t.store.jobFrame = some ⟨f, .submitted⟩ ∧ t.queued .storeUnit f := by
  intro t
  have ht : t = _ := takeHeldCompletion_eq hc hj
  rw [hf] at ht
  dsimp only at ht
  rw [setJobFrame, storePump_job ((hs.mapStore _).mapStore _) hn (heldFrame_kind hf) rfl
    (by exact htrack) (by exact hlist)] at ht
  rw [ht]
  exact ⟨⟨rfl, rfl, fun d hd => (mem_insertBy _ _ _ _).2 (.inr hd), rfl, rfl⟩, hj, rfl, rfl, queueFrame_mem _ _ _⟩

theorem takeHeldCompletion_ends (hc : s.store.heldCompletion = some c) (hj : s.store.job = some j)
    (hf : heldFrame s.pool.table c j.job = none) :
    let t := takeHeldCompletion s
    CompletionTaken s t ∧ t.store.job = none ∧ t.store.reservation = none ∧ t.store.jobFrame = none
      ∧ t.store.heldCompletion = none := by
  intro t
  have ht : t = _ := takeHeldCompletion_eq hc hj
  rw [hf] at ht
  have hends := (endJob_queued (s.mapStore fun u => { u with heldCompletion := none })).rest
  rw [ht]
  dsimp only
  generalize endJob _ = a at hends
  rw [hends]
  exact ⟨⟨rfl, rfl, List.Subset.refl _, rfl, rfl⟩, rfl, rfl, rfl, rfl⟩

theorem takeHeldCompletion_taken (hs : Reconciling n s) (hn : n < 6)
    (htrack : s.store.track.filter StoreFrame.isDue = none) (hlist : s.store.sendList = []) :
    CompletionTaken s (takeHeldCompletion s) := by
  have hnone (hc : s.store.heldCompletion = none ∨ s.store.job = none) : CompletionTaken s (takeHeldCompletion s) := by
    rw [takeHeldCompletion_none hc]
    exact ⟨rfl, rfl, List.Subset.refl _, rfl, rfl⟩
  cases hc : s.store.heldCompletion with
  | none => exact hnone (.inl hc)
  | some c =>
    cases hj : s.store.job with
    | none => exact hnone (.inr hj)
    | some j =>
      cases hf : heldFrame s.pool.table c j.job with
      | none => exact (takeHeldCompletion_ends hc hj hf).1
      | some f => exact (takeHeldCompletion_sends hs hn htrack hlist hc hj hf).1

/-! ### The whole reconciliation of the store -/

/-- The claim list of a table at the load (R110). -/
def claimsOf (s : State) : List ClaimRecord :=
  ((canonical s.pool.table).filter fun e => e.state == .claimed).map fun e =>
    ⟨e.serial, (e.holder.map Holder.station).getD 0, s.timeBase, false, false⟩

/-- The jobs of a table, in their order (R110). -/
def jobsOf (s : State) : List Job :=
  (canonical s.pool.table).filterMap (returnJob s) ++ (canonical s.pool.table).filterMap (fetchJob s)

theorem canonical_perm (t : List Entry) : (canonical t).Perm t := sortBy_perm _ t

theorem canonical_nodup {tab : List Entry} (hn : (tab.map Entry.serial).Nodup) :
    ((canonical tab).map Entry.serial).Nodup :=
  ((canonical_perm tab).map Entry.serial).nodup_iff.2 hn

theorem returnable_not_claimed (hr : e.returnable = true) : e.state ≠ .claimed := by
  intro hc
  rw [Entry.returnable, hc] at hr
  exact absurd hr (by simp)

/-- The store with its pages requested, its jobs queued and its claims listed. -/
def storeListedAt (s : State) : State :=
  (requestImagePages s).mapStore fun u => { u with queue := u.queue ++ jobsOf s, claims := claimsOf s }

/-- The jobs and the claims of the table that is loaded (R110). -/
theorem reconcileStore_eq (hn : (b.pool.table.map Entry.serial).Nodup) (hq : b.store.queue = [])
    (hroom : (jobsOf b).length ≤ 16) : reconcileStore b = takeHeldCompletion (trackFrom 0 (storeListedAt b)) := by
  have hrest := requestImagePages_rest b
  have hsorted := canonical_nodup hn
  have hlength : ((canonical b.pool.table).filterMap (returnJob b)).length
      + ((canonical b.pool.table).filterMap (fetchJob b)).length ≤ 16 := by
    rw [← List.length_append]
    exact hroom
  unfold reconcileStore storeListedAt
  dsimp only
  generalize requestImagePages b = a at hrest
  have hstore : a.store = b.store := by rw [hrest]
  have hpool : a.pool = b.pool := by rw [hrest]
  have hreturn : returnJob a = returnJob b := by rw [hrest]; rfl
  have hfetch : fetchJob a = fetchJob b := by rw [hrest]; rfl
  have htime : a.timeBase = b.timeBase := by rw [hrest]
  rw [hpool, returns_queued hsorted (hstore ▸ hq) (by rw [hreturn]; omega)]
  have hqueue : a.store.queue ++ (canonical b.pool.table).filterMap (returnJob a)
      = (canonical b.pool.table).filterMap (returnJob b) := by
    rw [hstore, hq, List.nil_append, hreturn]
  have hfetches := fetches_queued (l := canonical b.pool.table)
    (s := (jobsQueued ((canonical b.pool.table).filterMap (returnJob a)) a).mapStore fun u =>
      { u with claims := claimsOf b }) hsorted (fun q hq' => ?_) (fun q hq' e he hc => ?_) ?_
  · show takeHeldCompletion (trackFrom 0 (((canonical b.pool.table).filter fun e => e.state == .claimed).foldl _
      ((jobsQueued ((canonical b.pool.table).filterMap (returnJob a)) a).mapStore fun u =>
        { u with claims := ((canonical b.pool.table).filter fun e => e.state == .claimed).map fun e =>
          ⟨e.serial, (e.holder.map Holder.station).getD 0, a.timeBase, false, false⟩ }))) = _
    rw [htime]
    refine congrArg (fun s => takeHeldCompletion (trackFrom 0 s)) (hfetches.trans ?_)
    show (a.mapStore fun u => { u with
        queue := u.queue ++ (canonical b.pool.table).filterMap (returnJob a)
          ++ (canonical b.pool.table).filterMap (fetchJob a)
        claims := claimsOf b }) = a.mapStore fun u => { u with queue := u.queue ++ jobsOf b, claims := claimsOf b }
    rw [hreturn, hfetch]
    simp only [jobsOf, List.append_assoc]
  · obtain ⟨d, -, hd⟩ := List.mem_filterMap.1 (hqueue ▸ hq' : q ∈ (canonical b.pool.table).filterMap (returnJob b))
    exact (returnJob_of hd).2.1.trans htime.symm
  · obtain ⟨d, hd, hdq⟩ := List.mem_filterMap.1
      (hqueue ▸ hq' : q ∈ (canonical b.pool.table).filterMap (returnJob b))
    obtain ⟨hserial, -, hreturnable⟩ := returnJob_of hdq
    rw [hserial]
    exact fun hs => returnable_not_claimed hreturnable (List.inj_on_of_nodup_map hsorted hd he hs ▸ hc)
  · show (a.store.queue ++ (canonical b.pool.table).filterMap (returnJob a)).length
      + ((canonical b.pool.table).filterMap (fetchJob a)).length ≤ 16
    rw [hqueue, hfetch]
    exact hlength

end
end Sys2Proof.Machine

namespace Sys2Proof.Machine
open State Sys2Proof.Config

/-! ## Reconciliation of the store: the statement (R110, R111, R180) -/

/-- `P` survives what the store unit changes of itself, and its submissions. -/
structure StoreSends (P : State → Prop) : Prop where
  mapStore : ∀ g s, P s → P (s.mapStore g)
  submit : ∀ f s, P s → P (submit .storeUnit (.pool f) s).1

namespace StoreSends
variable {P : State → Prop} (hP : StoreSends P) {s : State} (hs : P s)
include hP hs

theorem requestFailed (f : PoolFrame) : P (requestFailed f s) := by
  unfold Machine.requestFailed
  split
  · split
    exacts [hP.mapStore _ _ hs, hs]
  · exact hs

theorem storeSubmitOne : P (storeSubmitOne s) := by
  unfold Machine.storeSubmitOne
  split
  · exact hP.mapStore _ _ (hP.submit _ _ hs)
  · split
    · exact hP.mapStore _ _ (hP.submit _ _ hs)
    · split
      · exact hs
      next f fs _ =>
        have hsent := hP.submit f _ (hP.mapStore (fun u => { u with sendList := fs }) _ hs)
        dsimp only
        split
        exacts [hP.requestFailed hsent _, hsent, hsent]

theorem storePump : P (storePump s) := by
  have hall (n : Nat) : ∀ s, P s → P (storePumpFrom n s) := by
    induction n with
    | zero => exact fun _ => id
    | succ n ih =>
      intro s hs
      rw [storePumpFrom]
      split
      exacts [hs, ih _ (hP.storeSubmitOne hs)]
  exact hall 18 s hs

theorem setJobFrame (f : PoolFrame) : P (setJobFrame f s) := hP.storePump (hP.mapStore _ _ hs)

theorem addRequest (f : PoolFrame) : P (addRequest f s) := by
  unfold Machine.addRequest
  split
  exacts [hP.storePump (hP.mapStore _ _ hs), hs]

theorem queueJob (j : Job) : P (queueJob j s) := by
  unfold Machine.queueJob
  split
  exacts [hP.mapStore _ _ hs, hs]

theorem queueReturn (e : Entry) (key : Time) : P (queueReturn e key s) := by
  unfold Machine.queueReturn
  split
  exacts [hP.queueJob hs _, hs]

theorem queueFetch (e : Entry) (key : Time) : P (queueFetch e key s) := by
  unfold Machine.queueFetch
  split
  · split
    · exact hs
    · split
      exacts [hP.queueJob hs _, hP.addRequest hs _]
  · exact hs

theorem endJob : P (endJob s) := by
  unfold Machine.endJob rescan
  split
  exacts [hP.queueReturn (hP.mapStore _ _ hs) _ _, hP.mapStore _ _ hs]

theorem trackFrom (low : Nat) : P (trackFrom low s) := by
  unfold Machine.trackFrom
  split
  exacts [hP.storePump (hP.mapStore _ _ hs), hP.mapStore _ _ hs]

theorem takeHeldCompletion : P (takeHeldCompletion s) := by
  cases hc : s.store.heldCompletion with
  | none => rw [takeHeldCompletion_none (.inl hc)]; exact hs
  | some c =>
    cases hj : s.store.job with
    | none => rw [takeHeldCompletion_none (.inr hj)]; exact hs
    | some j =>
      rw [takeHeldCompletion_eq hc hj]
      split
      exacts [hP.setJobFrame (hP.mapStore _ _ hs) _, hP.endJob (hP.mapStore _ _ hs)]

omit hs in
theorem reconcileStore (hs : P (requestImagePages s)) : P (reconcileStore s) := by
  unfold Machine.reconcileStore
  refine hP.takeHeldCompletion (hP.trackFrom ?_ 0)
  refine foldl_stable (P := P) _ (fun e s hs => hP.queueFetch hs e s.now) _ _ (hP.mapStore _ _ ?_)
  exact foldl_stable (P := P) _ (fun e s hs => hP.queueReturn hs e s.now) _ _ hs

end StoreSends

section
variable {s t b : State} {c : HeldCompletion} {j : JobInProgress} {n : Nat} {e : Entry}

/-- Behind the requests for its pages the reconciliation of the store leaves the checkpoints. -/
theorem reconcileStore_life (b : State) : (reconcileStore b).life = (requestImagePages b).life :=
  StoreSends.reconcileStore (P := fun t => t.life = (requestImagePages b).life)
    ⟨fun _ _ ht => ht, fun f t ht => (congrArg State.life (submit_rest .storeUnit (.pool f) t)).trans ht⟩ rfl

theorem reconcileStore_pool (b : State) : (reconcileStore b).pool = b.pool :=
  StoreSends.reconcileStore (P := fun t => t.pool = b.pool)
    ⟨fun _ _ ht => ht, fun f t ht => (congrArg State.pool (submit_rest .storeUnit (.pool f) t)).trans ht⟩
    (by rw [requestImagePages_rest])

theorem storeListedAt_rest (b : State) : storeListedAt b = { b with
    life := { b.life with pending := (storeListedAt b).life.pending }
    store := { b.store with queue := b.store.queue ++ jobsOf b, claims := claimsOf b } } := by
  unfold storeListedAt
  rw [requestImagePages_rest]
  rfl

theorem Reconciling.storeListedAt (hb : Reconciling n b) : Reconciling n (storeListedAt b) := by
  rw [storeListedAt_rest]
  exact ⟨⟨hb.sends.unbarred, hb.sends.line⟩, hb.held, hb.room⟩

/-- The frame that completes a RETURN, by its destination (R175). -/
theorem completionFrame_return {j : Job} (hk : j.kind = .ret) :
    (∀ n, j.dest = some (.slot n) → completionFrame j = .rack j.serial (n.setWidth 8))
      ∧ (j.dest = some .chute → completionFrame j = .remove j.serial removeSpentOut)
      ∧ (j.dest = some .inspection → completionFrame j = .remove j.serial removeInspected) := by
  unfold completionFrame
  rw [hk]
  exact ⟨fun n hn => by rw [hn], fun hd => by rw [hd], fun hd => by rw [hd]⟩

/-- What a held completion becomes, by the entry of its wheel (R111). -/
theorem heldFrame_entry {tab : Table} {j : Job} (hn : (tab.map Entry.serial).Nodup) (he : e ∈ tab)
    (hx : e.serial = j.serial) :
    heldFrame tab .fault j = some (.quarantine j.serial quarantineGantryFault 0)
      ∧ (j.kind = .fetch →
          heldFrame tab .done j = if e.state = .transit ∧ e.place = j.dest then some (.deliver j.serial) else none)
      ∧ (j.kind = .ret →
          heldFrame tab .done j = if e.returnable ∧ e.holder.isSome then some (completionFrame j) else none) := by
  unfold heldFrame
  rw [← hx, findSerial_of_nodup hn he]
  exact ⟨rfl, fun hk => by rw [hk], fun hk => by rw [hk]⟩

/-- What follows a held completion, by the frame it becomes, answers the statement by the entry of its wheel (R111). -/
theorem heldFrame_answers {tab : Table} {c : HeldCompletion} {j : Job} {sends : PoolFrame → Prop} {ended : Prop}
    (hn : (tab.map Entry.serial).Nodup) (hsends : ∀ f, heldFrame tab c j = some f → sends f)
    (hends : heldFrame tab c j = none → ended) :
    ((∀ e ∈ tab, e.serial ≠ j.serial) → ended)
      ∧ ∀ e ∈ tab, e.serial = j.serial →
        (c = .fault → sends (.quarantine j.serial quarantineGantryFault 0))
        ∧ (c = .done → j.kind = .fetch →
            (e.state = .transit ∧ e.place = j.dest → sends (.deliver j.serial))
            ∧ (¬(e.state = .transit ∧ e.place = j.dest) → ended))
        ∧ (c = .done → j.kind = .ret →
            (e.holder.isSome = true → e.returnable = true →
              (∀ n, j.dest = some (.slot n) → sends (.rack j.serial (n.setWidth 8)))
              ∧ (j.dest = some .chute → sends (.remove j.serial removeSpentOut))
              ∧ (j.dest = some .inspection → sends (.remove j.serial removeInspected)))
            ∧ (e.returnable = false → ended)) := by
  refine ⟨fun hno => hends ?_, fun e he hx => ?_⟩
  · unfold heldFrame
    rw [findSerial_eq_none_iff.2 hno]
  · obtain ⟨hfault, hfetch, hreturn⟩ := heldFrame_entry hn he hx
    refine ⟨fun hc => hsends _ (hc ▸ hfault), fun hc hk => ?_, fun hc hk => ?_⟩
    all_goals subst hc
    · exact ⟨fun hthere => hsends _ ((hfetch hk).trans (if_pos hthere)),
        fun hthere => hends ((hfetch hk).trans (if_neg hthere))⟩
    · obtain ⟨hslot, hchute, hinspection⟩ := completionFrame_return hk
      refine ⟨fun hholder hwaits => ?_, fun hwaits => hends ((hreturn hk).trans (if_neg fun hr => ?_))⟩
      · have hframe := hsends _ ((hreturn hk).trans (if_pos ⟨hwaits, hholder⟩))
        exact ⟨fun n hd => hslot n hd ▸ hframe, fun hd => hchute hd ▸ hframe, fun hd => hinspection hd ▸ hframe⟩
      · exact absurd (hwaits.symm.trans hr.1) nofun

/-- A store loaded with a table has been reconciled with it (R110, R111). -/
theorem storeReconciled_reconcileStore (hb : Reconciling 2 b) (hn : (b.pool.table.map Entry.serial).Nodup) :
    storeReconciled b (reconcileStore b) := by
  unfold storeReconciled
  intro inProgress fetching waits returns fetches lost tracked hqueue hlist hframe
  have hpool := reconcileStore_pool b
  refine ⟨canonical b.pool.table, hpool ▸ canonical_perm _, sortBy_pairwise _ _, fun hf id hid => ?_, fun hroom => ?_⟩
  · rw [reconcileStore_life]
    exact requestImagePages_pending hf hid
  · have heq := reconcileStore_eq hn hqueue (by
      rw [jobsOf, List.length_append]
      exact hroom)
    have hlisted := storeListedAt_rest b
    have hlistedAt := hb.storeListedAt
    rw [heq]
    generalize storeListedAt b = m at hlisted hlistedAt
    have hstore : m.store = { b.store with queue := b.store.queue ++ jobsOf b, claims := claimsOf b } := by rw [hlisted]
    have htrack := trackFrom_tracked hlistedAt (by decide) (by rw [hstore]; exact hframe) (by rw [hstore]; exact hlist)
    generalize trackFrom 0 m = u at htrack
    have htable : u.pool.table = b.pool.table := by rw [htrack.rest, hlisted]
    have hu : u.store = { b.store with
        queue := b.store.queue ++ jobsOf b, claims := claimsOf b, track := u.store.track } := by
      rw [htrack.rest, hstore]
    have hlost : canonical m.pool.table = canonical b.pool.table ∧ m.lost = b.lost := by rw [hlisted]; exact ⟨rfl, rfl⟩
    have hone : Reconciling 3 u := htrack.reconciling 2 hlistedAt
    have hlist' : u.store.sendList = [] := by rw [hu]; exact hlist
    have htaken := takeHeldCompletion_taken hone (by decide) htrack.idle hlist'
    have hnone := htrack.none
    have hsome := htrack.some
    rw [hlost.1, hlost.2] at hnone hsome
    refine ⟨htaken.claims.trans (by rw [hu]; rfl), fun hc => ?_, fun he => htaken.track.trans (hnone he),
      fun e he => ?_, fun j c hj hc => ?_⟩
    · rw [takeHeldCompletion_none (.inl (by rw [hu]; exact hc)), hu]
      exact ⟨by rw [hqueue]; rfl, rfl⟩
    · obtain ⟨htracked, hqueued⟩ := hsome e he
      exact ⟨htaken.track.trans htracked, htaken.queued hqueued⟩
    · have hcu : u.store.heldCompletion = some c := by rw [hu]; exact hc
      have hju : u.store.job = some j := by rw [hu]; exact hj
      have hsends (f : PoolFrame) (hf : heldFrame b.pool.table c j.job = some f) :=
        (takeHeldCompletion_sends hone (by decide) htrack.idle hlist' hcu hju (by rw [htable]; exact hf)).2
      have hends (hf : heldFrame b.pool.table c j.job = none) :=
        (takeHeldCompletion_ends hcu hju (by rw [htable]; exact hf)).2
      exact htaken.pool ▸ htable ▸ heldFrame_answers hn hsends hends

end
end Sys2Proof.Machine

namespace Sys2Proof.Machine
open State Sys2Proof.Config

/-! ## Reconciliation leaves the image unit and its frames -/

/-- `P` survives what the notices to head `h` change, and the submissions of its head unit. -/
structure HeadSends (h : Head) (P : State → Prop) : Prop extends NoticeStable h P where
  submitHead : ∀ f s, P s → P (Machine.submit (.headUnit h) (.pool f) s).1

namespace HeadSends
variable {h : Head} {P : State → Prop} (hP : HeadSends h P) {s : State} (hs : P s)
include hP hs

theorem reconcileHead : P (reconcileHead h s) := by
  unfold Machine.reconcileHead
  split
  · split
    · exact hs
    · split
      · exact hs
      · split
        · exact hs
        · unfold submitDeclare
          split
          · exact hP.mapHead _ _ hs
          · dsimp only
            split <;> exact hP.mapHead _ _ (hP.submitHead _ _ hs)
  · split
    exacts [hP.checkpoint _ (hP.mapHead _ _ hs), hs]

theorem reportAtSync : P (reportAtSync h s) := by
  unfold Machine.reportAtSync submitReport
  split
  · exact hs
  · split
    · split
      · exact hP.settleReport hs
      · split
        · exact hs
        · split
          · dsimp only
            split <;> exact hP.mapHead _ _ (hP.submitHead _ _ hs)
          · exact hs
    · exact hs

theorem swapAdopt : P (swapAdopt h s) := by
  unfold Machine.swapAdopt
  split
  · exact hs
  · split
    · exact hs
    · split
      exacts [hP.mapSwap _ _ hs, hP.mapSwap _ _ hs, hP.mapSwap _ _ hs, hs, hs, hs, hs]

end HeadSends

theorem reconcileGrinder_sends {P : State → Prop} (hP : ∀ h, HeadSends h P) {s : State} (hs : P s) :
    P (reconcileGrinder s) := by
  have hrecords := (hP .h1).reconcileHead ((hP .h0).reconcileHead hs)
  have hreports := (hP .h1).reportAtSync ((hP .h0).reportAtSync hrecords)
  have hadopts := (hP .h1).swapAdopt ((hP .h0).swapAdopt hreports)
  exact (hP .h1).claimTest ((hP .h1).suitTest ((hP .h0).claimTest ((hP .h0).suitTest hadopts)))

/-- The image unit is as it was, and the transmit queue has no more frames of it. -/
structure ImageKept (s t : State) : Prop where
  image : t.image = s.image
  frames : ∀ e ∈ t.fe.txQueue, e.origin = .imageUnit → e ∈ s.fe.txQueue

section
variable {s t : State} {o : Origin} {f : PoolFrame}

theorem ImageKept.refl (s : State) : ImageKept s s := ⟨rfl, fun _ he _ => he⟩

theorem ImageKept.submit (ht : ImageKept s t) (ho : o ≠ .imageUnit) (p : Payload) :
    ImageKept s (submit o p t).1 where
  image := (congrArg State.image (submit_rest o p t)).trans ht.image
  frames e he hi := by
    rcases (submit_queues o p t).2.1 e he with rfl | he
    exacts [absurd hi ho, ht.frames e he hi]

theorem ImageKept.requestCheckpoint (ht : ImageKept s t) (id : Nat) : ImageKept s (requestCheckpoint id t) := by
  rw [requestCheckpoint_rest]
  exact ⟨ht.image, ht.frames⟩

theorem imageKept_headSends (s : State) (h : Head) : HeadSends h (ImageKept s) where
  mapHead _ _ ht := ⟨ht.image, ht.frames⟩
  mapSwap _ _ ht := ⟨ht.image, ht.frames⟩
  checkpoint _ ht := ht.requestCheckpoint _
  submit _ _ _ ht := ht.submit (o := .swapUnit h) nofun _
  submitHead _ _ ht := ht.submit (o := .headUnit h) nofun _
  withdraw q t _ ht := by
    refine ⟨ht.image, fun e he hi => ?_⟩
    obtain ⟨x, hx, rfl⟩ := List.mem_map.1 he
    have hx := (List.mem_filter.1 hx).1
    dsimp only at hi ⊢
    split at hi
    next hq =>
      obtain ho : x.origin = .swapUnit h := beq_iff_eq.1 ((Bool.and_eq_true _ _).mp hq).1
      exact absurd (hi.symm.trans ho) nofun
    next hq =>
      rw [if_neg hq]
      exact ht.frames x hx hi

theorem imageKept_storeSends (s : State) : StoreSends (ImageKept s) where
  mapStore _ _ ht := ⟨ht.image, ht.frames⟩
  submit _ _ ht := ht.submit (o := .storeUnit) nofun _

/-- Reconciliation leaves the image unit, and makes no frame of it. -/
theorem reconcile_imageKept (s : State) : ImageKept s (reconcile s) := by
  unfold reconcile
  split
  · refine (imageKept_storeSends s).reconcileStore ?_
    rw [requestImagePages_rest]
    exact ⟨rfl, fun _ he _ => he⟩
  · exact reconcileGrinder_sends (imageKept_headSends s) (.refl s)

end
end Sys2Proof.Machine

namespace Sys2Proof.Machine
open State Sys2Proof.Config

/-! ## Entry into SYNCED (R102, R104) -/

section
variable {s t a b : State} {h : Head} {tab : Table} {gen : Word16}

/-- State `a` is `s` but for the image unit and frames of it that are withdrawn. -/
structure ImageWithdrew (s a : State) : Prop extends ImageMoved s a where
  held : a.fe.held ⊆ s.fe.held
  room : a.fe.txQueue.length + a.fe.admissionsDue ≤ s.fe.txQueue.length + s.fe.admissionsDue

theorem ImageWithdrew.refl (s : State) : ImageWithdrew s s := ⟨.refl s, List.Subset.refl _, Nat.le_refl _⟩

theorem ImageWithdrew.mapImage (ha : ImageWithdrew s a) (f : ImageUnit → ImageUnit) : ImageWithdrew s (a.mapImage f) :=
  ⟨ha.toImageMoved.mapImage f, ha.held, ha.room⟩

theorem withdrawFrames_room (p : Origin → Payload → Bool) (s : State) :
    (withdrawFrames p s).fe.txQueue.length + (withdrawFrames p s).fe.admissionsDue
      ≤ s.fe.txQueue.length + s.fe.admissionsDue := by
  have hcount := countP_add_filter_not (fun e : TxEntry => p e.origin e.payload && !e.onLine) s.fe.txQueue
  show ((s.fe.txQueue.filter fun e => !(p e.origin e.payload && !e.onLine)).map _).length + _ ≤ _
  rw [List.length_map]
  simp only [withdrawFrames, State.mapFe, FrameEngine.removed]
  omega

theorem withdrawFrames_held (p : Origin → Payload → Bool) (s : State) : (withdrawFrames p s).fe.held ⊆ s.fe.held :=
  List.filter_subset_self _

theorem endTransfer_fe (s : State) :
    (endTransfer s).fe = (withdrawFrames (fun o p => o == .imageUnit && isPart p) s).fe := rfl

theorem ImageWithdrew.endTransfer (ha : ImageWithdrew s a) : ImageWithdrew s (endTransfer a) where
  toImageMoved := ha.toImageMoved.endTransfer
  held := by rw [endTransfer_fe]; exact List.Subset.trans (withdrawFrames_held _ a) ha.held
  room := by rw [endTransfer_fe]; exact Nat.le_trans (withdrawFrames_room _ a) ha.room

/-- The station with this table and generation loaded, in SYNCED, before its reconciliation. -/
def loadedWith (tab : Table) (gen : Word16) (s : State) : State :=
  (s.mapImage ImageUnit.settled).mapPool fun p =>
    { p with table := tab, generation := gen, digest := tableDigest tab, sync := .synced }

theorem enterSynced_frame (tab : Table) (gen : Word16) (s : State) :
    unitFrame (loadedWith tab gen s) (enterSynced tab gen s) :=
  (unitFrame_stable _).reconcile _ (unitFrame_refl _)

theorem enterSynced_pool (tab : Table) (gen : Word16) (s : State) : (enterSynced tab gen s).pool
    = { s.pool with table := tab, generation := gen, digest := tableDigest tab, sync := .synced } := by
  obtain ⟨-, -, -, -, hpool, -⟩ := enterSynced_frame tab gen s
  rw [hpool]
  rfl

theorem enterSynced_image (tab : Table) (gen : Word16) (s : State) :
    (enterSynced tab gen s).image = s.image.settled := (reconcile_imageKept _).image

theorem ImageMoved.loadedWith (ha : ImageMoved s a) (tab : Table) (gen : Word16) : loadedWith tab gen a = { s with
    image := (loadedWith tab gen a).image
    pool := (loadedWith tab gen a).pool
    fe := { s.fe with txQueue := a.fe.txQueue, held := a.fe.held, admissionsDue := a.fe.admissionsDue } } := by
  unfold Machine.loadedWith State.mapImage State.mapPool
  rw [ha.rest]

theorem headReconciled_loaded (ha : ImageMoved s a) :
    headReconciled h (loadedWith tab gen a) t ↔ headReconciled h s t := by
  rw [ha.loadedWith tab gen]
  rfl

theorem storeReconciled_loaded (ha : ImageMoved s a) :
    storeReconciled (loadedWith tab gen a) t ↔ storeReconciled s t := by
  rw [ha.loadedWith tab gen]
  rfl

theorem swapReconciled_loaded (ha : ImageMoved s a) (ht : swapReconciled h (loadedWith tab gen a) t) :
    swapReconciled h s t := by
  have hclaims : (loadedWith tab gen a).claimQueued (headByte h) = s.claimQueued (headByte h) := ha.claims _
  have heq := ha.loadedWith tab gen
  generalize loadedWith tab gen a = b at heq hclaims ht
  have hfree (hq : ∀ x ∈ s.fe.txQueue, ∀ family, x.payload ≠ .pool (.claim (headByte h) family)) :
      ∀ x ∈ b.fe.txQueue, ∀ family, x.payload ≠ .pool (.claim (headByte h) family) := by
    intro x hx family hp
    obtain ⟨y, hy, g, hg⟩ := claimQueued_iff.1 (hclaims.symm.trans (claimQueued_iff.2 ⟨x, hx, family, hp⟩))
    exact hq y hy g hg
  rw [heq] at ht hfree
  unfold swapReconciled at ht ⊢
  intro u onItsWay adopted hx hn ho hr
  obtain ⟨hadopts, hclaim, hwaits⟩ := ht hx hn ho hr
  exact ⟨hadopts, fun hi hnone => ⟨(hclaim hi hnone).1, fun hneeds hq => (hclaim hi hnone).2 hneeds (hfree hq)⟩, hwaits⟩

/-- What lets a station reconcile lets it make pool frames with the table loaded. -/
theorem reconciling_loaded (ha : ImageWithdrew s a) (hs : s.mayReconcile t) : Reconciling 2 (loadedWith tab gen a) := by
  obtain ⟨-, hdeaf, hfamily, hclash, hline, hheld, hroom, -⟩ := hs
  have hempty : a.fe.held = [] := List.subset_nil.1 (hheld ▸ ha.held)
  refine ⟨⟨?_, ?_⟩, hempty, Nat.le_trans ha.room hroom⟩
  · rw [ha.toImageMoved.loadedWith tab gen, State.poolBarred, State.synced]
    simp [loadedWith, State.mapPool, hdeaf, hfamily, hclash]
  · rw [ha.toImageMoved.loadedWith tab gen]
    exact hline

/-- A station that enters SYNCED is reconciled with its table, by its role (R107 to R111). -/
theorem enterSynced_reconciled (hl : s.isLive = true) (ha : ImageWithdrew s a) (tab : Table) (gen : Word16) :
    reconciled s (enterSynced tab gen a) := by
  intro hs
  have hb : Reconciling 2 (loadedWith tab gen a) := reconciling_loaded ha hs
  obtain ⟨hn, -, -, -, -, -, -, hw⟩ := hs
  rw [enterSynced_pool] at hn
  have hloaded := ha.toImageMoved.loadedWith tab gen
  have hstore : (loadedWith tab gen a).isStore = s.isStore := by rw [hloaded]; rfl
  have hn : ((loadedWith tab gen a).pool.table.map Entry.serial).Nodup := hn
  constructor
  · intro hgrinder h
    have hw (k : Head) : ((loadedWith tab gen a).swap k).wants = [] := by rw [hloaded]; exact hw k
    have hlive : (loadedWith tab gen a).headsLive = true := by
      rw [hloaded]
      exact Bool.and_eq_true_iff.2 ⟨hl, by rw [← Bool.not_eq_false', Bool.not_not]; exact hgrinder⟩
    have hrun : enterSynced tab gen a = reconcileGrinder (loadedWith tab gen a) :=
      if_neg (Bool.not_eq_true _ ▸ hstore.trans hgrinder)
    obtain ⟨x, y, c, d, hat⟩ := reconcileGrinder_at hb hw h
    rw [hrun]
    exact ⟨(headReconciled_loaded ha.toImageMoved).1 (hat.headReconciled hn (hw h)),
      swapReconciled_loaded ha.toImageMoved (hat.swapReconciled hb.sends hlive hn (hw h))⟩
  · intro hdepot
    have hrun : enterSynced tab gen a = reconcileStore (loadedWith tab gen a) := if_pos (hstore.trans hdepot)
    rw [hrun]
    exact (storeReconciled_loaded ha.toImageMoved).1 (storeReconciled_reconcileStore hb hn)

end
end Sys2Proof.Machine

namespace Sys2Proof.Machine
open State Sys2Proof.Config

/-! ## The ask timer (R94, R95, R103) -/

section
variable {s t : State} {tm : Timer} {w : ImageWatch}

/-- What an ask that there is room for leaves (R94). -/
structure Asked (s t : State) : Prop where
  pool : t.pool = { s.pool with sync := .joining }
  image : t.image = { s.image with collection := none, partSinceAsk := false, askTimer := none }
  queued : ⟨.imageUnit, .imageAsk, 0, false, false⟩ ∈ t.fe.txQueue

theorem ask_asked (hm : s.mayAsk = true) (hl : s.lineFault = false) (hh : s.fe.held = [])
    (hroom : s.fe.txQueue.length + s.fe.admissionsDue < 6) : Asked s (ask s) := by
  have hnone : s.holdsRequest .imageUnit = false := by simp [State.holdsRequest, hh]
  rw [ask_submits hm hnone hl, submit_admitted ((refusedAtOnce_unpooled rfl).trans hl) (decide_eq_true hroom)]
  exact ⟨rfl, rfl, queueFrame_mem _ _ _⟩

theorem Asked.pool_kept (ht : Asked s t) (hs : s.pool.sync = .joining) : t.pool = s.pool := by
  rw [ht.pool, ← hs]

theorem ask_peers (s : State) : (ask s).peers = s.peers := by rw [ask_rest]

/-- The timer's end at a station that is not JOINING makes an ask, if it may (R94). -/
theorem askTimerExpire_unjoined (ht : s.image.askTimer = some tm) (hd : tm.length ≤ (s.timeBase - tm.start).toNat)
    (hs : s.pool.sync ≠ .joining) :
    askTimerExpire s = ask (s.mapImage fun u => { u with askTimer := none }) := by
  have hdue : tm.due s.now = true := decide_eq_true hd
  unfold askTimerExpire
  rw [ht]
  dsimp only
  rw [if_pos hdue, if_neg (by exact hs)]

/-- The station after the count of an ask timer's end (R95 step 1). -/
def askCounted (s : State) : State := s.mapImage fun u =>
  { u with askTimer := none, askCount := if u.partSinceAsk then u.askCount else min 3 (u.askCount + 1) }

/-- The timer's end at a JOINING station founds the pool or makes an ask (R95). -/
theorem askTimerExpire_joining (ht : s.image.askTimer = some tm) (hd : tm.length ≤ (s.timeBase - tm.start).toNat)
    (hs : s.pool.sync = .joining) :
    askTimerExpire s = if (askCounted s).mayFound then found (askCounted s) else ask (askCounted s) := by
  have hdue : tm.due s.now = true := decide_eq_true hd
  unfold askTimerExpire
  rw [ht]
  dsimp only
  rw [if_pos hdue, if_pos (by exact hs)]
  rfl

/-- The conditions of founding (R103). -/
theorem mayFound_iff : s.mayFound = true ↔ s.isStore = true ∧ s.image.askCount = 3 ∧ s.pool.sync = .joining
    ∧ s.image.collection = none ∧ s.peers.roleClash = false
    ∧ ∀ r ∈ s.peers.records, r.role = .store → r.silent = true := by
  simp only [State.mayFound, State.storePeerLive, Bool.and_eq_true, Bool.not_eq_true', beq_iff_eq, List.any_eq_false,
    Option.isNone_iff_eq_none, and_assoc, not_and, Bool.not_eq_false]

theorem imageWatchExpire_ends (hw : s.image.watch = some w)
    (hd : w.timer.length ≤ (s.timeBase - w.timer.start).toNat) :
    imageWatchExpire s = s.mapImage fun u => { u with watch := none } := by
  have hdue : w.timer.due s.now = true := decide_eq_true hd
  unfold imageWatchExpire
  rw [hw]
  exact if_pos hdue

theorem exec_askTimerExpire (hl : s.isLive = true) : exec .askTimerExpire s = .next (askTimerExpire s) := by
  show execAskTimerExpire s = _
  rw [execAskTimerExpire, if_pos hl]

theorem exec_imageWatchExpire (hl : s.isLive = true) : exec .imageWatchExpire s = .next (imageWatchExpire s) := by
  show execImageWatchExpire s = _
  rw [execImageWatchExpire, if_pos hl]

theorem askTimerExpire_cell (s : State) : cellFrame s (askTimerExpire s) :=
  (cellFrame_stable s).askTimerExpire s (cellFrame_refl s)

theorem mayAsk_barred (h : s.pool.sync = .synced ∨ s.peers.familyMismatch = true ∨ s.peers.roleClash = true
    ∨ s.image.askingStopped = true) : s.mayAsk = false := by
  unfold State.mayAsk State.synced
  rcases h with h | h | h | h <;> rw [h] <;> simp

end

/-- Settles O36: an ask by `ask_asked`, a founding by `enterSynced_reconciled` of the founded table, whose entries come
from the stored ones by `mem_storedTable` and are admitted by `admitStored_byRows`. -/
theorem askTimerAsksOrFounds : Obligations.AskTimerAsksOrFounds := by
  unfold Obligations.AskTimerAsksOrFounds
  intro asked
  refine ⟨fun tm s hl => ⟨fun ht hd hline hheld hmay hroom => ⟨fun hs => ?_, fun hs hno => ?_⟩, fun ht hd hs hbar => ?_,
    fun w hw hd => ?_⟩, fun tm s hl hstore ht hd hs hnone hcount hclash hpeers => ?_,
    fun l => ⟨storedTable_rising l, fun e => mem_storedTable⟩, rfl, fun es e c => ?_⟩
  · have hasked : Asked _ (ask (s.mapImage fun u => { u with askTimer := none })) := ask_asked hmay hline hheld hroom
    have hexec := exec_askTimerExpire hl
    have hcell := askTimerExpire_cell s
    rw [askTimerExpire_unjoined ht hd (by rw [hs]; nofun)] at hexec hcell
    exact ⟨_, hexec, hasked.pool, hasked.image, hasked.queued, hcell, ask_peers _⟩
  · have hasked : Asked _ (ask (askCounted s)) := ask_asked hmay hline hheld hroom
    have hfound : ¬(askCounted s).mayFound = true := by
      rw [mayFound_iff]
      rintro ⟨hstore, hcount, -, hcollection, -, hpeers⟩
      rcases hno with hno | hno | hno | ⟨r, hr, hrole, hlive⟩
      · exact absurd (hno.symm.trans hstore) nofun
      · exact hno hcount
      · rw [show s.image.collection = none from hcollection] at hno
        exact absurd hno nofun
      · exact absurd ((hpeers r hr hrole).symm.trans hlive) nofun
    have hexec := exec_askTimerExpire hl
    have hcell := askTimerExpire_cell s
    rw [askTimerExpire_joining ht hd hs, if_neg hfound] at hexec hcell
    exact ⟨_, hexec, hasked.pool_kept hs, hasked.image, hasked.queued, hcell, ask_peers _⟩
  · rw [exec_askTimerExpire hl, askTimerExpire_unjoined ht hd hs, ask_barred (mayAsk_barred (by exact hbar))]
    rfl
  · rw [exec_imageWatchExpire hl, imageWatchExpire_ends hw hd]
    rfl
  · have hfound : (askCounted s).mayFound = true := mayFound_iff.2 ⟨hstore, hcount, hs, hnone, hclash, hpeers⟩
    have hexec := exec_askTimerExpire hl
    have hcell := askTimerExpire_cell s
    rw [askTimerExpire_joining ht hd hs, if_pos hfound] at hexec hcell
    have hpool : (found (askCounted s)).pool = _ := enterSynced_pool _ _ _
    have himage : (found (askCounted s)).image = _ := enterSynced_image _ _ _
    refine ⟨_, hexec, by rw [hpool], by rw [hpool], by rw [hpool]; rfl, by rw [hpool], by rw [himage]; rfl,
      by rw [himage]; rfl, hcell, enterSynced_reconciled hl ((ImageWithdrew.refl s).mapImage _) _ _⟩
  · intro admitted withdrawn placed hc
    rw [foundedTable_append, convertStored_eq hc]
    exact admitStored_byRows _ c

end Sys2Proof.Machine

namespace Sys2Proof.Machine
open State Sys2Proof.Config

/-! ## The watch of an IMAGE_PART (R97) -/

section
variable {s t w : State} {sender : Station} {p : ImagePartHead} {v : ImageWatch}

/-- A transfer has been started whose part 0 has been reported *sent*. -/
def State.part0Reported (s : State) : Prop := s.image.responder = .running ∧ s.image.part0Sent = true

/-- The watch that a part 0 sets. -/
def watchOf (sender : Station) (p : ImagePartHead) (s : State) : ImageWatch :=
  ⟨sender, p.generation, s.timer (3 * s.rollInterval)⟩

/-- A part 0 leaves a transfer whose part 0 has been reported *sent*. -/
theorem takePart0_reported (hs : s.part0Reported) : takePart0 sender p s = s := by
  obtain ⟨hr, hsent⟩ := hs
  unfold takePart0
  rw [hr]
  exact if_pos hsent

/-- Any other transfer ends at a part 0, and the watch is set. -/
theorem takePart0_sets (hs : ¬s.part0Reported) : takePart0 sender p s
    = (if s.image.responder = .idle then s else endTransfer s).mapImage fun u =>
        { u with watch := some (watchOf sender p s) } := by
  unfold takePart0
  cases hr : s.image.responder with
  | idle => rfl
  | queued => rfl
  | running => exact if_neg fun hsent => hs ⟨hr, hsent⟩

theorem watchPart_other (hw : ∀ v, s.image.watch = some v → v.station ≠ sender) : watchPart sender p s = s := by
  unfold watchPart
  split
  next v hv => exact if_pos (hw v hv)
  next => rfl

theorem watchPart_last (hw : s.image.watch = some v) (hv : v.station = sender) (hl : p.index + 1 = p.count) :
    watchPart sender p s = s.mapImage fun u => { u with watch := none } := by
  unfold watchPart
  rw [hw]
  exact (if_neg (not_not_intro hv)).trans (if_pos hl)

theorem watchPart_first (hw : s.image.watch = some v) (hl : p.index + 1 ≠ p.count) (h0 : p.index = 0) :
    watchPart sender p s = s := by
  unfold watchPart
  rw [hw]
  dsimp only
  rw [if_neg hl, if_pos h0, ite_self]

theorem watchPart_later (hw : s.image.watch = some v) (hv : v.station = sender) (hl : p.index + 1 ≠ p.count)
    (h0 : p.index ≠ 0) : watchPart sender p s
      = s.mapImage fun u => { u with watch := some { v with timer := (watchOf sender p s).timer } } := by
  unfold watchPart
  rw [hw]
  exact (if_neg (not_not_intro hv)).trans ((if_neg hl).trans (if_neg h0))

/-- Behind the end of a transfer a part of it is in the transmit queue on the line alone, and withdrawn (R33). -/
theorem endTransfer_parts {e : TxEntry} {k : Nat} (he : e ∈ (endTransfer s).fe.txQueue) (ho : e.origin = .imageUnit)
    (hk : e.payload = .imagePart k) : e.onLine = true ∧ e.withdrawn = true := by
  rw [endTransfer_fe] at he
  obtain ⟨x, hx, rfl⟩ := List.mem_map.1 he
  have hkept := (List.mem_filter.1 hx).2
  dsimp only at ho hk hkept ⊢
  by_cases hp : (x.origin == .imageUnit && isPart x.payload) = true
  · rw [if_pos hp]
    rw [hp] at hkept
    exact ⟨by simpa using hkept, rfl⟩
  · rw [if_neg hp] at ho hk
    rw [ho, hk] at hp
    exact absurd rfl hp

/-- State `w` is `s` after the watch and the responder have taken a part: the collection and the asking are as they
were. -/
structure Watched (s w : State) : Prop extends ImageWithdrew s w where
  image : w.image = { s.image with
    responder := w.image.responder, buffer := w.image.buffer, repeatPending := w.image.repeatPending
    part0Sent := w.image.part0Sent, watch := w.image.watch, deferred := w.image.deferred }

theorem Watched.refl (s : State) : Watched s s := ⟨.refl s, rfl⟩

theorem Watched.endTransfer (ht : Watched s t) : Watched s (endTransfer t) where
  toImageWithdrew := ht.toImageWithdrew.endTransfer
  image := by
    have himage : (Machine.endTransfer t).image = { t.image with
        responder := .idle, buffer := none, repeatPending := false, part0Sent := false
        deferred := (Machine.endTransfer t).image.deferred } := rfl
    rw [himage, ht.image]

theorem Watched.setWatch (ht : Watched s t) (v : Option ImageWatch) :
    Watched s (t.mapImage fun u => { u with watch := v }) where
  toImageWithdrew := ht.toImageWithdrew.mapImage _
  image := by
    show { t.image with watch := v } = _
    rw [ht.image]
    rfl

theorem Watched.takePart0 (ht : Watched s t) (sender : Station) (p : ImagePartHead) :
    Watched s (takePart0 sender p t) := by
  unfold Machine.takePart0
  split
  · split
    exacts [ht, ht.endTransfer.setWatch _]
  exacts [ht.endTransfer.setWatch _, ht.setWatch _]

theorem Watched.watchPart (ht : Watched s t) (sender : Station) (p : ImagePartHead) :
    Watched s (watchPart sender p t) := by
  unfold Machine.watchPart
  split
  · split
    · exact ht
    · split
      · exact ht.setWatch _
      · split
        exacts [ht, ht.setWatch _]
  · exact ht

/-- The station after the watch and the responder have taken a part. -/
def partWatched (sender : Station) (p : ImagePartHead) (s : State) : State :=
  watchPart sender p (if p.index = 0 then takePart0 sender p s else s)

theorem partWatched_watched (sender : Station) (p : ImagePartHead) (s : State) :
    Watched s (partWatched sender p s) := by
  unfold partWatched
  split
  exacts [((Watched.refl s).takePart0 sender p).watchPart sender p, (Watched.refl s).watchPart sender p]

/-- A part 0 sets the watch, unless it is the last part too, where it ends or finds no transfer (R97). -/
theorem partWatched_first (h0 : p.index = 0) (hs : ¬s.part0Reported) :
    let w := partWatched sender p s
    w.image.responder = .idle ∧ (p.index + 1 = p.count → w.image.watch = none)
      ∧ (p.index + 1 ≠ p.count → w.image.watch = some (watchOf sender p s))
      ∧ (s.image.responder ≠ .idle → w.image.buffer = none ∧ w.image.repeatPending = false
          ∧ ∀ x ∈ w.fe.txQueue, x.origin = .imageUnit → (∃ k, x.payload = .imagePart k) →
              x.onLine = true ∧ x.withdrawn = true) := by
  intro w
  have hended : ∃ a, takePart0 sender p s = a.mapImage (fun u => { u with watch := some (watchOf sender p s) })
      ∧ a.image.responder = .idle ∧ (s.image.responder ≠ .idle → a = endTransfer s) := by
    refine ⟨if s.image.responder = .idle then s else endTransfer s, takePart0_sets hs, ?_, fun hr => if_neg hr⟩
    split
    exacts [‹_›, rfl]
  obtain ⟨a, ha, hidle, hend⟩ := hended
  have hw : w = watchPart sender p (takePart0 sender p s) := by
    show watchPart sender p (if p.index = 0 then takePart0 sender p s else s) = _
    rw [if_pos h0]
  rw [ha] at hw
  have hends (hr : s.image.responder ≠ .idle) : a.image.buffer = none ∧ a.image.repeatPending = false
      ∧ ∀ x ∈ a.fe.txQueue, x.origin = .imageUnit → (∃ k, x.payload = .imagePart k) →
          x.onLine = true ∧ x.withdrawn = true := by
    rw [hend hr]
    exact ⟨rfl, rfl, fun x hx ho ⟨k, hk⟩ => endTransfer_parts hx ho hk⟩
  by_cases hl : p.index + 1 = p.count
  · rw [watchPart_last (sender := sender) (v := watchOf sender p s) (by rfl) rfl hl] at hw
    rw [hw]
    exact ⟨hidle, fun _ => rfl, fun hn => absurd hl hn, hends⟩
  · rw [watchPart_first (v := watchOf sender p s) (by rfl) hl h0] at hw
    rw [hw]
    exact ⟨hidle, fun h => absurd h hl, fun _ => rfl, hends⟩

/-- A part 0 leaves a transfer that goes on, and sets no watch (R97). -/
theorem partWatched_reported (h0 : p.index = 0) (hs : s.part0Reported) (hw : s.image.watch = none) :
    partWatched sender p s = s := by
  unfold partWatched
  rw [if_pos h0, takePart0_reported hs, watchPart_other fun v hv => absurd (hw.symm.trans hv) nofun]

/-- A later part restarts the watch on its sender, or ends it (R97). -/
theorem partWatched_later (h0 : p.index ≠ 0) :
    let w := partWatched sender p s
    (w.image.responder = s.image.responder ∧ w.image.buffer = s.image.buffer)
      ∧ (∀ v, s.image.watch = some v → v.station = sender →
          (p.index + 1 = p.count → w.image.watch = none)
          ∧ (p.index + 1 ≠ p.count → w.image.watch = some { v with timer := (watchOf sender p s).timer }))
      ∧ ((∀ v, s.image.watch = some v → v.station ≠ sender) → w.image.watch = s.image.watch) := by
  intro w
  have hw : w = watchPart sender p s := by
    show watchPart sender p (if p.index = 0 then takePart0 sender p s else s) = _
    rw [if_neg h0]
  rw [hw]
  refine ⟨?_, fun v hv hst => ⟨fun hl => ?_, fun hl => ?_⟩, fun hno => ?_⟩
  · unfold watchPart
    split
    · split
      · exact ⟨rfl, rfl⟩
      · split
        exacts [⟨rfl, rfl⟩, ⟨rfl, rfl⟩]
    · exact ⟨rfl, rfl⟩
  · rw [watchPart_last hv hst hl]
    rfl
  · rw [watchPart_later hv hst hl h0]
    rfl
  · rw [watchPart_other hno]

end
end Sys2Proof.Machine

namespace Sys2Proof.Machine
open State Sys2Proof.Config

/-! ## The collection (R101, R102) -/

section
variable {s t w : State} {sender : Station} {p : ImagePartHead} {c : Collection} {es : List Entry} {d : Option Word16}
  {digest : Word16} {e : Entry} {low : Nat}

/-- Strictly rising serials above a bound (R101). -/
theorem risingSerials_iff : risingSerials low es = true ↔ (∀ e ∈ es, low < e.serial.toNat)
    ∧ es.Pairwise fun x y => x.serial.toNat < y.serial.toNat := by
  induction es generalizing low with
  | nil => simp [risingSerials]
  | cons e es ih =>
    rw [risingSerials, Bool.and_eq_true, decide_eq_true_iff, ih, List.forall_mem_cons, List.pairwise_cons]
    exact ⟨fun ⟨hlow, habove, hrise⟩ => ⟨⟨hlow, fun x hx => Nat.lt_trans hlow (habove x hx)⟩, habove, hrise⟩,
      fun ⟨⟨hlow, _⟩, habove, hrise⟩ => ⟨hlow, habove, hrise⟩⟩

theorem decodeEntry_serial {pos : Nat} {b : List Byte} (h : decodeEntry pos b = some e) : 0 < e.serial.toNat := by
  unfold decodeEntry at h
  split at h
  · split at h
    · dsimp only at h
      split at h
      next hc =>
        obtain rfl := Option.some.inj h
        exact Nat.pos_of_ne_zero fun h0 => hc.1 (BitVec.eq_of_toNat_eq h0)
      next => exact absurd h nofun
    · exact absurd h nofun
  · exact absurd h nofun

theorem decodeEntries_serial {pos n : Nat} {b : List Byte} (h : decodeEntries pos n b = some es) :
    ∀ e ∈ es, 0 < e.serial.toNat := by
  induction n generalizing pos b es with
  | zero =>
    obtain rfl := Option.some.inj h
    exact nofun
  | succ n ih =>
    rw [decodeEntries] at h
    split at h
    next x xs hx hxs =>
      obtain rfl := Option.some.inj h
      exact List.forall_mem_cons.2 ⟨decodeEntry_serial hx, ih hxs⟩
    next => exact absurd h nofun

/-- The entries of a well-formed part have serials (R101). -/
theorem wellFormedPart_serial (h : wellFormedPart p = some (es, d)) : ∀ e ∈ es, 0 < e.serial.toNat := by
  unfold wellFormedPart at h
  obtain ⟨-, h⟩ := Option.ite_none_right_eq_some.1 h
  cases hxs : decodeEntries (4 * p.index) (entriesInPart p.entryCount p.index) p.rest with
  | none =>
    rw [hxs] at h
    exact absurd h nofun
  | some xs =>
    rw [hxs] at h
    have hes : xs = es := by
      dsimp only at h
      split at h
      exacts [(Prod.mk.inj (Option.some.inj h)).1, (Prod.mk.inj (Option.some.inj h)).1, absurd h nofun]
    exact hes ▸ decodeEntries_serial hxs

/-- A later part fits the collection (R101). -/
theorem fits_iff (hes : wellFormedPart p = some (es, d)) : c.fits p es = true ↔
    p.generation = c.generation ∧ p.count = c.partCount ∧ p.entryCount = c.entryCount ∧ p.index = c.nextIndex
      ∧ es.Pairwise (fun x y => x.serial.toNat < y.serial.toNat)
      ∧ ∀ x, c.entries.getLast? = some x → ∀ e ∈ es, x.serial.toNat < e.serial.toNat := by
  have hlow : (∀ e ∈ es, (c.entries.getLast?.map fun e => e.serial.toNat).getD 0 < e.serial.toNat)
      ↔ ∀ x, c.entries.getLast? = some x → ∀ e ∈ es, x.serial.toNat < e.serial.toNat := by
    cases c.entries.getLast? with
    | none => exact ⟨fun _ => nofun, fun _ => wellFormedPart_serial hes⟩
    | some x => exact ⟨fun h y hy => Option.some.inj hy ▸ h, fun h => h x rfl⟩
  simp only [Collection.fits, Bool.and_eq_true, beq_iff_eq, risingSerials_iff, hlow, and_assoc]
  tauto

/-- Entries are placed in the order given (R102). -/
theorem placeFrom_mapIdx (n : Nat) (l : List Entry) :
    placeFrom n l = l.mapIdx fun k e => { e with pos := n + k } := by
  induction l generalizing n with
  | nil => rfl
  | cons e l ih =>
    rw [placeFrom, ih, List.mapIdx_cons]
    refine congrArg _ (congrArg (fun f => l.mapIdx f) ?_)
    funext k x
    rw [Nat.add_right_comm, Nat.add_assoc]

/-! ### What the collection of a part leaves -/

/-- The collection of a part leaves the transfer and the watch, DEAF and the peer table, and makes no part. -/
structure CollectKept (s t : State) : Prop where
  image : t.image = { s.image with
    collection := t.image.collection, partSinceAsk := t.image.partSinceAsk, askTimer := t.image.askTimer
    askCount := t.image.askCount, askingStopped := t.image.askingStopped }
  parts : ∀ e ∈ t.fe.txQueue, e.origin = .imageUnit → (∃ k, e.payload = .imagePart k) → e ∈ s.fe.txQueue
  peers : t.peers = s.peers
  deaf : t.fe.deaf = s.fe.deaf

theorem CollectKept.refl (s : State) : CollectKept s s := ⟨rfl, fun _ he _ _ => he, rfl, rfl⟩

theorem CollectKept.trans {u : State} (hst : CollectKept s t) (htu : CollectKept t u) : CollectKept s u where
  image := by rw [htu.image, hst.image]
  parts e he ho hk := hst.parts e (htu.parts e he ho hk) ho hk
  peers := htu.peers.trans hst.peers
  deaf := htu.deaf.trans hst.deaf

/-- The station with this collection, and the ask timer restarted by the part (R95). -/
def collecting (c : Collection) (s : State) : State :=
  restartAskTimer (s.mapImage fun u => { u with collection := some c, partSinceAsk := true })

theorem collecting_eq (c : Collection) (s : State) : collecting c s = s.mapImage fun u =>
    { u with
      collection := some c, partSinceAsk := true
      askTimer := s.image.askTimer.map fun _ => s.timer s.askLength } := by
  unfold collecting restartAskTimer
  cases hn : s.image.askTimer with
  | none =>
    rw [if_neg (by rw [mapImage_image, hn]; nofun)]
    unfold State.mapImage
    dsimp only
    rw [hn]
    rfl
  | some tm =>
    rw [if_pos (by rw [mapImage_image, hn]; rfl)]
    rfl

theorem mapImage_collectKept (s : State) (x : Option Collection) :
    CollectKept s (s.mapImage fun u => { u with collection := x }) := ⟨rfl, fun _ he _ _ => he, rfl, rfl⟩

theorem collecting_kept (c : Collection) (s : State) : CollectKept s (collecting c s) := by
  rw [collecting_eq]
  exact ⟨rfl, fun _ he _ _ => he, rfl, rfl⟩

theorem submitAsk_collectKept (s : State) : CollectKept s (submit .imageUnit .imageAsk s).1 := by
  have hrest := submit_rest .imageUnit .imageAsk s
  refine ⟨by rw [hrest], fun e he _ ⟨k, hk⟩ => ?_, by rw [hrest], by rw [hrest]⟩
  rcases (submit_queues .imageUnit .imageAsk s).2.1 e he with rfl | he
  exacts [absurd hk nofun, he]

theorem ask_collectKept (s : State) : CollectKept s (ask s) := by
  have hcleared : CollectKept s (s.mapImage fun u =>
      { u with collection := none, partSinceAsk := false, askTimer := none }) := ⟨rfl, fun _ he _ _ => he, rfl, rfl⟩
  have hsubmit := hcleared.trans (submitAsk_collectKept _)
  unfold ask
  split
  · dsimp only
    split
    · exact ⟨hcleared.image, hcleared.parts, hcleared.peers, hcleared.deaf⟩
    · split
      · exact hsubmit.trans ⟨rfl, fun _ he _ _ => he, rfl, rfl⟩
      all_goals exact ⟨hsubmit.image, hsubmit.parts, hsubmit.peers, hsubmit.deaf⟩
  · exact .refl s

theorem enterSynced_collectKept (tab : Table) (gen : Word16) (s : State) : CollectKept s (enterSynced tab gen s) where
  image := by
    rw [enterSynced_image]
    rfl
  parts e he ho _ := (reconcile_imageKept (loadedWith tab gen s)).frames e he ho
  peers := by
    obtain ⟨-, -, -, hpeers, -⟩ := enterSynced_frame tab gen s
    rw [hpeers]
    rfl
  deaf := by
    obtain ⟨-, -, -, -, -, -, hfe⟩ := enterSynced_frame tab gen s
    rw [hfe]
    rfl

theorem completeCollection_kept (c : Collection) (digest : Word16) (s : State) :
    CollectKept s (completeCollection c digest s) := by
  unfold completeCollection
  split
  exacts [enterSynced_collectKept _ _ s, (mapImage_collectKept s none).trans (ask_collectKept _)]

theorem keepCollection_kept (c : Collection) (d : Option Word16) (s : State) :
    CollectKept s (keepCollection c d s) := by
  cases d with
  | none => exact collecting_kept c s
  | some digest => exact (collecting_kept c s).trans (completeCollection_kept c digest _)

theorem collect_kept (sender : Station) (p : ImagePartHead) (s : State) : CollectKept s (collect sender p s) := by
  unfold collect
  dsimp only
  split
  · split
    exacts [keepCollection_kept _ _ s, mapImage_collectKept s none]
  · split
    · exact .refl s
    · split
      · exact .refl s
      · split
        · split
          exacts [keepCollection_kept _ _ s, mapImage_collectKept s none]
        · exact mapImage_collectKept s none

end
end Sys2Proof.Machine

namespace Sys2Proof.Machine
open State Sys2Proof.Config

/-! ## The parts at a JOINING station (R101, R102) -/

section
variable {s t w : State} {sender : Station} {p : ImagePartHead} {c : Collection} {es : List Entry} {d : Option Word16}
  {digest : Word16} {generation : Word16}

/-- A part has been collected, and the ask timer restarted where it runs (R95, R101). -/
def partCollected (c : Collection) (s t : State) : Prop :=
  t.image.collection = some c ∧ t.image.partSinceAsk = true ∧ t.image.askCount = s.image.askCount ∧ t.pool = s.pool
    ∧ t.image.askTimer = s.image.askTimer.map fun _ =>
        ⟨s.timeBase, (if s.image.askCount < 3 then 3 else 5) * (s.constants.rollIntervalMs * 1000)⟩

/-- A collection has been completed: the table is loaded where the digest is right, or the station asks again (R102). -/
def partCompleted (generation : Word16) (es : List Entry) (digest : Word16) (s t : State) : Prop :=
  (crc16 (es.flatMap Entry.bytes) = digest →
    t.pool.sync = .synced ∧ t.pool.generation = generation ∧ t.pool.digest = tableDigest t.pool.table
      ∧ (∃ sorted : List Entry, sorted.Perm es ∧ sorted.Pairwise (fun x y => x.serial.toNat ≤ y.serial.toNat)
          ∧ t.pool.table = sorted.mapIdx fun k e => { e with pos := k })
      ∧ t.image.collection = none ∧ t.image.askCount = 0 ∧ t.image.askTimer = none ∧ reconciled s t)
  ∧ (crc16 (es.flatMap Entry.bytes) ≠ digest → s.mayAsk = true → s.lineFault = false → s.fe.held = [] →
      s.fe.txQueue.length + s.fe.admissionsDue < 6 →
    t.pool = s.pool ∧ t.image.collection = none ∧ t.image.askCount = s.image.askCount ∧ t.image.askTimer = none
      ∧ t.image.partSinceAsk = false ∧ ⟨.imageUnit, .imageAsk, 0, false, false⟩ ∈ t.fe.txQueue)

/-- No collection is left, and the asking is as it was (R101). -/
def collectionDiscarded (s t : State) : Prop :=
  t.pool = s.pool ∧ t.image.collection = none ∧ t.image.partSinceAsk = s.image.partSinceAsk
    ∧ t.image.askTimer = s.image.askTimer

/-- What the watch leaves of the station: its pool engine, its clock and the asking. -/
theorem Watched.kept (hw : Watched s w) : w.pool = s.pool ∧ w.timeBase = s.timeBase ∧ w.constants = s.constants
    ∧ w.image.collection = s.image.collection ∧ w.image.partSinceAsk = s.image.partSinceAsk
    ∧ w.image.askTimer = s.image.askTimer ∧ w.image.askCount = s.image.askCount := by
  refine ⟨by rw [hw.rest], by rw [hw.rest], by rw [hw.rest], ?_, ?_, ?_, ?_⟩
  all_goals rw [hw.image]

/-- A station that may ask and has room may ask when frames of its image unit have been withdrawn. -/
theorem ask_again {a : State} (ha : ImageWithdrew s a) (hstopped : a.image.askingStopped = s.image.askingStopped)
    (hm : s.mayAsk = true) (hl : s.lineFault = false) (hh : s.fe.held = [])
    (hroom : s.fe.txQueue.length + s.fe.admissionsDue < 6) : Asked a (ask a) := by
  have hline : a.lineFault = s.lineFault := by rw [ha.rest]
  have hpeers : a.peers = s.peers := by rw [ha.rest]
  have hsynced : a.synced = s.synced := by rw [ha.rest]; rfl
  refine ask_asked ?_ (hline.trans hl) (List.subset_nil.1 (hh ▸ ha.held)) (Nat.lt_of_le_of_lt ha.room hroom)
  rw [State.mayAsk, hstopped, hpeers, hsynced]
  exact hm

theorem collecting_collected (hw : Watched s w) (c : Collection) : partCollected c s (collecting c w) := by
  obtain ⟨hpool, htime, hconstants, -, -, htimer, hcount⟩ := hw.kept
  rw [collecting_eq, htimer]
  refine ⟨rfl, rfl, hcount, hpool, ?_⟩
  show (s.image.askTimer.map fun _ => w.timer w.askLength) = _
  rw [State.timer, State.askLength, State.rollInterval, hcount, htime, hconstants]

theorem collecting_withdrew (hw : Watched s w) (c : Collection) : ImageWithdrew s (collecting c w) := by
  rw [collecting_eq]
  exact hw.toImageWithdrew.mapImage _

theorem completeCollection_completed (hl : s.isLive = true) (hj : s.pool.sync = .joining) (hw : Watched s w)
    (c : Collection) (digest : Word16) :
    partCompleted c.generation c.entries digest s (completeCollection c digest (collecting c w)) := by
  unfold completeCollection
  refine ⟨fun hd => ?_, fun hd hmay hline hheld hroom => ?_⟩
  · rw [if_pos hd]
    have hpool := enterSynced_pool (placeFrom 0 (canonical c.entries)) c.generation (collecting c w)
    have himage := enterSynced_image (placeFrom 0 (canonical c.entries)) c.generation (collecting c w)
    refine ⟨by rw [hpool], by rw [hpool], by rw [hpool],
      ⟨canonical c.entries, canonical_perm _, sortBy_pairwise _ _, ?_⟩, by rw [himage]; rfl, by rw [himage]; rfl, by rw [himage]; rfl,
      enterSynced_reconciled hl (collecting_withdrew hw c) _ _⟩
    rw [hpool, placeFrom_mapIdx]
    simp only [Nat.zero_add]
  · rw [if_neg hd]
    obtain ⟨hpool, -, -, -, -, -, hcount⟩ := hw.kept
    have hstopped : (collecting c w).image.askingStopped = s.image.askingStopped := by
      rw [collecting_eq, mapImage_image, hw.image]
    have hasked := ask_again ((collecting_withdrew hw c).mapImage fun u => { u with collection := none }) hstopped hmay
      hline hheld hroom
    rw [collecting_eq] at hasked ⊢
    refine ⟨(hasked.pool_kept (by rw [mapImage_pool, mapImage_pool, hpool]; exact hj)).trans hpool, ?_, ?_, ?_, ?_,
      hasked.queued⟩
    all_goals rw [hasked.image]
    exact hcount

/-- A part taken into a collection is kept there, or completes it (R101, R102). -/
theorem keepCollection_collects (hl : s.isLive = true) (hj : s.pool.sync = .joining) (hw : Watched s w)
    (c : Collection) (d : Option Word16) :
    (d = none → partCollected c s (keepCollection c d w))
      ∧ ∀ digest, d = some digest → partCompleted c.generation c.entries digest s (keepCollection c d w) := by
  constructor
  · rintro rfl
    exact collecting_collected hw c
  · rintro digest rfl
    exact completeCollection_completed hl hj hw c digest

theorem discard_discarded (hw : Watched s w) :
    collectionDiscarded s (w.mapImage fun u => { u with collection := none }) := by
  obtain ⟨hpool, -, -, -, hsince, htimer, -⟩ := hw.kept
  exact ⟨hpool, rfl, hsince, htimer⟩

/-! ### The rows of R101 -/

theorem collect_first_ill (h0 : p.index = 0) (hp : wellFormedPart p = none) :
    collect sender p s = s.mapImage fun u => { u with collection := none } := by
  unfold collect
  dsimp only
  rw [if_pos h0, hp]

theorem collect_first (h0 : p.index = 0) (hp : wellFormedPart p = some (es, d)) : collect sender p s
    = keepCollection ⟨sender, p.generation, p.count, p.entryCount, 1, es⟩ d s := by
  unfold collect
  dsimp only
  rw [if_pos h0, hp]

theorem collect_later_other (h0 : p.index ≠ 0) (hc : ∀ c, s.image.collection = some c → c.responder ≠ sender) :
    collect sender p s = s := by
  unfold collect
  dsimp only
  rw [if_neg h0]
  split
  next => rfl
  next c hc' => exact if_pos (hc c hc')

theorem collect_later_discards (h0 : p.index ≠ 0) (hc : s.image.collection = some c) (hr : c.responder = sender)
    (hp : ∀ es d, wellFormedPart p = some (es, d) → ¬c.fits p es = true) :
    collect sender p s = s.mapImage fun u => { u with collection := none } := by
  unfold collect
  dsimp only
  rw [if_neg h0, hc]
  dsimp only
  rw [if_neg (not_not_intro hr)]
  split
  next es d hes => exact if_neg (hp es d hes)
  next => rfl

theorem collect_later_fits (h0 : p.index ≠ 0) (hc : s.image.collection = some c) (hr : c.responder = sender)
    (hp : wellFormedPart p = some (es, d)) (hf : c.fits p es = true) : collect sender p s
      = keepCollection { c with nextIndex := c.nextIndex + 1, entries := c.entries ++ es } d s := by
  unfold collect
  dsimp only
  rw [if_neg h0, hc]
  dsimp only
  rw [if_neg (not_not_intro hr), hp]
  exact if_pos hf

/-! ## A part is taken (R97, R101) -/

theorem takeImagePart_eq {data : List Byte} (hp : imagePartHead data = some p) : takeImagePart sender data s
    = if s.pool.sync = .joining then collect sender p (partWatched sender p s) else partWatched sender p s := by
  obtain ⟨hpool, -⟩ := (partWatched_watched sender p s).kept
  unfold takeImagePart
  rw [hp]
  show (if (partWatched sender p s).pool.sync = .joining then collect sender p (partWatched sender p s)
    else partWatched sender p s) = _
  rw [hpool]

theorem takeImagePart_kept {data : List Byte} (hp : imagePartHead data = some p) :
    CollectKept (partWatched sender p s) (takeImagePart sender data s) := by
  rw [takeImagePart_eq hp]
  split
  exacts [collect_kept sender p _, .refl _]

theorem CollectKept.transfer (ht : CollectKept s t) :
    t.image.responder = s.image.responder ∧ t.image.buffer = s.image.buffer
      ∧ t.image.repeatPending = s.image.repeatPending ∧ t.image.watch = s.image.watch := by
  refine ⟨?_, ?_, ?_, ?_⟩
  all_goals rw [ht.image]

end

/-- Settles O35: the watch and the responder by `partWatched_first` and `partWatched_later`, which the collection leaves
by `collect_kept`; the collection by the rows of R101, and the station that enters SYNCED is reconciled by
`enterSynced_reconciled`. -/
theorem imagePartIsCollected : Obligations.ImagePartIsCollected := by
  unfold Obligations.ImagePartIsCollected
  intro i p s hl hq hk hm hpeers hpool hown hdeaf hp last watch started collected completed
  have htake := imageTake_part (s := imageOffered i [] s) hown hk
  have hwatched : Watched (imageOffered i [] s) (partWatched i.sender p (imageOffered i [] s)) :=
    partWatched_watched _ _ _
  have hkept : CollectKept (partWatched i.sender p (imageOffered i [] s))
      (takeImagePart i.sender i.data (imageOffered i [] s)) := takeImagePart_kept hp
  have hrun : takeImagePart i.sender i.data (imageOffered i [] s) = _ := takeImagePart_eq hp
  have hhears : (takeImagePart i.sender i.data (imageOffered i [] s)).fe.deaf = false := by
    rw [hkept.deaf, hwatched.rest]
    exact hdeaf
  have hexec := exec_imagePart hl hq hk hm
  have hcell := imageTake_cell hq
  rw [htake, depart_alone hhears (by rw [takeImagePart_rxQueue]; rfl) (imageOffered_taken (i := i) hpeers hpool)]
    at hexec hcell
  obtain ⟨hresponder, hbuffer, hrepeat, hwatch⟩ := hkept.transfer
  have hp0 := partWatched_first (sender := i.sender) (p := p) (s := imageOffered i [] s)
  have hpk := partWatched_later (sender := i.sender) (p := p) (s := imageOffered i [] s)
  have hgoes := partWatched_reported (sender := i.sender) (p := p) (s := imageOffered i [] s)
  refine ⟨_, hexec, hcell, ?_, rfl, fun h0 hns => ?_, fun h0 hst hnone => ?_, fun h0 => ?_, fun hs => ?_, fun hs => ?_⟩
  · exact hkept.peers.trans (by rw [hwatched.rest]; rfl)
  · obtain ⟨hidle, hlast, hset, hends⟩ := hp0 h0 hns
    refine ⟨hresponder.trans hidle, fun hl => hwatch.trans (hlast hl), fun hl => hwatch.trans (hset hl), fun hr => ?_⟩
    obtain ⟨hbuf, hrep, hparts⟩ := hends hr
    exact ⟨hbuffer.trans hbuf, hrepeat.trans hrep, fun x hx ho hk => hparts x (hkept.parts x hx ho hk) ho hk⟩
  · have hsame := hgoes h0 hst hnone
    rw [hsame] at hresponder hbuffer hwatch
    exact ⟨hwatch.trans hnone, hresponder.trans hst.1, hbuffer⟩
  · obtain ⟨⟨hr, hb⟩, hsame, hother⟩ := hpk h0
    exact ⟨hresponder.trans hr, hbuffer.trans hb, fun v hv hst =>
      ⟨fun hl => hwatch.trans ((hsame v hv hst).1 hl), fun hl => hwatch.trans ((hsame v hv hst).2 hl)⟩,
      fun hno => hwatch.trans (hother hno)⟩
  · rw [if_neg (by exact hs)] at hrun
    obtain ⟨hpool, -, -, hcollection, hsince, htimer, hcount⟩ := hwatched.kept
    rw [hrun]
    exact ⟨hpool, hcollection, hsince, htimer, hcount⟩
  · rw [if_pos (by exact hs)] at hrun
    obtain ⟨hpool, -, -, hcollection, hsince, htimer, -⟩ := hwatched.kept
    have hkeeps := keepCollection_collects (by exact hl) (by exact hs) hwatched
    have hdiscards := discard_discarded hwatched
    generalize partWatched i.sender p (imageOffered i [] s) = w at hrun hpool hcollection hsince htimer hkeeps hdiscards
    rw [hrun]
    refine ⟨fun h0 hill => ?_, fun es d h0 hes => ?_, fun h0 hno => ?_,
      fun c h0 hc hr => ⟨fun hill => ?_, fun es d hes hf => ?_⟩⟩
    · rw [collect_first_ill h0 hill]
      exact hdiscards
    · rw [collect_first h0 hes]
      exact hkeeps _ d
    · rw [collect_later_other h0 fun c hc => hno c (hcollection.symm.trans hc)]
      exact ⟨hpool, hcollection, hsince, htimer⟩
    · rw [collect_later_discards h0 (hcollection.trans hc) hr fun es d hes hfit => ?_]
      · exact hdiscards
      · rcases hill with hill | ⟨es', d', hes', hno⟩
        · exact absurd (hill.symm.trans hes) nofun
        · obtain ⟨rfl, rfl⟩ := Prod.mk.inj (Option.some.inj (hes'.symm.trans hes))
          exact hno ((fits_iff hes).1 hfit)
    · rw [collect_later_fits h0 (hcollection.trans hc) hr hes ((fits_iff hes).2 hf)]
      have hgeneration : p.generation = c.generation := hf.1
      show (d = none → partCollected _ _ _) ∧ ∀ digest, d = some digest → partCompleted p.generation _ digest _ _
      rw [hgeneration]
      exact hkeeps _ d

end Sys2Proof.Machine
